-- ==== Sys2Proof/Word.lean ====
section
/-! DEFINITION. The word types of the HS-3: bytes of the links and the 32-bit counters that wrap. -/

namespace Sys2Proof

/-- A byte of a link frame or of a log record (spec/09 and R141). -/
abbrev Byte := BitVec 8

/-- A 32-bit quantity that wraps: the station clock (R20), capture ticks (R23), sequences (R142),
the quadrature count (R1). -/
abbrev Word32 := BitVec 32

end Sys2Proof
end

