-- ==== Sys2Proof/Syntax.lean ====
section
/-! DEFINITION. The commands of the HS-3: one constructor of `Instr` per row of spec/opcode_table.json, in
the table's order, with the row's operands. A request carries the port it arrived on and its payload; an
event carries what the world decides. -/

namespace Sys2Proof

/-- The three link ports: L and T (SPI, logger and telemetry unit), C (asynchronous, winch controller). -/
inductive Port where
  | l
  | t
  | c
  deriving DecidableEq, Repr

/-- How a request frame on a port fails to be received whole (R164, R170, R173). -/
inductive BadFrame where
  /-- An SPI transaction whose first byte is neither SEND nor FETCH, and the bytes clocked after it (R170). -/
  | firstByte (b : Byte) (after : Nat)
  /-- The bytes from the command byte to the end of the frame do not make a whole frame (R164). -/
  | bytes (bs : List Byte)
  /-- On port C a character of the frame came with its stop bit low (R173). -/
  | stopBit (bs : List Byte)
  deriving DecidableEq, Repr

/-- The commands. Operands that are not a request's own:
`verifies` the outcomes of the programs and erases the start-up scan makes, in order, true where the list ends (log 14);
`fa fb` the new encoder pair; `periodTotal` the 100 ns ticks of 256 PW periods;
`headerOk unitOk` whether the header, if one was programmed, and the unit verified;
`ok badHeaderOk` whether the block reads erased, and whether a BAD header, if one is attempted, was programmed;
`bytes` of FETCH the bytes the master clocks after the FETCH byte;
`maintClosed` the MAINT contact at the arrival of the request (log 17). -/
inductive Instr where
  /-- POWER_ON (R191). -/
  | powerOn
  /-- POWER_LOSS (R138). -/
  | powerLoss
  /-- RESET_PIN_ASSERT (R191). -/
  | resetPinAssert
  /-- RESET_PIN_RELEASE (R191). -/
  | resetPinRelease
  /-- STATION_RESET_TAKES_EFFECT (R191). -/
  | stationResetTakesEffect
  /-- READY_ENTRY (R193). -/
  | readyEntry (verifies : List Bool)
  /-- GET_IDENT_DEFERRED_REPLY (R189). -/
  | getIdentDeferredReply (p : Port)
  /-- ENCODER_TRANSITION (R1). -/
  | encoderTransition (fa fb : Bool)
  /-- MEASUREMENT_COMPLETE (R9). -/
  | measurementComplete (periodTotal : Nat)
  /-- MEASUREMENT_ABANDONED (R8). -/
  | measurementAbandoned
  /-- PRESSURE_NO_SIGNAL (R12). -/
  | pressureNoSignal
  /-- SCHEDULED_SAMPLE (R25). -/
  | scheduledSample
  /-- SIREN_TIMER_EXPIRY (R81). -/
  | sirenTimerExpiry
  /-- SIREN_TEST_EXPIRY (R84). -/
  | sirenTestExpiry
  /-- SILENCE_TIMER_EXPIRY (R105). -/
  | silenceTimerExpiry
  /-- PARK_TIMER_EXPIRY (R108). -/
  | parkTimerExpiry
  /-- METER_CLOSURE (R115). -/
  | meterClosure
  /-- OBSERVATION_COMPLETE (R97). -/
  | observationComplete
  /-- TRAILER_HANDOVER (R110). -/
  | trailerHandover
  /-- APPEND_GRANT (R143). -/
  | appendGrant
  /-- JOURNAL_GRANT (R157). -/
  | journalGrant
  /-- RATING_IMAGE_GRANT (R159). -/
  | ratingImageGrant
  /-- CONFIG_SAVE_GRANT (R160). -/
  | configSaveGrant
  /-- IDENT_WRITE_GRANT (R161). -/
  | identWriteGrant
  /-- UNIT_PROGRAM_COMPLETE (R138). -/
  | unitProgramComplete (headerOk unitOk : Bool)
  /-- ERASE_AHEAD_START (R144). -/
  | eraseAheadStart
  /-- BLOCK_RETIRE (R144). -/
  | blockRetire
  /-- ERASE_LOG_BLOCK_ERASE (R155). -/
  | eraseLogBlockErase
  /-- ERASE_SUSPEND (R147). -/
  | eraseSuspend
  /-- ERASE_COMPLETE (R138). -/
  | eraseComplete (ok badHeaderOk : Bool)
  /-- READ_LOG_GRANT (R152). -/
  | readLogGrant
  /-- SEEK_LOG_STEP (R153). -/
  | seekLogStep
  /-- READ_JOURNAL_GRANT (R158). -/
  | readJournalGrant
  /-- FRAME_DISCARD (R164). -/
  | frameDiscard (p : Port) (f : BadFrame)
  /-- FRAME_GAP_TIMEOUT (R173). -/
  | frameGapTimeout (bytes : List Byte)
  /-- REQUEST_OVERRUN (R168). -/
  | requestOverrun (p : Port) (code : Byte) (payload : List Byte)
  /-- UNKNOWN_COMMAND (R169). -/
  | unknownCommand (p : Port) (code : Byte) (payload : List Byte)
  /-- FETCH (R171). -/
  | fetch (p : Port) (bytes : Nat)
  /-- REPLY_TRANSMIT_START (R174). -/
  | replyTransmitStart
  /-- REPLY_TRANSMIT_DONE (R174). -/
  | replyTransmitDone
  /-- PORT_C_BREAK (R175). -/
  | portCBreak
  /-- PORTC_DIVIDER_LOAD (R172). -/
  | portcDividerLoad
  /-- GET_IDENT (R189). -/
  | getIdent (p : Port) (payload : List Byte)
  /-- GET_TIME (R32). -/
  | getTime (p : Port) (payload : List Byte)
  /-- SET_TIME (R27). -/
  | setTime (p : Port) (payload : List Byte)
  /-- LINK_RESET (R176). -/
  | linkReset (p : Port) (payload : List Byte)
  /-- STATION_RESET (R191). -/
  | stationReset (p : Port) (payload : List Byte)
  /-- FETCH_EVENTS (R182). -/
  | fetchEvents (p : Port) (payload : List Byte)
  /-- SET_EVENT_GROUPS (R183). -/
  | setEventGroups (p : Port) (payload : List Byte)
  /-- GET_STAGE (R45). -/
  | getStage (p : Port) (payload : List Byte)
  /-- READ_SOURCES (R19). -/
  | readSources (p : Port) (payload : List Byte)
  /-- SET_REFERENCE (R15). -/
  | setReference (p : Port) (payload : List Byte)
  /-- SELECT_SOURCE (R33). -/
  | selectSource (p : Port) (payload : List Byte)
  /-- REQUEST_SAMPLE (R31). -/
  | requestSample (p : Port) (payload : List Byte)
  /-- GET_RATING (R71). -/
  | getRating (p : Port) (payload : List Byte)
  /-- QUERY_DISCHARGE (R70). -/
  | queryDischarge (p : Port) (payload : List Byte)
  /-- DRAFT_BEGIN (R53). -/
  | draftBegin (p : Port) (payload : List Byte)
  /-- DRAFT_PUT_POINTS (R54). -/
  | draftPutPoints (p : Port) (payload : List Byte)
  /-- DRAFT_TRUNCATE (R55). -/
  | draftTruncate (p : Port) (payload : List Byte)
  /-- DRAFT_PUT_SHIFT (R56). -/
  | draftPutShift (p : Port) (payload : List Byte)
  /-- DRAFT_SET_EXTENSION (R57). -/
  | draftSetExtension (p : Port) (payload : List Byte)
  /-- DRAFT_ACTIVATE (R59). -/
  | draftActivate (p : Port) (payload : List Byte)
  /-- DRAFT_DISCARD (R58). -/
  | draftDiscard (p : Port) (payload : List Byte)
  /-- GET_WARNING (R87). -/
  | getWarning (p : Port) (payload : List Byte)
  /-- ACK_SIREN (R82). -/
  | ackSiren (p : Port) (payload : List Byte)
  /-- TEST_SIREN (R84). -/
  | testSiren (p : Port) (payload : List Byte)
  /-- RUN_OPEN (R91). -/
  | runOpen (p : Port) (payload : List Byte)
  /-- VERTICAL_BEGIN (R95). -/
  | verticalBegin (p : Port) (payload : List Byte)
  /-- POINT_START (R96). -/
  | pointStart (p : Port) (payload : List Byte)
  /-- VERTICAL_END (R98). -/
  | verticalEnd (p : Port) (payload : List Byte)
  /-- VERTICAL_CANCEL (R99). -/
  | verticalCancel (p : Port) (payload : List Byte)
  /-- VERTICAL_REMOVE (R100). -/
  | verticalRemove (p : Port) (payload : List Byte)
  /-- RUN_CLOSE (R101). -/
  | runClose (p : Port) (payload : List Byte)
  /-- RUN_ABANDON (R103). -/
  | runAbandon (p : Port) (payload : List Byte)
  /-- RUN_RESUME (R106). -/
  | runResume (p : Port) (payload : List Byte)
  /-- RUN_STATUS (R112). -/
  | runStatus (p : Port) (payload : List Byte)
  /-- GET_VERTICAL (R111). -/
  | getVertical (p : Port) (payload : List Byte)
  /-- GET_GAUGINGS (R135). -/
  | getGaugings (p : Port) (payload : List Byte)
  /-- READ_LOG (R152). -/
  | readLog (p : Port) (payload : List Byte)
  /-- SEEK_LOG (R153). -/
  | seekLog (p : Port) (payload : List Byte)
  /-- STORE_STATUS (R154). -/
  | storeStatus (p : Port) (payload : List Byte)
  /-- READ_JOURNAL (R158). -/
  | readJournal (p : Port) (payload : List Byte)
  /-- ERASE_LOG (R155). -/
  | eraseLog (p : Port) (payload : List Byte)
  /-- GET_CONFIG (R186). -/
  | getConfig (p : Port) (payload : List Byte)
  /-- SET_CONFIG (R187). -/
  | setConfig (p : Port) (payload : List Byte)
  /-- SAVE_CONFIG (R188). -/
  | saveConfig (p : Port) (payload : List Byte)
  /-- SET_PERMISSIONS (R179). -/
  | setPermissions (p : Port) (payload : List Byte) (maintClosed : Bool)
  /-- WRITE_IDENT (R190). -/
  | writeIdent (p : Port) (payload : List Byte) (maintClosed : Bool)
  /-- STATION_CLOCK_ADVANCE (R20). -/
  | stationClockAdvance
  /-- BACKUP_STORE_EXHAUSTED (R20). -/
  | backupStoreExhausted
  /-- PORT_C_LINE_RETURNS_HIGH (R175). -/
  | portCLineReturnsHigh
  deriving DecidableEq, Repr

end Sys2Proof
end

