-- ==== Sys2Proof/Decode.lean ====
section
/-! DEFINITION. The command a word spells. The opcode table gives no row any bits (log 39). -/

namespace Sys2Proof

/-- No row of the opcode table has bits, so no word spells a command (log 39). -/
def decodeTableWord (_nbits _w : Nat) : Option Instr := none

end Sys2Proof
end

