-- ==== Sys2Proof/Config.lean ====
section
/-! DEFINITION. The free values: what the manual leaves open and the part fixes somehow. None has a body,
so no proof can rest on one. Each is named in a log entry. -/

namespace Sys2Proof

/-- What a flash unit reads as after its program, or the erase of its block, was cut short: erased, not
checking against its CRC, or as sent (for a program) or as it was (for an erase). R138 calls it unknown. -/
inductive Torn where
  | erased
  | garbled
  | whole
  deriving DecidableEq, Repr, Inhabited

/-- FREE VALUE (log 5, R138): what the n-th torn unit reads as. -/
opaque Config.tornUnit : Nat → Torn

/-- FREE VALUE (log 9, R109): whether the n-th sample whose own level rise parks the run is accumulated
before the park. -/
opaque Config.stageBeforePark : Nat → Bool

/-- FREE VALUE (log 10, R25): the next sample time when no multiple of the interval greater than the
given station time is left below 2^32. -/
opaque Config.sampleTimeAtWrap : Nat → Nat → Word32

/-- FREE VALUE (log 11, R113): the close time in the trailer the start-up scan writes for the run of the given id. -/
opaque Config.scanCloseTime : Nat → Word32

/-- FREE VALUE (log 14, R192): the outcomes of the programs and erases that the start-up scan had ended, in order, when the
n-th reset or loss of supply broke it off. -/
opaque Config.scanEnded : Nat → List Bool

/-- FREE VALUE (log 14, R192): whether the scan's next program or erase was under way then. -/
opaque Config.scanUnderWay : Nat → Bool

/-- FREE VALUE (log 12, R160): decides how many units a configuration save needs. -/
opaque Config.saveUnits : Nat

end Sys2Proof
end

