-- ==== Sys2Proof/Machine/Arith.lean ====
section
/-! DEFINITION. Rounding and clamping (spec/00, Arithmetic and rounding), and modular distance. -/

namespace Sys2Proof.Machine

/-- Round half up of n / d for quantities that cannot be negative (spec/00). -/
def roundHalfUp (n d : Nat) : Nat := (2 * n + d) / (2 * d)

/-- Round half away from zero of n / d for signed quantities (spec/00). -/
def roundHalfAway (n : Int) (d : Nat) : Int :=
  if n < 0 then -(roundHalfUp n.natAbs d : Int) else (roundHalfUp n.natAbs d : Int)

/-- The value of [lo, hi] nearest to x. -/
def clampInt (lo hi x : Int) : Int := if x < lo then lo else if hi < x then hi else x

/-- The least and greatest stage the part carries (spec/00, Units and ranges). -/
def stageMin : Int := -9999
/-- See stageMin. -/
def stageMax : Int := 29999

/-- A stage clamped to the stage range (R3, R10). -/
def clampStage (x : Int) : Int := clampInt stageMin stageMax x

/-- Whether x lies in [lo, hi]. -/
def inRange (lo hi x : Int) : Bool := decide (lo ≤ x) && decide (x ≤ hi)

/-- b − a modulo 2^32, as a number: how far b lies after a (R23, R142). -/
def distance (a b : Word32) : Nat := (b - a).toNat

/-- A count that stops at its limit. -/
def saturate (limit n : Nat) : Nat := if limit < n then limit else n

end Sys2Proof.Machine
end

