-- ==== Sys2Proof/Machine/Bytes.lean ====
section
/-! DEFINITION. Little-endian fields (spec/00, Numbers and layouts), flag bytes (R165) and the CRC (R166). -/

namespace Sys2Proof.Machine

/-- A 1-byte field. -/
def le8 (n : Nat) : List Byte := [BitVec.ofNat 8 n]

/-- A 2-byte field, least significant byte first. -/
def le16 (n : Nat) : List Byte := [BitVec.ofNat 8 n, BitVec.ofNat 8 (n / 256)]

/-- A 4-byte field, least significant byte first. -/
def le32 (n : Nat) : List Byte := le16 n ++ le16 (n / 65536)

/-- A 2-byte signed field. -/
def sle16 (i : Int) : List Byte := le16 (BitVec.ofInt 16 i).toNat

/-- A 4-byte signed field. -/
def sle32 (i : Int) : List Byte := le32 (BitVec.ofInt 32 i).toNat

/-- A 4-byte field holding a wrapping 32-bit quantity. -/
def leWord (w : Word32) : List Byte := le32 w.toNat

/-- The number a 2-byte field carries. -/
def u16 (a b : Byte) : Nat := a.toNat + 256 * b.toNat

/-- The number a 4-byte field carries. -/
def u32 (a b c d : Byte) : Nat := u16 a b + 65536 * u16 c d

/-- The signed number a 2-byte field carries. -/
def s16 (a b : Byte) : Int := (BitVec.ofNat 16 (u16 a b)).toInt

/-- The signed number a 4-byte field carries. -/
def s32 (a b c d : Byte) : Int := (BitVec.ofNat 32 (u32 a b c d)).toInt

/-- The station time or sequence a 4-byte field carries. -/
def word32 (a b c d : Byte) : Word32 := BitVec.ofNat 32 (u32 a b c d)

/-- Flags from bit 0 upward, as a number. -/
def bitsNat : List Bool → Nat
  | [] => 0
  | b :: bs => b.toNat + 2 * bitsNat bs

/-- Flags take bits 0 upward in the order listed (R165). -/
def flagsByte (bs : List Bool) : List Byte := le8 (bitsNat bs)

/-- The flag of a value that may be absent. -/
def present {α : Type} (o : Option α) : Bool := o.isSome

/-- One shift of the CRC register (R166). -/
def crcShift (r : BitVec 16) : BitVec 16 :=
  if r.msb then (r <<< 1) ^^^ 0x1021#16 else r <<< 1

/-- The CRC register after one byte (R166). -/
def crcByte (r : BitVec 16) (b : Byte) : BitVec 16 :=
  let x := r ^^^ (b.setWidth 16 <<< 8)
  crcShift (crcShift (crcShift (crcShift (crcShift (crcShift (crcShift (crcShift x)))))))

/-- The CRC of a run of bytes: polynomial 0x1021, initial value 0xFFFF, no final inversion (R166). -/
def crc16 (bs : List Byte) : BitVec 16 := bs.foldl crcByte 0xFFFF#16

/-- Bytes followed by their CRC, low byte first (R166). -/
def withCrc (bs : List Byte) : List Byte := bs ++ le16 (crc16 bs).toNat

end Sys2Proof.Machine
end

