-- ==== Sys2Proof/Machine/Frames.lean ====
section
/-! DEFINITION. The command codes, their families (spec/09, Command codes; R178) and the checks on a
received frame (R164, R170, R173). -/

namespace Sys2Proof.Machine

/-- The seven command families of the permission table (spec/09, Permissions). -/
inductive Family where
  | read
  | stage
  | rating
  | run
  | ack
  | config
  | admin
  deriving DecidableEq, Repr

/-- The bit of a family in a permission set (R179). -/
def Family.bit : Family → Nat
  | .read => 0
  | .stage => 1
  | .rating => 2
  | .run => 3
  | .ack => 4
  | .config => 5
  | .admin => 6

/-- What the command table says of a code: a command of a family, one of no family, or no command. -/
inductive CodeClass where
  | family (f : Family)
  | free
  | unknown
  deriving DecidableEq, Repr

/-- The command table (spec/09, Command codes). -/
def codeClass (code : Nat) : CodeClass :=
  if code ∈ [0x01, 0x02, 0x10, 0x11, 0x20, 0x21, 0x30, 0x49, 0x4A, 0x4B, 0x50, 0x51, 0x52, 0x53, 0x60] then .family .read
  else if code ∈ [0x12, 0x13, 0x14] then .family .stage
  else if code ∈ [0x22, 0x23, 0x24, 0x25, 0x26, 0x27, 0x28] then .family .rating
  else if code ∈ [0x40, 0x41, 0x42, 0x43, 0x44, 0x45, 0x46, 0x47, 0x48] then .family .run
  else if code ∈ [0x31, 0x32] then .family .ack
  else if code ∈ [0x03, 0x61, 0x62] then .family .config
  else if code ∈ [0x05, 0x54, 0x63, 0x64] then .family .admin
  else if code ∈ [0x04, 0x06, 0x07] then .free
  else .unknown

/-- The greatest payload length of a frame (spec/09, Frames). -/
def maxPayload : Nat := 240

/-- A request frame as it is sent: command code, length, payload, CRC (R164). -/
def requestFrame (code : Byte) (payload : List Byte) : List Byte :=
  withCrc (code :: BitVec.ofNat 8 payload.length :: payload)

/-- The request a frame's bytes make when they are received whole (R164): the length byte is at most 240,
exactly n + 4 bytes arrived, and the CRC carried is the CRC computed. -/
def frameWhole : List Byte → Option (Byte × List Byte)
  | code :: len :: rest =>
    if len.toNat ≤ maxPayload ∧ rest.length = len.toNat + 2 ∧
        code :: len :: rest = withCrc (code :: len :: rest.take len.toNat) then
      some (code, rest.take len.toNat)
    else none
  | _ => none

/-- Whether the bytes of a frame under way on port C are short of its end (R173): fewer than the n + 4
bytes its length byte asks for, and a length byte that is not above 240. No byte yet, right after the start byte, is a
frame under way as well, so that a gap there discards it with FRAME_ERROR: the model's choice (log 56). -/
def frameUnderWay : List Byte → Bool
  | _ :: len :: rest => decide (len.toNat ≤ maxPayload) && decide (rest.length < len.toNat + 2)
  | _ => true

end Sys2Proof.Machine

namespace Sys2Proof

/-- Whether what arrived on the port is a frame to be discarded with FRAME_ERROR (R164, R170, R173).
On port C a frame cut short is a gap (R173) and not of this kind, and bytes after the last CRC byte are
outside the frame. -/
def BadFrame.isDiscarded (p : Port) : BadFrame → Bool
  | .firstByte b _ => decide (p ≠ .c) && decide (b ≠ 0xA5#8) && decide (b ≠ 0x5A#8)
  | .bytes bs =>
    if p = .c then
      match bs with
      | _ :: len :: rest =>
        decide (Machine.maxPayload < len.toNat) ||
          (decide (rest.length = len.toNat + 2) && (Machine.frameWhole bs).isNone)
      | _ => false
    else (Machine.frameWhole bs).isNone
  | .stopBit _ => decide (p = .c)

/-- The bytes of the transaction a bad frame came in, its first byte included (R170). -/
def BadFrame.clocks : BadFrame → Nat
  | .firstByte _ after => 1 + after
  | .bytes bs => 1 + bs.length
  | .stopBit bs => 1 + bs.length

/-- Whether the port is an SPI port (R170). -/
def Port.isSpi : Port → Bool
  | .l => true
  | .t => true
  | .c => false

/-- The port's number in payloads: 1 L, 2 T, 3 C (R71, R179). -/
def Port.number : Port → Nat
  | .l => 1
  | .t => 2
  | .c => 3

end Sys2Proof
end

