-- ==== Sys2Proof/Machine/Types.lean ====
section
/-! DEFINITION. The records the state of the HS-3 is made of, block by block, under the manual's names. -/

namespace Sys2Proof.Machine

/-! ### Power and time (R20 to R32, R191 to R193) -/

/-- Where the part stands: without supply, held by RESET, in STARTING, in READY (R191). -/
inductive Phase where
  | off
  | held
  | starting
  | ready
  deriving DecidableEq, Repr

/-- The warning levels in rising order (spec/00, Names). -/
inductive Level where
  | normal
  | watch
  | warning
  | danger
  deriving DecidableEq, Repr

/-- The last large step of the clock (R29). -/
structure LastStep where
  old : Word32
  new : Word32
  uptime : Nat
  deriving DecidableEq, Repr

/-- The backup domain (R20, R189). `subSecond` counts 1/10^7 capture ticks of the second under way (log 8);
`held` says the clock waits at 0 for the start-up scan (R21). -/
structure BackupDomain where
  clock : Word32
  subSecond : Nat
  unset : Bool
  lastStep : Option LastStep
  valid : Bool
  held : Bool
  trim : Int
  deriving DecidableEq, Repr

/-- The sampling schedule (R25) and the spacing of requested samples (R31). -/
structure Schedule where
  nextSample : Word32
  lastSample : Option Word32
  lastUptime : Option Nat
  deriving DecidableEq, Repr

/-! ### Sensors (R1 to R19) -/

/-- Qualities of both channels, coded as in R19. -/
inductive Quality where
  | good
  | restored
  | suspect
  | stalled
  | overtopped
  | outOfRange
  | noSignal
  deriving DecidableEq, Repr

/-- The reference origin of the float channel (R5). -/
inductive RefOrigin where
  | restored
  | set
  deriving DecidableEq, Repr

/-- The float channel (R1 to R7, R14). -/
structure FloatChannel where
  prevPair : Option (Bool × Bool)
  count : Word32
  phaseErrors : Nat
  refCount : Word32
  refStage : Int
  origin : RefOrigin
  stallMark : Bool
  lastHanded : Option Quality
  scaleUm : Int
  floatTop : Int
  deriving DecidableEq, Repr

/-- A completed pressure measurement (R9). -/
structure Measurement where
  freq : Nat
  completedAt : Nat
  deriving DecidableEq, Repr

/-- The pressure channel (R8 to R14). `signalSeen` is set while the quality has left NO_SIGNAL and no
PRESSURE_NO_SIGNAL has been raised since (R12). -/
structure PressureChannel where
  measuring : Bool
  newest : Option Measurement
  signalSeen : Bool
  gaugeFactor : Int
  zeroReading : Int
  datum : Int
  deriving DecidableEq, Repr

/-! ### Governing stage and rise window (R33 to R48) -/

/-- The source of a governing stage (R33). -/
inductive Source where
  | none
  | float
  | pressure
  deriving DecidableEq, Repr

/-- Source modes (R33). -/
inductive SourceMode where
  | auto
  | float
  | pressure
  deriving DecidableEq, Repr

/-- An entry of the stall history (R36). -/
structure StallEntry where
  count : Word32
  stage : Int
  good : Bool
  deriving DecidableEq, Repr

/-- The stage sample record (R43). -/
structure StageSample where
  time : Word32
  uptime : Nat
  stage : Option Int
  source : Source
  floatStage : Int
  floatQuality : Quality
  pressStage : Int
  pressQuality : Quality
  rate : Option Int
  extra : Bool
  disagree : Bool
  unset : Bool
  deriving DecidableEq, Repr

/-- Rating flags (R67). -/
structure RatingFlags where
  below : Bool
  extrapolated : Bool
  beyond : Bool
  capped : Bool
  deriving DecidableEq, Repr

/-- A composed sample: the record with its discharge, rating and verdict (R141). -/
structure ComposedSample where
  sample : StageSample
  discharge : Option Nat
  ratingFlags : RatingFlags
  ratingId : Nat
  level : Level
  fault : Bool
  deriving DecidableEq, Repr

/-- The governing selector (R34 to R42). `current` is absent before the first sample after a reset. -/
structure Selector where
  mode : SourceMode
  stallSamples : Int
  stallLimit : Int
  disagreeLimit : Int
  current : Option Source
  away : Bool
  returnCount : Nat
  history : List StallEntry
  disagreeCount : Nat
  disagree : Bool
  newest : Option ComposedSample
  deriving DecidableEq, Repr

/-- A rank of the rise window (R46). -/
structure Rank where
  uptime : Nat
  stage : Int
  deriving DecidableEq, Repr

/-! ### Rating (R49 to R71) -/

/-- A rating point (R49). -/
structure RatingPoint where
  stage : Int
  q : Nat
  deriving DecidableEq, Repr

/-- A shift entry (R49). -/
structure ShiftEntry where
  effective : Word32
  shift : Int
  deriving DecidableEq, Repr

/-- A rating set (R49). A draft in EDITING has id 0 (R53, R71). -/
structure RatingSet where
  id : Nat
  points : List RatingPoint
  shifts : List ShiftEntry
  ext : Int
  deriving DecidableEq, Repr

/-- The DRAFT slot (R51). -/
inductive Draft where
  | empty
  | editing (owner : Port) (set : RatingSet)
  | activating (owner : Port)
  | previous (set : RatingSet)
  deriving DecidableEq, Repr

/-- The activation in flight (R59, R60, R64). `revertedId` is the old id of a set that came from PREVIOUS,
absent for one from EDITING; `owner` is absent once released; `replyTo` is the port whose reply is held. -/
structure InFlight where
  set : RatingSet
  revertedId : Option Nat
  owner : Option Port
  replyTo : Option Port
  deriving DecidableEq, Repr

/-- The rating unit (R50, R51, R59). -/
structure RatingUnit where
  active : Option RatingSet
  draft : Draft
  inFlight : Option InFlight
  deriving DecidableEq, Repr

/-! ### Flood warning (R72 to R88) -/

/-- The siren's states (R80 to R84). -/
inductive Siren where
  | off
  | sounding
  | silenced
  | test
  deriving DecidableEq, Repr

/-- The four per-level items of one level (R72). -/
structure LevelItems where
  stageEnter : Int
  hyst : Int
  rateEnter : Int
  rateFloor : Int
  deriving DecidableEq, Repr

/-- The warning items in force (R72). -/
structure WarnItems where
  watch : LevelItems
  warning : LevelItems
  danger : LevelItems
  holdTime : Int
  stageLostSamples : Int
  deriving DecidableEq, Repr

/-- The time of the last change of level and the level it left (R78). -/
structure LevelChange where
  time : Word32
  uptime : Nat
  left : Level
  deriving DecidableEq, Repr

/-- The warning unit (R72 to R88). -/
structure WarningUnit where
  level : Level
  clearSince : Option Nat
  computed : Option Level
  stageLost : Nat
  fault : Bool
  siren : Siren
  sirenStart : Option Nat
  testStart : Option Nat
  lastChange : Option LevelChange
  items : WarnItems
  deriving DecidableEq, Repr

/-! ### Cableway gauging runs (R89 to R137) -/

/-- The fractions of depth, coded as in POINT_START (R96). -/
inductive Fraction where
  | surface
  | p2
  | p6
  | p8
  deriving DecidableEq, Repr

/-- The methods of a vertical (R95). -/
inductive Method where
  | onePoint
  | twoPoint
  | threePoint
  | surface
  | edge
  deriving DecidableEq, Repr

/-- A run's fixed description, the content of RUN_OPEN (R91). `coef` is 0 while the default is asked for;
`a2` and `b2` are as sent, and ignored when `nBreak` is 0. -/
structure RunDescription where
  tag : List Byte
  cpr : Nat
  a1 : Nat
  b1 : Int
  nBreak : Nat
  a2 : Nat
  b2 : Int
  coef : Nat
  initial : Nat
  farBank : Nat
  linkSilent : Bool
  sourceSwitch : Bool
  deriving DecidableEq, Repr

/-- A point result (R119). -/
structure PointResult where
  fraction : Fraction
  k : Nat
  delta : Nat
  n : Nat
  v : Nat
  stall : Bool
  clamped : Bool
  deriving DecidableEq, Repr

/-- The open vertical (R89, R95). The cosine is 0 for none. -/
structure OpenVertical where
  station : Nat
  depth : Nat
  method : Method
  cosine : Nat
  points : List PointResult
  deriving DecidableEq, Repr

/-- A vertical record of the table (R122). `supersedes` is the flag of its journal entry (R98). -/
structure Vertical where
  station : Nat
  depth : Nat
  method : Method
  cosine : Nat
  points : List PointResult
  v : Nat
  w2 : Nat
  q : Nat
  a : Nat
  supersedes : Bool
  deriving DecidableEq, Repr

/-- The observation in flight (R96). -/
structure Observation where
  fraction : Fraction
  duration : Nat
  start : Word32
  deriving DecidableEq, Repr

/-- The states of a run context outside IDLE (R89). -/
inductive RunState where
  | opened
  | observing
  | parked
  | closing
  deriving DecidableEq, Repr

/-- Park reasons, codes 1 to 4 (spec/06, Parking). -/
inductive ParkReason where
  | level
  | linkReset
  | linkSilent
  | sourceSwitch
  deriving DecidableEq, Repr

/-- The result of a run (R89). -/
inductive RunResult where
  | complete
  | incomplete
  | abandoned
  deriving DecidableEq, Repr

/-- The close record (R132), and the content of a trailer. -/
structure CloseRecord where
  runId : Nat
  closeTime : Word32
  result : RunResult
  totalQ : Nat
  totalA : Nat
  meanVelocity : Option Nat
  meanStage : Int
  stageLeast : Int
  stageGreatest : Int
  rated : Option (Nat × RatingFlags)
  deviation : Option Int
  shift : Option Int
  ratingId : Option Nat
  unsteady : Bool
  concentrated : Bool
  notStored : Bool
  referenceChanged : Bool
  sourceChanged : Bool
  noStage : Bool
  deriving DecidableEq, Repr

/-- What ended a run, and so what its held reply carries (R92, R101, R103, R108). -/
inductive Ending where
  | close
  | abandon
  | expiry
  | supersede (desc : RunDescription)
  deriving DecidableEq, Repr

/-- The run context outside IDLE (R89). `closeRec`, `ending`, `trailerHeld` and `replyTo` are its part in CLOSING. -/
structure Run where
  state : RunState
  id : Nat
  openTime : Word32
  desc : RunDescription
  table : List Vertical
  totalQ : Nat
  totalA : Nat
  openVertical : Option OpenVertical
  obs : Option Observation
  stageAtOpen : Option Int
  stageSum : Int
  stageCount : Nat
  stageLeast : Int
  stageGreatest : Int
  referenceChanged : Bool
  sourceChanged : Bool
  unsteady : Bool
  concentrated : Bool
  notStored : Bool
  parkReason : Option ParkReason
  parkUptime : Option Nat
  silenceStart : Option Nat
  closeRec : Option CloseRecord
  ending : Option Ending
  trailerHeld : Bool
  replyTo : Option Port
  deriving DecidableEq, Repr

/-- The meter capture (R114). -/
structure MeterCapture where
  counting : Bool
  k : Nat
  tFirst : Option Word32
  tLast : Option Word32
  lastAccepted : Option Word32
  deriving DecidableEq, Repr

/-! ### Limits of the timers (R81, R105, R108) -/

/-- The limits of the siren, silence and park timers as the live configuration held them when the current uptime second
began: a limit that a SET_CONFIG lowers within a second ends a timer at the next second only (R81, R105, R108). -/
structure TimerLimits where
  sirenMax : Int
  silenceLimit : Int
  parkLifetime : Int
  deriving DecidableEq, Repr

/-! ### Record memory (R138 to R163) -/

/-- What a log record holds beside its sequence (R141): a composed sample, or a TIME_STEP mark. -/
inductive LogBody where
  | sample (c : ComposedSample)
  | mark (old new : Word32) (unset : Bool) (level : Level)
  deriving DecidableEq, Repr

/-- A log record (R141, R142). DROPPED is set exactly when `dropped` is above 0. -/
structure LogRecord where
  seq : Word32
  dropped : Nat
  body : LogBody
  deriving DecidableEq, Repr

/-- A run's header entry (R110). -/
structure RunHeader where
  runId : Nat
  openTime : Word32
  desc : RunDescription
  stageAtOpen : Option Int
  deriving DecidableEq, Repr

/-- The four kinds of journal entry (R110). -/
inductive JournalEntry where
  | header (h : RunHeader)
  | vertical (runId : Nat) (v : Vertical)
  | removal (runId : Nat) (station : Nat)
  | trailer (t : CloseRecord)
  deriving DecidableEq, Repr

/-- The regions of the array (R140). -/
inductive Region where
  | ident
  | config
  | rating
  | journal
  | log
  deriving DecidableEq, Repr

/-- The live configuration: the value of each item, at the item's place (R185, Machine/Items.lean). -/
structure LiveConfig where
  values : Vector Int 41
  deriving DecidableEq, Repr

/-- What a programmed unit reads as (log 4). A unit that no entry lists reads erased. `garbled` is a unit
whose content does not check against its CRC. -/
inductive FlashUnit where
  | garbled
  | header (region : Region) (bad : Bool) (useNo : Nat) (first : Word32)
  | record (r : LogRecord)
  | entry (e : JournalEntry) (place : Nat)
  | image (number : Nat) (place : Nat) (set : RatingSet)
  | imageCommit (number : Nat) (set : RatingSet)
  | config (place : Nat) (cfg : LiveConfig)
  | configCommit (units : Nat) (cfg : LiveConfig)
  | ident (chars : List Byte)
  deriving DecidableEq, Repr

/-- The flash array: address (256 × block + unit) and content of every unit that is not erased. -/
abbrev Flash := List (Nat × FlashUnit)

/-- A region's current block: the next unit to program (256 when it is full), the failures counted against
it, and whether its header goes in with its first unit still to come (R139, R148). -/
structure CurrentBlock where
  block : Nat
  next : Nat
  failures : Nat
  headerDue : Bool
  deriving DecidableEq, Repr

/-- A journal entry in the queue (R157): how many of its units have verified. -/
structure QueuedEntry where
  entry : JournalEntry
  done : Nat
  deriving DecidableEq, Repr

/-- A read waiting for its class-1 grant (R146). A SEEK_LOG keeps its search position (R153). -/
inductive ReadKind where
  | readLog (n : Nat)
  | seekLog (time : Word32) (pos : Word32)
  | readJournal (runId : Nat) (part : Nat)
  deriving DecidableEq, Repr

/-- A waiting read; `attached` until its port is reset (R146). -/
structure WaitingRead where
  port : Port
  attached : Bool
  kind : ReadKind
  deriving DecidableEq, Repr

/-- Class-4 work (R146, R159 to R161). `place` counts the units verified; `begun` says that the image's first unit has
been granted, so that a retry of it needs no room for the whole image any more (R148, R159). -/
inductive Class4 where
  | image (set : RatingSet) (number : Nat) (place : Nat) (begun : Bool)
  | save (cfg : LiveConfig) (place : Nat) (erased : Bool) (next : Nat) (failures : Nat)
  | ident (chars : List Byte) (failures : Nat) (replyTo : Option Port)
  deriving DecidableEq, Repr

/-- What an erase is for (R144, R146, R155, R159, R160). -/
inductive ErasePurpose where
  | logAhead
  | journalAhead
  | retire
  | eraseLog
  | image
  | save
  deriving DecidableEq, Repr

/-- An erase asked for. -/
structure EraseRequest where
  block : Nat
  purpose : ErasePurpose
  deriving DecidableEq, Repr

/-- What a unit being programmed serves (R138). -/
inductive ProgramPurpose where
  | record (r : LogRecord)
  | entry
  | image
  | save
  | ident
  deriving DecidableEq, Repr

/-- A program grant under way: the unit, its content, and the block header going in with it (R139). -/
structure ProgramJob where
  addr : Nat
  content : FlashUnit
  header : Option FlashUnit
  purpose : ProgramPurpose
  deriving DecidableEq, Repr

/-- An erase grant under way (R138, R147): `old` is what the block held, `ran` the ticks it has run in all,
`since` the ticks since it last started or resumed; `retire` the BAD blocks to retire when it ends (R144). -/
structure EraseJob where
  request : EraseRequest
  old : Flash
  ran : Nat
  since : Nat
  suspended : Bool
  retire : List Nat
  deriving DecidableEq, Repr

/-- The flash channel (R146). It is free in `searched` too: a step of a SEEK_LOG of each port listed has ended since it last
served other work (R153; log 48). -/
inductive Channel where
  | free
  | searched (ports : List Port)
  | programming (job : ProgramJob) (elapsed : Nat)
  | erasing (job : EraseJob)
  deriving DecidableEq, Repr

/-- The record memory (R138 to R163). `givenUp` lists the BAD blocks of the JOURNAL region whose entries were given up by
an erase-ahead that passed them over (R144, R156). -/
structure Store where
  flash : Flash
  buffer : List LogRecord
  dropped : Nat
  firstSeq : Word32
  nextSeq : Word32
  logCur : Option CurrentBlock
  journalCur : Option CurrentBlock
  ratingCur : Option CurrentBlock
  journalQueue : List QueuedEntry
  class4 : List Class4
  erases : List EraseRequest
  channel : Channel
  reads : List WaitingRead
  robin : Port
  bad : List Nat
  givenUp : List Nat
  degraded : Bool
  eraseLogActive : Bool
  deriving DecidableEq, Repr

/-! ### Links and events (R164 to R184) -/

/-- Reply statuses (spec/09, Reply statuses). -/
inductive Status where
  | ok
  | clamped
  | busy
  | notReady
  | denied
  | badArgument
  | wrongState
  | lockout
  | tableFull
  | held
  | checkFailed
  | storeFault
  | unknownCommand
  deriving DecidableEq, Repr

/-- What a block answers to a request. -/
structure Answer where
  status : Status
  payload : List Byte
  deriving DecidableEq, Repr

/-- A reply in a reply slot (R165). `resets` marks the reply of the STATION_RESET that arranged the
reset under way (R191, log 18). -/
structure Reply where
  status : Status
  echo : Byte
  payload : List Byte
  resets : Bool
  deriving DecidableEq, Repr

/-- Event groups in fetch priority, and their enable bits (R180). -/
inductive Group where
  | warning
  | run
  | stage
  | record
  | link
  deriving DecidableEq, Repr

/-- Event kinds (spec/10, Event kinds and groups). -/
inductive EventKind where
  | levelChanged
  | sirenAcked
  | sirenTimedOut
  | stageLost
  | pointDone
  | runParked
  | recall
  | runResumed
  | runClosed
  | parkExpired
  | sourceSwitched
  | floatSuspect
  | floatStalled
  | sourcesDisagree
  | pressureNoSignal
  | logLost
  | storeFault
  | configSaved
  | ratingActivated
  | requestOverrun
  | clockStepped
  | stationRestarted
  deriving DecidableEq, Repr

/-- A pending event entry (R180); its place in the order of joining is its place in the list. -/
structure EventEntry where
  kind : EventKind
  first : Word32
  count : Nat
  deriving DecidableEq, Repr

/-- A port (R164 to R169, R180, R145). `request` is the command code in service; `frameAgain` and `overrunAgain` say
that FRAME_ERROR and OVERRUN were set since the port flags byte last began to be sent (R167); `sent` is the bytes the
port sent last, on port C those of the reply on the line (the model's own, log 16). -/
structure PortState where
  request : Option Byte
  reply : Option Reply
  frameError : Bool
  overrun : Bool
  frameAgain : Bool
  overrunAgain : Bool
  rx : List Byte
  events : List EventEntry
  enables : BitVec 5
  cursor : Word32
  lost : Nat
  sent : List Byte
  deriving DecidableEq, Repr

/-- The three ports. -/
structure Ports where
  l : PortState
  t : PortState
  c : PortState
  deriving DecidableEq, Repr

/-- What port C has beside the others: transmit register (R174), divider in force (R172), the line held
low by a break (R175), the ticks since the start byte of the reply in the register began, and the ticks the last character
of a reply broken off still takes on the line (R175, R177). -/
structure LineC where
  tx : Option Reply
  txTicks : Nat
  charLeft : Nat
  div : Nat
  frac : Nat
  low : Bool
  deriving DecidableEq, Repr

/-- The reset arranged by STATION_RESET (R191): the requester, the ticks since the reply was made, and
whether the reply has left the port or been dropped by a port reset. -/
structure ResetRequest where
  port : Port
  age : Nat
  due : Bool
  deriving DecidableEq, Repr

end Sys2Proof.Machine

namespace Sys2Proof.Machine.Ports

/-- One port's state. -/
def get (ps : Ports) : Port → PortState
  | .l => ps.l
  | .t => ps.t
  | .c => ps.c

/-- One port's state replaced. -/
def set (ps : Ports) (p : Port) (x : PortState) : Ports :=
  match p with
  | .l => { ps with l := x }
  | .t => { ps with t := x }
  | .c => { ps with c := x }

end Sys2Proof.Machine.Ports
end

