-- ==== Sys2Proof/Machine/Items.lean ====
section
/-! DEFINITION. The configuration items: codes, ranges and defaults (R185), reading and writing one item
of a live configuration, and the values in force that follow from it. -/

namespace Sys2Proof.Machine

/-- The rank of a warning level, 0 NORMAL to 3 DANGER. -/
def Level.rank : Level → Nat
  | .normal => 0
  | .watch => 1
  | .warning => 2
  | .danger => 3

/-- The level of a rank. -/
def levelOf : Nat → Level
  | 0 => .normal
  | 1 => .watch
  | 2 => .warning
  | _ => .danger

/-- The levels above NORMAL, which have thresholds (R72). -/
inductive Above where
  | watch
  | warning
  | danger
  deriving DecidableEq, Repr

/-- The configuration items (R185). -/
inductive Item where
  | scaleUm
  | floatTop
  | gaugeFactor
  | zeroReading
  | datum
  | sourceMode
  | stallSamples
  | stallLimit
  | disagreeLimit
  | rateWindow
  | minSpan
  | interval (l : Level)
  | stageEnter (a : Above)
  | hyst (a : Above)
  | rateEnter (a : Above)
  | rateFloor (a : Above)
  | holdTime
  | stageLostSamples
  | sirenMax
  | runLimit
  | silenceLimit
  | parkLifetime
  | surfaceCoef
  | unsteadyLimit
  | concentrationLimit
  | portcDiv
  | portcFrac
  | perm (p : Port)
  deriving DecidableEq, Repr

/-- A row of the configuration table: code, least value, greatest value, default (R185). -/
structure ItemRow where
  code : Nat
  least : Int
  greatest : Int
  default : Int
  deriving DecidableEq, Repr

/-- The index of a level above NORMAL within its group of three. -/
def Above.index : Above → Fin 3
  | .watch => 0
  | .warning => 1
  | .danger => 2

/-- The index of a port within its group of three. -/
def portIndex : Port → Fin 3
  | .l => 0
  | .t => 1
  | .c => 2

/-- The index of a level within its group of four. -/
def Level.index : Level → Fin 4
  | .normal => 0
  | .watch => 1
  | .warning => 2
  | .danger => 3

/-- The default of an interval item (R24, R185). -/
def intervalDefault : Level → Int
  | .normal => 900
  | .watch => 300
  | .warning => 60
  | .danger => 60

/-- The default family set of a port (R178, R185). -/
def permDefault : Port → Int
  | .l => 0x7F
  | .t => 0x35
  | .c => 0x19

/-- The configuration table (R185). -/
def Item.row : Item → ItemRow
  | .scaleUm => ⟨0x01, 10, 10000, 250⟩
  | .floatTop => ⟨0x02, -9999, 29999, 29999⟩
  | .gaugeFactor => ⟨0x03, 1, 100000, 1000⟩
  | .zeroReading => ⟨0x04, 0, 36000000, 7000000⟩
  | .datum => ⟨0x05, -100000, 100000, 0⟩
  | .sourceMode => ⟨0x08, 0, 2, 0⟩
  | .stallSamples => ⟨0x09, 3, 20, 6⟩
  | .stallLimit => ⟨0x0A, 10, 1000, 50⟩
  | .disagreeLimit => ⟨0x0B, 5, 1000, 30⟩
  | .rateWindow => ⟨0x0C, 600, 7200, 1800⟩
  | .minSpan => ⟨0x0D, 120, 3600, 600⟩
  | .interval l => ⟨0x10 + l.rank, 10, 3600, intervalDefault l⟩
  | .stageEnter a => ⟨0x18 + a.index.val, -9999, 29999, 29999⟩
  | .hyst a => ⟨0x1B + a.index.val, 0, 2000, 100⟩
  | .rateEnter a => ⟨0x1E + a.index.val, 1, 32767, 32767⟩
  | .rateFloor a => ⟨0x21 + a.index.val, -9999, 29999, 29999⟩
  | .holdTime => ⟨0x24, 300, 21600, 1800⟩
  | .stageLostSamples => ⟨0x25, 1, 20, 3⟩
  | .sirenMax => ⟨0x26, 60, 3600, 600⟩
  | .runLimit => ⟨0x27, 0, 3, 2⟩
  | .silenceLimit => ⟨0x28, 10, 300, 60⟩
  | .parkLifetime => ⟨0x29, 600, 86400, 21600⟩
  | .surfaceCoef => ⟨0x2A, 700, 1000, 850⟩
  | .unsteadyLimit => ⟨0x2B, 10, 5000, 100⟩
  | .concentrationLimit => ⟨0x2C, 10, 1000, 100⟩
  | .portcDiv => ⟨0x30, 1, 65535, 32⟩
  | .portcFrac => ⟨0x31, 0, 255, 141⟩
  | .perm p => ⟨0x32 + (portIndex p).val, 0, 0x7F, permDefault p⟩

/-- Every item, in the order of the table. -/
def allItems : List Item :=
  [.scaleUm, .floatTop, .gaugeFactor, .zeroReading, .datum, .sourceMode, .stallSamples, .stallLimit,
   .disagreeLimit, .rateWindow, .minSpan, .interval .normal, .interval .watch, .interval .warning,
   .interval .danger, .stageEnter .watch, .stageEnter .warning, .stageEnter .danger, .hyst .watch,
   .hyst .warning, .hyst .danger, .rateEnter .watch, .rateEnter .warning, .rateEnter .danger,
   .rateFloor .watch, .rateFloor .warning, .rateFloor .danger, .holdTime, .stageLostSamples, .sirenMax,
   .runLimit, .silenceLimit, .parkLifetime, .surfaceCoef, .unsteadyLimit, .concentrationLimit,
   .portcDiv, .portcFrac, .perm .l, .perm .t, .perm .c]

/-- The place of an item in a configuration. -/
def Item.index : Item → Fin 41
  | .scaleUm => 0
  | .floatTop => 1
  | .gaugeFactor => 2
  | .zeroReading => 3
  | .datum => 4
  | .sourceMode => 5
  | .stallSamples => 6
  | .stallLimit => 7
  | .disagreeLimit => 8
  | .rateWindow => 9
  | .minSpan => 10
  | .interval l => ⟨11 + l.index.val, by have := l.index.isLt; omega⟩
  | .stageEnter a => ⟨15 + a.index.val, by have := a.index.isLt; omega⟩
  | .hyst a => ⟨18 + a.index.val, by have := a.index.isLt; omega⟩
  | .rateEnter a => ⟨21 + a.index.val, by have := a.index.isLt; omega⟩
  | .rateFloor a => ⟨24 + a.index.val, by have := a.index.isLt; omega⟩
  | .holdTime => 27
  | .stageLostSamples => 28
  | .sirenMax => 29
  | .runLimit => 30
  | .silenceLimit => 31
  | .parkLifetime => 32
  | .surfaceCoef => 33
  | .unsteadyLimit => 34
  | .concentrationLimit => 35
  | .portcDiv => 36
  | .portcFrac => 37
  | .perm p => ⟨38 + (portIndex p).val, by have := (portIndex p).isLt; omega⟩

/-- The item of a code, if the code is in the table (R185, R186). -/
def itemOfCode (code : Nat) : Option Item := allItems.find? fun i => i.row.code == code

/-- The value of an item. -/
def LiveConfig.get (c : LiveConfig) (i : Item) : Int := c.values[i.index]

/-- A configuration with one item written. -/
def LiveConfig.set (c : LiveConfig) (i : Item) (v : Int) : LiveConfig :=
  { values := c.values.set i.index v }

/-- The factory defaults (R185). -/
def defaultConfig : LiveConfig :=
  { values := #v[250, 29999, 1000, 7000000, 0, 0, 6, 50, 30, 1800, 600, 900, 300, 60, 60,
      29999, 29999, 29999, 100, 100, 100, 32767, 32767, 32767, 29999, 29999, 29999,
      1800, 3, 600, 2, 60, 21600, 850, 100, 100, 32, 141, 0x7F, 0x35, 0x19] }

/-- The source mode of a code (R33). -/
def sourceModeOf (v : Int) : SourceMode := if v = 1 then .float else if v = 2 then .pressure else .auto

/-- The code of a source mode (R33). -/
def SourceMode.code : SourceMode → Nat
  | .auto => 0
  | .float => 1
  | .pressure => 2

/-- The items of one level (R72). -/
def LiveConfig.levelItems (c : LiveConfig) (a : Above) : LevelItems :=
  { stageEnter := c.get (.stageEnter a), hyst := c.get (.hyst a), rateEnter := c.get (.rateEnter a),
    rateFloor := c.get (.rateFloor a) }

/-- The warning items of a configuration (R72). -/
def LiveConfig.warnItems (c : LiveConfig) : WarnItems :=
  { watch := c.levelItems .watch, warning := c.levelItems .warning, danger := c.levelItems .danger,
    holdTime := c.get .holdTime, stageLostSamples := c.get .stageLostSamples }

/-- The timer limits of a configuration (R81, R105, R108). -/
def LiveConfig.timerLimits (c : LiveConfig) : TimerLimits :=
  { sirenMax := c.get .sirenMax, silenceLimit := c.get .silenceLimit, parkLifetime := c.get .parkLifetime }

/-- The run limit of a configuration, as a rank (R79). -/
def LiveConfig.runLimitRank (c : LiveConfig) : Nat := (c.get .runLimit).toNat

/-- The configured interval of a level (R24). -/
def LiveConfig.intervalOf (c : LiveConfig) (l : Level) : Nat := (c.get (.interval l)).toNat

/-- A port's permission set (R178). -/
def LiveConfig.families (c : LiveConfig) (p : Port) : Nat := (c.get (.perm p)).toNat

/-- Whether a port's permission set holds a family (R178, R179). -/
def LiveConfig.permits (c : LiveConfig) (p : Port) (f : Family) : Bool := (c.families p).testBit f.bit

end Sys2Proof.Machine
end

