-- ==== Sys2Proof/Machine/State.lean ====
section
/-! DEFINITION. The state of the HS-3, the reasons a step can stop, and the state after reset. -/

namespace Sys2Proof.Machine

/-- Why a step of the part stops with a fault. There is none: every failure the manual describes is state
(a discarded frame, a refusal status, a BAD block, DEGRADED, the FAULT verdict) and the part goes on. -/
inductive Fault where
  deriving DecidableEq, Repr

/-- Why a command has no meaning. -/
inductive Refusal where
  /-- Raised by an arm of exec that has no meaning yet, and by nothing else; no arm is left so. Safe. -/
  | notModelled (mnemonic : String)
  deriving DecidableEq, Repr

/-- The state of the part and the queue of commands waiting. INVENTORY.md names the rule of each field. -/
structure State where
  phase : Phase
  resetLow : Bool
  maintClosed : Bool
  backup : BackupDomain
  uptime : Nat
  uptimeSub : Nat
  ticks : Word32
  startTicks : Nat
  sched : Schedule
  cfg : LiveConfig
  limits : TimerLimits
  floatCh : FloatChannel
  pressCh : PressureChannel
  sel : Selector
  window : List Rank
  rating : RatingUnit
  warn : WarningUnit
  run : Option Run
  newestRunId : Nat
  meter : MeterCapture
  gaugings : List CloseRecord
  store : Store
  factorySerial : BitVec 32
  factoryTrim : Int
  identRead : Bool
  ports : Ports
  lineC : LineC
  resetReq : Option ResetRequest
  freeIndex : Nat
  pending : List Instr
  deriving DecidableEq, Repr

/-- The float channel after a reset (R1, R2, R5, R6, R7). -/
def FloatChannel.fresh : FloatChannel :=
  { prevPair := none, count := 0, phaseErrors := 0, refCount := 0, refStage := 0, origin := .restored,
    stallMark := false, lastHanded := none, scaleUm := 250, floatTop := 29999 }

/-- The pressure channel after a reset (R8, R9, R12). -/
def PressureChannel.fresh : PressureChannel :=
  { measuring := false, newest := none, signalSeen := false, gaugeFactor := 1000, zeroReading := 7000000,
    datum := 0 }

/-- The governing selector after a reset (R34, R36, R39, R40, R41, R45). -/
def Selector.fresh : Selector :=
  { mode := .auto, stallSamples := 6, stallLimit := 50, disagreeLimit := 30, current := none, away := false,
    returnCount := 0, history := [], disagreeCount := 0, disagree := false, newest := none }

/-- The warning unit after a reset, before the scan (R88). -/
def WarningUnit.fresh : WarningUnit :=
  { level := .normal, clearSince := none, computed := none, stageLost := 0, fault := false, siren := .off,
    sirenStart := none, testStart := none, lastChange := none, items := defaultConfig.warnItems }

/-- The meter capture after a reset (R114, R137). -/
def MeterCapture.fresh : MeterCapture :=
  { counting := false, k := 0, tFirst := none, tLast := none, lastAccepted := none }

/-- The record memory's state after a reset over a flash array, before the scan (R163). -/
def Store.fresh (flash : Flash) : Store :=
  { flash := flash, buffer := [], dropped := 0, firstSeq := 0, nextSeq := 0, logCur := none, journalCur := none,
    ratingCur := none, journalQueue := [], class4 := [], erases := [], channel := .free, reads := [],
    robin := .l, bad := [], givenUp := [], degraded := false, eraseLogActive := false }

/-- A port after a reset (spec/09, State after resets; R184). -/
def PortState.fresh : PortState :=
  { request := none, reply := none, frameError := false, overrun := false, frameAgain := false,
    overrunAgain := false, rx := [], events := [], enables := 0x1F#5, cursor := 0, lost := 0, sent := [] }

/-- The three ports after a reset. -/
def Ports.fresh : Ports := { l := .fresh, t := .fresh, c := .fresh }

/-- Port C's line after a reset, with the default divider (R172). -/
def LineC.fresh : LineC := { tx := none, txTicks := 0, charLeft := 0, div := 32, frac := 141, low := false }

/-- The machine right after reset: a factory-fresh part (flash all erased, no backup charge) just powered,
on entry to STARTING (R191, R192; log 3). -/
def State.reset : State :=
  { phase := .starting, resetLow := false, maintClosed := false,
    backup := { clock := 0, subSecond := 0, unset := true, lastStep := none, valid := false, held := true, trim := 0 },
    uptime := 0, uptimeSub := 0, ticks := 0, startTicks := 0,
    sched := { nextSample := 0, lastSample := none, lastUptime := none },
    cfg := defaultConfig, limits := defaultConfig.timerLimits, floatCh := .fresh, pressCh := .fresh, sel := .fresh, window := [],
    rating := { active := none, draft := .empty, inFlight := none },
    warn := .fresh, run := none, newestRunId := 0, meter := .fresh, gaugings := [], store := .fresh [],
    factorySerial := 0, factoryTrim := 0, identRead := false, ports := .fresh, lineC := .fresh,
    resetReq := none, freeIndex := 0, pending := [] }

end Sys2Proof.Machine
end

