-- ==== Sys2Proof/Machine/Flags.lean ====
section
/-! DEFINITION. Every code and flags byte a master sees: statuses, qualities, sources, rating flags, events,
port flags, and the outputs that follow from the state. -/

namespace Sys2Proof.Machine

/-- Reply status codes (spec/09, Reply statuses). -/
def Status.code : Status → Byte
  | .ok => 0x00#8
  | .clamped => 0x01#8
  | .busy => 0x10#8
  | .notReady => 0x11#8
  | .denied => 0x20#8
  | .badArgument => 0x21#8
  | .wrongState => 0x22#8
  | .lockout => 0x23#8
  | .tableFull => 0x24#8
  | .held => 0x25#8
  | .checkFailed => 0x26#8
  | .storeFault => 0x30#8
  | .unknownCommand => 0x3F#8

/-- Quality codes (R19). -/
def Quality.code : Quality → Nat
  | .good => 0
  | .restored => 1
  | .suspect => 2
  | .stalled => 3
  | .overtopped => 4
  | .outOfRange => 5
  | .noSignal => 6

/-- Source codes (R33, R45). -/
def Source.code : Source → Nat
  | .none => 0
  | .float => 1
  | .pressure => 2

/-- Siren state codes (R87). -/
def Siren.code : Siren → Nat
  | .off => 0
  | .sounding => 1
  | .silenced => 2
  | .test => 3

/-- The rating flags byte (R67). -/
def RatingFlags.bits (f : RatingFlags) : List Bool := [f.below, f.extrapolated, f.beyond, f.capped]

/-- No rating flag. -/
def noRatingFlags : RatingFlags := ⟨false, false, false, false⟩

/-- Fraction codes (R96). -/
def Fraction.code : Fraction → Nat
  | .surface => 0
  | .p2 => 1
  | .p6 => 2
  | .p8 => 3

/-- The fraction of a code (R96). -/
def fractionOf : Nat → Option Fraction
  | 0 => some .surface
  | 1 => some .p2
  | 2 => some .p6
  | 3 => some .p8
  | _ => none

/-- Method codes (R95, R111). -/
def Method.code : Method → Nat
  | .onePoint => 0
  | .twoPoint => 1
  | .threePoint => 2
  | .surface => 3
  | .edge => 4

/-- The method of a code (R95). -/
def methodOf : Nat → Option Method
  | 0 => some .onePoint
  | 1 => some .twoPoint
  | 2 => some .threePoint
  | 3 => some .surface
  | _ => none

/-- Park reason codes (spec/06, Parking). -/
def ParkReason.code : ParkReason → Nat
  | .level => 1
  | .linkReset => 2
  | .linkSilent => 3
  | .sourceSwitch => 4

/-- Run result codes (R101, R103, R135, R158). -/
def RunResult.code : RunResult → Nat
  | .complete => 0
  | .incomplete => 1
  | .abandoned => 2

/-- Run state codes outside IDLE (R112). -/
def RunState.code : RunState → Nat
  | .opened => 1
  | .observing => 2
  | .parked => 3
  | .closing => 4

/-- The group a kind belongs to (spec/10). -/
def EventKind.group : EventKind → Group
  | .levelChanged => .warning
  | .sirenAcked => .warning
  | .sirenTimedOut => .warning
  | .stageLost => .warning
  | .pointDone => .run
  | .runParked => .run
  | .recall => .run
  | .runResumed => .run
  | .runClosed => .run
  | .parkExpired => .run
  | .sourceSwitched => .stage
  | .floatSuspect => .stage
  | .floatStalled => .stage
  | .sourcesDisagree => .stage
  | .pressureNoSignal => .stage
  | .logLost => .record
  | .storeFault => .record
  | .configSaved => .record
  | .ratingActivated => .record
  | .requestOverrun => .link
  | .clockStepped => .link
  | .stationRestarted => .link

/-- The enable bit of a group, which is also its fetch priority (spec/10). -/
def Group.bit : Group → Nat
  | .warning => 0
  | .run => 1
  | .stage => 2
  | .record => 3
  | .link => 4

/-- The code FETCH_EVENTS returns for a kind (spec/10). -/
def EventKind.code : EventKind → Nat
  | .levelChanged => 0x10
  | .sirenAcked => 0x11
  | .sirenTimedOut => 0x12
  | .stageLost => 0x13
  | .pointDone => 0x20
  | .runParked => 0x21
  | .recall => 0x22
  | .runResumed => 0x23
  | .runClosed => 0x24
  | .parkExpired => 0x25
  | .sourceSwitched => 0x30
  | .floatSuspect => 0x31
  | .floatStalled => 0x32
  | .sourcesDisagree => 0x33
  | .pressureNoSignal => 0x34
  | .logLost => 0x40
  | .storeFault => 0x41
  | .configSaved => 0x42
  | .ratingActivated => 0x43
  | .requestOverrun => 0x50
  | .clockStepped => 0x51
  | .stationRestarted => 0x52

/-- One port's state (spec/09). -/
def State.port (s : State) (p : Port) : PortState := s.ports.get p

/-- REPLY_READY (R167): the reply slot holds a reply, or on port C the transmit register does (R174). -/
def State.replyReady (s : State) (p : Port) : Bool :=
  (s.port p).reply.isSome || (decide (p = .c) && s.lineC.tx.isSome)

/-- IN_SERVICE (R167, R168). -/
def State.inService (s : State) (p : Port) : Bool := (s.port p).request.isSome

/-- ATTN, and the attention line of the port (R167, R181). Before READY the lines are released (R184). -/
def State.attention (s : State) (p : Port) : Bool :=
  decide (s.phase = .ready) && !(s.port p).events.isEmpty

/-- The port flags byte (spec/09, Port flags). -/
def State.portFlags (s : State) (p : Port) : Byte :=
  BitVec.ofNat 8 (bitsNat [s.replyReady p, s.inService p, (s.port p).frameError, (s.port p).overrun, s.attention p])

/-- A reply frame with its port flags and CRC (R164, R165, R166). -/
def replyFrame (flags : Byte) (r : Reply) : List Byte :=
  withCrc (flags :: r.status.code :: r.echo :: BitVec.ofNat 8 r.payload.length :: r.payload)

/-- The BEACON output (R86). -/
def State.beacon (s : State) : Bool :=
  decide (s.phase = .ready) &&
    (decide (s.warn.level = .warning) || decide (s.warn.level = .danger) || decide (s.warn.siren = .test))

/-- The SIREN output (R86). -/
def State.sirenOut (s : State) : Bool :=
  decide (s.phase = .ready) && (decide (s.warn.siren = .sounding) || decide (s.warn.siren = .test))

/-- The WARN_OUT output (R86). -/
def State.warnOut (s : State) : Bool :=
  decide (s.phase = .ready) && (decide (s.warn.level = .warning) || decide (s.warn.level = .danger))

end Sys2Proof.Machine
end

