-- ==== Sys2Proof/Machine/Operands.lean ====
section
/-! DEFINITION. The operand forms: what each request's payload carries, absent when its length is not the one
its command defines. -/

namespace Sys2Proof.Machine

/-- An empty payload. -/
def parseEmpty : List Byte → Option Unit
  | [] => some ()
  | _ => none

/-- One byte. -/
def parseByte : List Byte → Option Nat
  | [a] => some a.toNat
  | _ => none

/-- Two bytes. -/
def parseTwo : List Byte → Option (Nat × Nat)
  | [a, b] => some (a.toNat, b.toNat)
  | _ => none

/-- Four bytes holding a number. -/
def parseFour : List Byte → Option Nat
  | [a, b, c, d] => some (u32 a b c d)
  | _ => none

/-- A signed 2-byte field. -/
def parseSigned : List Byte → Option Int
  | [a, b] => some (s16 a b)
  | _ => none

/-- SET_REFERENCE: staff reading and target (spec/01). -/
def parseReference : List Byte → Option (Int × Nat)
  | [a, b, t] => some (s16 a b, t.toNat)
  | _ => none

/-- QUERY_DISCHARGE: stage and station time (R70). -/
def parseQuery : List Byte → Option (Int × Word32)
  | [a, b, t0, t1, t2, t3] => some (s16 a b, word32 t0 t1 t2 t3)
  | _ => none

/-- A run of six-byte points (R54). -/
def parsePoints : List Byte → Option (List RatingPoint)
  | [] => some []
  | a :: b :: q0 :: q1 :: q2 :: q3 :: rest =>
    (parsePoints rest).map fun ps => ⟨s16 a b, u32 q0 q1 q2 q3⟩ :: ps
  | _ => none

/-- DRAFT_PUT_POINTS: first index and 1 to 20 points (R54). -/
def parsePutPoints : List Byte → Option (Nat × List RatingPoint)
  | i :: rest =>
    match parsePoints rest with
    | some ps => if 1 ≤ ps.length ∧ ps.length ≤ 20 then some (i.toNat, ps) else none
    | none => none
  | [] => none

/-- DRAFT_PUT_SHIFT: index, effective time, shift (R56). -/
def parseShift : List Byte → Option (Nat × ShiftEntry)
  | [i, t0, t1, t2, t3, a, b] => some (i.toNat, ⟨word32 t0 t1 t2 t3, s16 a b⟩)
  | _ => none

/-- RUN_OPEN's 34 bytes: the description, and the park mask byte (spec/06, Opening a run). -/
def parseRunOpen (bs : List Byte) : Option (RunDescription × Nat) :=
  let tag := bs.take 8
  match bs.drop 8 with
  | [cpr, a10, a11, a12, a13, b10, b11, n0, n1, a20, a21, a22, a23, b20, b21, c0, c1,
     i0, i1, i2, i3, f0, f1, f2, f3, m] =>
    some ({ tag := tag, cpr := cpr.toNat, a1 := u32 a10 a11 a12 a13, b1 := s16 b10 b11, nBreak := u16 n0 n1,
            a2 := u32 a20 a21 a22 a23, b2 := s16 b20 b21, coef := u16 c0 c1, initial := u32 i0 i1 i2 i3,
            farBank := u32 f0 f1 f2 f3, linkSilent := m.getLsbD 0, sourceSwitch := m.getLsbD 1 }, m.toNat)
  | _ => none

/-- VERTICAL_BEGIN: station, depth, method value, angle cosine (R95). -/
def parseVertical : List Byte → Option (Nat × Nat × Nat × Nat)
  | [s0, s1, s2, s3, d0, d1, m, c0, c1] => some (u32 s0 s1 s2 s3, u16 d0 d1, m.toNat, u16 c0 c1)
  | _ => none

/-- READ_JOURNAL: run id and part (R158). -/
def parseJournal : List Byte → Option (Nat × Nat)
  | [a, b, p] => some (u16 a b, p.toNat)
  | _ => none

/-- SET_CONFIG: item code and value (R187). -/
def parseConfig : List Byte → Option (Nat × Int)
  | [c, v0, v1, v2, v3] => some (c.toNat, s32 v0 v1 v2 v3)
  | _ => none

end Sys2Proof.Machine
end

