-- ==== Sys2Proof/Machine/Ops.lean ====
section
/-! DEFINITION. The operations every block shares: raising events, making replies, port C's line (R172, R174), taking a request through
the port (R164 to R169), the schedule, and changes of one part of the state. -/

namespace Sys2Proof.Machine

/-! ### Ports -/

/-- The state with one port replaced. -/
def State.setPort (s : State) (p : Port) (x : PortState) : State := { s with ports := s.ports.set p x }

/-- The state with the record memory replaced. -/
def State.setStore (s : State) (x : Store) : State := { s with store := x }

/-- The state with the run context replaced. -/
def State.setRun (s : State) (r : Option Run) : State := { s with run := r }

/-- Whether the part is powered and out of reset, so that its sensors and links work (spec/01, R191). -/
def State.running (s : State) : Bool := decide (s.phase = .starting) || decide (s.phase = .ready)

/-! ### Events (R180, R184) -/

/-- An event joins a pending set, or repeats the entry of its kind (R180). -/
def addEvent (now : Word32) (kind : EventKind) : List EventEntry → List EventEntry
  | [] => [⟨kind, now, 1⟩]
  | e :: es =>
    if e.kind = kind then { e with count := saturate 255 (e.count + 1) } :: es else e :: addEvent now kind es

/-- A port records a raising if the kind's group is enabled (R180). -/
def PortState.record (x : PortState) (now : Word32) (kind : EventKind) : PortState :=
  if x.enables.getLsbD kind.group.bit then { x with events := addEvent now kind x.events } else x

/-- A kind is raised on one port; only READY records it (R184). -/
def State.raiseOn (s : State) (p : Port) (kind : EventKind) : State :=
  if s.phase = .ready then s.setPort p ((s.port p).record s.backup.clock kind) else s

/-- A kind is raised on all ports, at each separately (R180). -/
def State.raiseAll (s : State) (kind : EventKind) : State :=
  ((s.raiseOn .l kind).raiseOn .t kind).raiseOn .c kind

/-! ### Replies (R165, R168) -/

/-- A block's reply to the request in service on a port: the request slot empties and the reply enters the
reply slot in the same moment. A port that holds no request any more (its port was reset) drops it (R177). -/
def State.reply (s : State) (p : Port) (a : Answer) : State :=
  match (s.port p).request with
  | none => s
  | some code =>
    s.setPort p { s.port p with request := none, reply := some ⟨a.status, code, a.payload, false⟩ }

/-- A held reply is returned to the port that still waits for it, if any. -/
def State.replyHeld (s : State) (toPort : Option Port) (a : Answer) : State :=
  match toPort with
  | none => s
  | some p => s.reply p a

/-- A block answers OK at once with a payload. -/
def ok (s : State) (payload : List Byte) : State × Option Answer := (s, some ⟨.ok, payload⟩)

/-- A block refuses at once with an empty payload, changing nothing (R165). -/
def refuse (s : State) (st : Status) : State × Option Answer := (s, some ⟨st, []⟩)

/-- A block holds its reply. -/
def hold (s : State) : State × Option Answer := (s, none)

/-! ### Port C's line (R172, R174) -/

/-- The capture ticks n characters take on port C (R172), rounded up to whole ticks (log 41). -/
def LineC.charTicks (x : LineC) (n : Nat) : Nat := (n * 160 * (256 * x.div + x.frac) + 25599) / 25600

/-- Port C's transmission is over (R174, R177). -/
def LineC.stopped (x : LineC) : LineC := { x with tx := none, txTicks := 0 }

/-- The STATION_RESET whose reply has left takes effect (R191). -/
def State.replyLeft (s : State) (r : Reply) : State :=
  if r.resets then { s with resetReq := s.resetReq.map fun q => { q with due := true } } else s

/-- The characters of a reply on port C's line: the start byte and the n + 6 of its frame (R165, R174). -/
def replyChars (r : Reply) : Nat := r.payload.length + 7

/-- Whether the last CRC byte of the reply in the transmit register has gone (R174). -/
def State.transmitted (s : State) : Bool :=
  match s.lineC.tx with
  | none => false
  | some r => decide (s.lineC.charTicks (replyChars r) ≤ s.lineC.txTicks)

/-- REPLY_TRANSMIT_DONE (R174): the transmit register empties once the last CRC byte has gone. -/
def State.transmitDone (s : State) : State :=
  match s.lineC.tx with
  | none => s
  | some r => if s.transmitted then { s with lineC := s.lineC.stopped }.replyLeft r else s

/-- Whether port C's line is free: no reply is being sent on it, nor the last character of one broken off (R174, R175). -/
def State.lineFree (s : State) : Bool := s.transmitted || (s.lineC.tx.isNone && decide (s.lineC.charLeft = 0))

/-- Whether port C begins to send: the line is free and the reply slot holds a reply (R174). -/
def State.transmitDue (s : State) : Bool := s.running && s.lineFree && (s.port .c).reply.isSome

/-- REPLY_TRANSMIT_START (R174): the reply passes into the transmit register, and the start byte begins. -/
def State.transmitStart (s : State) : State :=
  if s.transmitDue then
    match (s.port .c).reply with
    | none => s
    | some r =>
      let s := s.transmitDone
      { s.setPort .c { s.port .c with reply := none, sent := [0x7E#8] } with
        lineC := { s.lineC with tx := some r, txTicks := 0 } }
  else s

/-- What port C's line has done before something arrives on a port: a reply that finds the line free leaves the slot as
soon as it is made, so that one still in the slot waits for the line (R174; log 51). -/
def State.lineServed (s : State) (p : Port) : State := if p = .c then s.transmitStart else s

/-! ### Taking a request (R164, R168, R169) -/

/-- Whether the port's link ignores its input: no supply or in reset (R191), or port C in a break (R175). -/
def State.deaf (s : State) (p : Port) : Bool := !s.running || (decide (p = .c) && s.lineC.low)

/-- An SPI transaction of n bytes that is not a FETCH returns 0xFF for each of them (R170). -/
def State.clocked (s : State) (p : Port) (n : Nat) : State :=
  if p.isSpi then s.setPort p { s.port p with sent := List.replicate n 0xFF#8 } else s

/-- A frame that fails its checks is discarded with FRAME_ERROR (R164). -/
def State.discardFrame (s : State) (p : Port) : State :=
  s.setPort p { s.port p with frameError := true, frameAgain := true, rx := [] }

/-- Whether the run is OPEN or OBSERVING (R89). -/
def Run.active (r : Run) : Bool := decide (r.state = .opened) || decide (r.state = .observing)

/-- A run whose silence timer runs has it restarted (R105). -/
def Run.heard (r : Run) (now : Nat) : Run :=
  if r.active && r.silenceStart.isSome then { r with silenceStart := some now } else r

/-- The arrival of a whole frame is handed to the blocks that watch the link (R105, R168). -/
def State.frameArrived (s : State) (p : Port) : State :=
  if p = .c then s.setRun (s.run.map fun r => r.heard s.uptime) else s

/-- The bytes of a request's frame and of the byte before it: SEND, code, length, payload and CRC (R164, R170). -/
def frameBytes (payload : List Byte) : Nat := payload.length + 5

/-- A request frame of a payload arrives whole: on an SPI port its transaction has returned 0xFF (R170), and the blocks
that watch the link hear of it (R168). -/
def State.arrived (s : State) (p : Port) (payload : List Byte) : State :=
  (s.clocked p (frameBytes payload)).frameArrived p

/-- Whether the port's request slot counts as busy (R168, R174). On port C a reply in the slot counts, which waits for the
line once State.lineServed has run. -/
def State.slotBusy (s : State) (p : Port) : Bool :=
  (s.port p).request.isSome || (decide (p = .c) && (s.port p).reply.isSome)

/-- The code of LINK_RESET (spec/09). -/
def linkResetCode : Byte := 0x04#8

/-- A request that finds the slot busy is dropped: OVERRUN and REQUEST_OVERRUN on that port (R168). -/
def State.dropRequest (s : State) (p : Port) : State :=
  (s.setPort p { s.port p with overrun := true, overrunAgain := true }).raiseOn p .requestOverrun

/-- A waiting read whose port's service ended loses its port (R146). -/
def WaitingRead.leave (p : Port) (r : WaitingRead) : WaitingRead :=
  if r.port = p then { r with attached := false } else r

/-- Class-4 work whose port's service ended replies to nobody (R190). -/
def Class4.leave (p : Port) : Class4 → Class4
  | .ident chars fails toPort => .ident chars fails (if toPort = some p then none else toPort)
  | w => w

/-- A run whose port's service ended replies to nobody (R102, R107). -/
def Run.leave (p : Port) (r : Run) : Run := if r.replyTo = some p then { r with replyTo := none } else r

/-- An activation whose port's service ended replies to nobody (R64). -/
def InFlight.leave (p : Port) (f : InFlight) : InFlight :=
  if f.replyTo = some p then { f with replyTo := none } else f

/-- The request in service on a port is left to run on without its port (R176, R177). -/
def State.detach (s : State) (p : Port) : State :=
  { s with
    run := s.run.map (Run.leave p)
    rating := { s.rating with inFlight := s.rating.inFlight.map (InFlight.leave p) }
    store := { s.store with reads := s.store.reads.map (WaitingRead.leave p)
                            class4 := s.store.class4.map (Class4.leave p) } }

/-- A request enters the slot: a request still in service runs on without its port (only LINK_RESET finds
one, R176), an unfetched reply is discarded (R169), and the port is IN_SERVICE. -/
def State.accept (s : State) (p : Port) (code : Byte) : State :=
  let s := if (s.port p).request.isSome then s.detach p else s
  s.setPort p { s.port p with request := some code, reply := none }

/-- The admission steps of R169: the status of the first that fails, or none. -/
def State.admission (s : State) (p : Port) (code : Byte) : Option Status :=
  match codeClass code.toNat with
  | .unknown => some .unknownCommand
  | .free => if s.phase = .ready then none else some .notReady
  | .family f =>
    if s.phase ≠ .ready ∧ code ≠ 0x01#8 ∧ code ≠ 0x02#8 then some .notReady
    else if s.cfg.permits p f then none
    else some .denied

/-- What the block's answer does at the port: a reply at once, or the request stays in service. -/
def State.finish (p : Port) : State × Option Answer → State
  | (s, some a) => s.reply p a
  | (s, none) => s

/-- An admitted request goes to the block that owns the command; another is answered by the port (R169). -/
def State.judgeAccepted (s : State) (p : Port) (code : Byte) (body : State → State × Option Answer) : State :=
  match s.admission p code with
  | some st => s.reply p ⟨st, []⟩
  | none => State.finish p (body s)

/-- A request frame of the given command and payload arrives on a port and is taken through R164 (a length
above 240), R168 and R174 (port C's line, watchers, busy slot) and R169 (admission) to the block that owns the command. -/
def State.serve (s : State) (p : Port) (code : Byte) (payload : List Byte)
    (body : State → State × Option Answer) : State :=
  if s.deaf p then s
  else if maxPayload < payload.length then (s.clocked p (frameBytes payload)).discardFrame p
  else
    let s := (s.lineServed p).arrived p payload
    if s.slotBusy p && !decide (code = linkResetCode) then s.dropRequest p
    else (s.accept p code).judgeAccepted p code body

/-! ### The schedule (R24 to R26) -/

/-- The smallest multiple of the interval greater than t. -/
def nextMultiple (interval t : Nat) : Nat := (t / interval + 1) * interval

/-- The next sample time where the clock's range ends before the next multiple: a free value other than
the second t itself (log 10). -/
def sampleTimeAtWrap (interval t : Nat) : Word32 :=
  if Config.sampleTimeAtWrap interval t = BitVec.ofNat 32 t then BitVec.ofNat 32 (t + 1)
  else Config.sampleTimeAtWrap interval t

/-- The smallest station time that is a multiple of the interval and greater than t (R25). -/
def nextSampleAfter (interval t : Nat) : Word32 :=
  if nextMultiple interval t < 2 ^ 32 then BitVec.ofNat 32 (nextMultiple interval t)
  else sampleTimeAtWrap interval t

/-- The interval in force: the configured interval of the current level (R24). -/
def State.interval (s : State) : Nat := s.cfg.intervalOf s.warn.level

/-- The state with the next sample time set. -/
def State.setNextSample (s : State) (t : Word32) : State := { s with sched := { s.sched with nextSample := t } }

/-- The realignment of R26: the pending time is replaced by the candidate C when it lies later than C, also where the
new interval equals the old one and a backward step has left the pending time beyond C (log 45). Which of the two lies
later when one of them stands beyond the clock's wrap is the model's choice: they are compared as unsigned numbers
(log 46). -/
def State.realign (s : State) : State :=
  let c := nextSampleAfter s.interval s.backup.clock.toNat
  if c < s.sched.nextSample then s.setNextSample c else s

/-! ### Small shared changes -/

/-- Every rank of the rise window is emptied (R47). -/
def State.purgeWindow (s : State) : State := { s with window := [] }

/-- A change of the run context, if there is one. -/
def State.mapRun (s : State) (f : Run → Run) : State := s.setRun (s.run.map f)

end Sys2Proof.Machine
end

