-- ==== Sys2Proof/Machine/Log.lean ====
section
/-! DEFINITION. Log records (R141), the append buffer and sequences (R142, R151), cursors and their drag (R145). -/

namespace Sys2Proof.Machine

/-- An absent field is written as 0. -/
def orZero (o : Option Int) : Int := o.getD 0

/-- Bytes 0 to 29 of a log record (R141). -/
def LogRecord.body30 (r : LogRecord) : List Byte :=
  match r.body with
  | .sample c =>
    leWord r.seq ++ leWord c.sample.time ++ le8 0 ++
    flagsByte [present c.sample.stage, present c.sample.rate, present c.discharge, c.sample.extra,
      c.sample.disagree, c.fault, c.sample.unset, decide (0 < r.dropped)] ++
    sle16 (orZero c.sample.stage) ++ sle16 c.sample.floatStage ++ sle16 c.sample.pressStage ++
    le8 c.sample.floatQuality.code ++ le8 c.sample.pressQuality.code ++ le8 c.sample.source.code ++
    le8 c.level.rank ++ le32 (c.discharge.getD 0) ++ flagsByte c.ratingFlags.bits ++ le8 r.dropped ++
    le16 c.ratingId ++ sle16 (orZero c.sample.rate)
  | .mark old new unset level =>
    leWord r.seq ++ leWord new ++ le8 1 ++
    flagsByte [false, false, false, false, false, false, unset, decide (0 < r.dropped)] ++
    leWord (r.seq + 1) ++ le16 0 ++ le8 0 ++ le8 0 ++ le8 0 ++
    le8 level.rank ++ leWord old ++ le8 0 ++ le8 r.dropped ++ le16 0 ++ le16 0

/-- The 32 bytes of a log record, CRC included (R141, R166). -/
def LogRecord.bytes (r : LogRecord) : List Byte := withCrc r.body30

/-- The station time of a record: a mark's is the new time it recorded (R21, R153). -/
def LogRecord.time (r : LogRecord) : Word32 :=
  match r.body with
  | .sample c => c.sample.time
  | .mark _ new _ _ => new

/-- The warning level a record carries (R88). -/
def LogRecord.level (r : LogRecord) : Level :=
  match r.body with
  | .sample c => c.level
  | .mark _ _ _ level => level

/-- The float stage of a SAMPLE record (R5). -/
def LogRecord.floatStage? (r : LogRecord) : Option Int :=
  match r.body with
  | .sample c => some c.sample.floatStage
  | .mark _ _ _ _ => none

/-- Whether a cursor lies behind the new first_seq, counting from the old one (R142, R145). -/
def behind (old new cursor : Word32) : Bool := decide (distance old cursor < distance old new)

/-- One port's cursor is dragged to the new first_seq if it lies behind it; the distance joins the lost
count, which saturates, and LOG_LOST is raised on that port alone (R145). -/
def State.dragPort (s : State) (old new : Word32) (p : Port) : State :=
  if behind old new (s.port p).cursor then
    (s.setPort p { s.port p with
      cursor := new
      lost := saturate 4294967295 ((s.port p).lost + distance (s.port p).cursor new) }).raiseOn p .logLost
  else s

/-- first_seq advances, and every cursor behind it is dragged (R145). -/
def State.advanceFirst (s : State) (new : Word32) : State :=
  let old := s.store.firstSeq
  let s := s.setStore { s.store with firstSeq := new }
  ((s.dragPort old new .l).dragPort old new .t).dragPort old new .c

/-- The most records the append buffer or the ring holds (R142, R151). -/
def bufferLimit : Nat := 32

/-- A record joins the buffer with the sequence next_seq (R142, R151). -/
def State.pushRecord (s : State) (dropped : Nat) (body : LogBody) : State :=
  s.setStore { s.store with
    buffer := s.store.buffer ++ [⟨s.store.nextSeq, dropped, body⟩]
    nextSeq := s.store.nextSeq + 1 }

/-- In DEGRADED a full ring loses its oldest record, and first_seq advances past it (R151). -/
def State.overwriteRing (s : State) : State :=
  match s.store.buffer with
  | [] => s
  | r :: rest =>
    if bufferLimit ≤ s.store.buffer.length then
      (s.setStore { s.store with buffer := rest }).advanceFirst (r.seq + 1)
    else s

/-- A record or mark enters the append buffer (R142), or the ring in DEGRADED (R151). -/
def State.enterBuffer (s : State) (body : LogBody) : State :=
  if s.store.degraded then s.overwriteRing.pushRecord 0 body
  else if s.store.buffer.length < bufferLimit then
    (s.setStore { s.store with dropped := 0 }).pushRecord s.store.dropped body
  else s.setStore { s.store with dropped := saturate 255 (s.store.dropped + 1) }

/-- The newest composed sample is the one composed now, and its record enters the buffer (R141). -/
def State.compose (s : State) (c : ComposedSample) : State :=
  { s with sel := { s.sel with newest := some c } }.enterBuffer (.sample c)

end Sys2Proof.Machine
end

