-- ==== Sys2Proof/Machine/Flash.lean ====
section
/-! DEFINITION. The flash array (R138 to R140, R156, R159 to R161): units, blocks and regions, block headers,
and what readers and the start-up scan find in it. -/

namespace Sys2Proof.Machine

/-! ### Units (R138) -/

/-- The units of the array: 1024 blocks of 256 (R138). -/
def arraySize : Nat := 262144

/-- The address of a unit of a block. -/
def unitAddr (block unit : Nat) : Nat := 256 * block + unit

/-- The block of an address. -/
def blockOf (a : Nat) : Nat := a / 256

/-- What a unit reads as, absent when it reads erased (R138). -/
def Flash.read : Flash → Nat → Option FlashUnit
  | [], _ => none
  | (k, u) :: rest, a => if k = a then some u else Flash.read rest a

/-- A unit entered at the place its address gives it. -/
def Flash.put : Flash → Nat → FlashUnit → Flash
  | [], a, u => [(a, u)]
  | (k, v) :: rest, a, u =>
    if a < k then (a, u) :: (k, v) :: rest
    else if a = k then (a, u) :: rest
    else (k, v) :: Flash.put rest a u

/-- A unit programmed; there is no unit beyond the array (R138). -/
def Flash.write (f : Flash) (a : Nat) (u : FlashUnit) : Flash := if a < arraySize then f.put a u else f

/-- The array with a block erased: every unit of it reads erased (R138). -/
def Flash.clear (f : Flash) (b : Nat) : Flash := f.filter fun e => decide (blockOf e.1 ≠ b)

/-- The programmed units of a block. -/
def Flash.block (f : Flash) (b : Nat) : Flash := f.filter fun e => decide (blockOf e.1 = b)

/-- Units put back where they were (an erase that had not taken hold, log 5). -/
def Flash.restore (f : Flash) : Flash → Flash
  | [] => f
  | (a, u) :: rest => (f.restore rest).write a u

/-- Addresses strictly rising. -/
def Flash.rising : Flash → Bool
  | (a, _) :: (b, v) :: rest => decide (a < b) && Flash.rising ((b, v) :: rest)
  | _ => true

/-- The canonical form of the array: addresses strictly rising and inside it. No entry can equal what an
unlisted address reads as, since erased is not a content. -/
def Flash.wf (f : Flash) : Bool := Flash.rising f && f.all fun e => decide (e.1 < arraySize)

/-! ### Regions (R140) -/

/-- The first block of a region (R140). -/
def Region.first : Region → Nat
  | .ident => 0
  | .config => 1
  | .rating => 2
  | .journal => 6
  | .log => 38

/-- The last block of a region (R140). -/
def Region.last : Region → Nat
  | .ident => 0
  | .config => 1
  | .rating => 5
  | .journal => 37
  | .log => 1023

/-- Whether a block belongs to a region. -/
def Region.holds (r : Region) (b : Nat) : Bool := decide (r.first ≤ b) && decide (b ≤ r.last)

/-- The blocks of a region in rising number. -/
def Region.blocks (r : Region) : List Nat := List.range' r.first (r.last + 1 - r.first)

/-- The other blocks of a region in circular order after a block (R140). -/
def Region.after (r : Region) (b : Nat) : List Nat :=
  List.range' (b + 1) (r.last - b) ++ List.range' r.first (b - r.first)

/-- The next block of a region after a block that is not BAD; the lowest when there is no block (R140). -/
def Region.next (r : Region) (bad : List Nat) (cur : Option Nat) : Option Nat :=
  match cur with
  | none => r.blocks.find? fun b => decide (b ∉ bad)
  | some c => (r.after c).find? fun b => decide (b ∉ bad)

/-! ### Block headers (R139) -/

/-- What a block header reads as (R139). -/
inductive BlockHeader where
  | erased
  | inUse (useNo : Nat) (first : Word32)
  | bad
  | garbled
  deriving DecidableEq, Repr

/-- A block's header (R139). -/
def Flash.headerOf (f : Flash) (b : Nat) : BlockHeader :=
  match f.read (unitAddr b 0) with
  | none => .erased
  | some (.header _ false n first) => .inUse n first
  | some (.header _ true _ _) => .bad
  | some _ => .garbled

/-- Whether a block's header reads IN_USE. -/
def Flash.inUse (f : Flash) (b : Nat) : Bool :=
  match f.headerOf b with
  | .inUse _ _ => true
  | _ => false

/-- A block's use number, 0 when it is not IN_USE. -/
def Flash.useNo (f : Flash) (b : Nat) : Nat :=
  match f.headerOf b with
  | .inUse n _ => n
  | _ => 0

/-- The IN_USE blocks of a region, in rising number. -/
def Flash.usedBlocks (f : Flash) (r : Region) : List Nat :=
  (f.filter fun e => decide (e.1 % 256 = 0) && r.holds (blockOf e.1) && f.inUse (blockOf e.1)).map fun e => blockOf e.1

/-- The use number a region's next block gets (R139). -/
def Flash.nextUse (f : Flash) (r : Region) : Nat := ((f.usedBlocks r).map f.useNo).foldl max 0 + 1

/-- The IN_USE header of a block taken into use (R139). -/
def Flash.newHeader (f : Flash) (r : Region) (first : Word32) : FlashUnit := .header r false (f.nextUse r) first

/-- The BAD header of a block of a region (R139). -/
def badHeader (r : Region) : FlashUnit := .header r true 0 0

/-- Insertion by use number. -/
def insertByUse (f : Flash) (b : Nat) : List Nat → List Nat
  | [] => [b]
  | x :: xs => if f.useNo b < f.useNo x then b :: x :: xs else x :: insertByUse f b xs

/-- The IN_USE blocks of a region from oldest to newest (R139). -/
def Flash.byUse (f : Flash) (r : Region) : List Nat := (f.usedBlocks r).foldr (insertByUse f) []

/-- A region's block with the highest use number (R162). -/
def Flash.currentBlock (f : Flash) (r : Region) : Option Nat := (f.byUse r).getLast?

/-- The first erased unit of a block, from a unit on: 256 when none is left (R162). -/
def Flash.firstErased (f : Flash) (b : Nat) : Nat → Nat → Nat
  | 0, u => u
  | fuel + 1, u => if (f.read (unitAddr b u)).isNone then u else f.firstErased b fuel (u + 1)

/-! ### Log records -/

/-- The records of the LOG region whose block is IN_USE, with their addresses. -/
def Flash.records (f : Flash) : List (Nat × LogRecord) :=
  f.filterMap fun e =>
    match e.2 with
    | .record r => if Region.log.holds (blockOf e.1) && f.inUse (blockOf e.1) then some (e.1, r) else none
    | _ => none

/-- Whether a unit is later than another: by its block's use number, then by address (R162). -/
def Flash.later (f : Flash) (a b : Nat) : Bool :=
  decide (f.useNo (blockOf a) < f.useNo (blockOf b)) ||
    (decide (f.useNo (blockOf a) = f.useNo (blockOf b)) && decide (a < b))

/-- The later of two found records. -/
def Flash.pickLater (f : Flash) (best : Option (Nat × LogRecord)) (e : Nat × LogRecord) : Option (Nat × LogRecord) :=
  match best with
  | none => some e
  | some b => if f.later b.1 e.1 then some e else some b

/-- The unit a sequence is read from: of two that hold it the later, as in the scan (R162), which READ_LOG and SEEK_LOG
follow by the model's choice (R152, R153; log 63). -/
def Flash.recordUnit? (f : Flash) (seq : Word32) : Option (Nat × LogRecord) :=
  (f.records.filter fun e => decide (e.2.seq = seq)).foldl f.pickLater none

/-- The record of a sequence in flash. -/
def Flash.record? (f : Flash) (seq : Word32) : Option LogRecord := (f.recordUnit? seq).map Prod.snd

/-! ### Journal entries (R156) -/

/-- The units of an entry (R156). -/
def JournalEntry.units : JournalEntry → Nat
  | .header _ => 2
  | .vertical _ _ => 3
  | .removal _ _ => 1
  | .trailer _ => 2

/-- The run an entry belongs to. -/
def JournalEntry.runId : JournalEntry → Nat
  | .header h => h.runId
  | .vertical id _ => id
  | .removal id _ => id
  | .trailer t => t.runId

/-- The entries present in a run of units: all units of one, in order, with units that fail passed over
(R156). `cur` is the entry under way and the place it needs next. -/
def presentFrom (cur : Option (JournalEntry × Nat)) : List FlashUnit → List JournalEntry
  | [] => []
  | .entry e k :: rest =>
    if k = 0 ∨ cur = some (e, k) then
      if k + 1 = e.units then e :: presentFrom none rest else presentFrom (some (e, k + 1)) rest
    else presentFrom none rest
  | _ :: rest => presentFrom cur rest

/-- The entries present in the journal, in journal order, but for blocks whose entries were given up (R144, R156). -/
def Flash.entries (f : Flash) (givenUp : List Nat) : List JournalEntry :=
  ((f.byUse .journal).filter fun b => decide (b ∉ givenUp)).flatMap fun b =>
    presentFrom none ((f.block b).map Prod.snd)

/-! ### Images, configuration, identifier -/

/-- The units of the RATING region whose block is IN_USE. -/
def Flash.ratingUnits (f : Flash) : List FlashUnit :=
  (f.filter fun e => Region.rating.holds (blockOf e.1) && f.inUse (blockOf e.1)).map Prod.snd

/-- The image number a unit carries, 0 for none. -/
def FlashUnit.imageNumber : FlashUnit → Nat
  | .image n _ _ => n
  | .imageCommit n _ => n
  | _ => 0

/-- The number of the next image (R159). -/
def Flash.nextImage (f : Flash) : Nat := (f.ratingUnits.map FlashUnit.imageNumber).foldl max 0 + 1

/-- The units of an image before its commit (R159). -/
def imageUnits : Nat := 19

/-- Whether the image of a commit is valid: its 19 units are all found (R159). -/
def imageWhole (us : List FlashUnit) (n : Nat) (set : RatingSet) : Bool :=
  (List.range imageUnits).all fun k => decide (.image n k set ∈ us)

/-- The valid image with the higher number of two candidates. -/
def pickImage (us : List FlashUnit) (best : Option (Nat × RatingSet)) (u : FlashUnit) : Option (Nat × RatingSet) :=
  match u with
  | .imageCommit n set =>
    if imageWhole us n set then
      match best with
      | none => some (n, set)
      | some b => if b.1 < n then some (n, set) else some b
    else best
  | _ => best

/-- The newest valid image (R159). -/
def Flash.newestImage (f : Flash) : Option RatingSet := ((f.ratingUnits.foldl (pickImage f.ratingUnits) none)).map Prod.snd

/-- The CONFIG block (R140). -/
def configBlock : Nat := 1

/-- The units of a saved configuration before its commit: a free number that fits the block with one retry
(R160; log 12). -/
def saveUnits : Nat := 6 + Config.saveUnits % 248

/-- Whether a commit's configuration is whole. -/
def configWhole (us : List FlashUnit) (units : Nat) (cfg : LiveConfig) : Bool :=
  (List.range units).all fun k => decide (.config k cfg ∈ us)

/-- The configuration block 1 holds with a valid commit (R160, R185). -/
def Flash.savedConfig (f : Flash) : Option LiveConfig :=
  let us := (f.block configBlock).map Prod.snd
  if f.inUse configBlock then
    us.findSome? fun u =>
      match u with
      | .configCommit units cfg => if configWhole us units cfg then some cfg else none
      | _ => none
  else none

/-- The identifier units of block 0 (R161). -/
def identUnits : List Nat := [2, 3, 4, 5, 6, 7, 8, 9]

/-- The identifier: the first identifier unit found with a good CRC (R161). -/
def Flash.identifier (f : Flash) : Option (List Byte) :=
  identUnits.findSome? fun u =>
    match f.read u with
    | some (.ident chars) => some chars
    | _ => none

/-- The lowest identifier unit that reads erased (R161). -/
def Flash.freeIdent (f : Flash) : Option Nat := identUnits.find? fun u => (f.read u).isNone

end Sys2Proof.Machine
end

