-- ==== Sys2Proof/Machine/Rating.lean ====
section
/-! DEFINITION. Rating sets and discharge (spec/04): the shift in force, the discharge of a stage, the inverse,
validity, the draft commands, QUERY_DISCHARGE and GET_RATING. Activation is in Machine/Activation.lean. -/

namespace Sys2Proof.Machine

/-! ### Discharge -/

/-- The greater-effective of two candidate shift entries at a time. -/
def laterShift (t : Word32) (best : Option (Nat × ShiftEntry)) (i : Nat) (e : ShiftEntry) :
    Option (Nat × ShiftEntry) :=
  if e.effective ≤ t then
    match best with
    | none => some (i, e)
    | some (j, b) => if b.effective < e.effective then some (i, e) else some (j, b)
  else best

/-- The entry with the greatest effective time that is t or earlier, with its index, over a list whose
first index is i (R65). -/
def shiftEntryFrom (t : Word32) : Nat → List ShiftEntry → Option (Nat × ShiftEntry) → Option (Nat × ShiftEntry)
  | _, [], best => best
  | i, e :: es, best => shiftEntryFrom t (i + 1) es (laterShift t best i e)

/-- The shift entry in force at a station time (R65). -/
def RatingSet.shiftEntry (r : RatingSet) (t : Word32) : Option (Nat × ShiftEntry) :=
  shiftEntryFrom t 0 r.shifts none

/-- The shift in force at a station time, 0 when no entry qualifies (R65). -/
def RatingSet.shiftAt (r : RatingSet) (t : Word32) : Int :=
  match r.shiftEntry t with
  | none => 0
  | some (_, e) => e.shift

/-- The formula of case 2 on the segment from a to b: Q_a plus the rounded proportion (R66). -/
def interpolate (a b : RatingPoint) (h : Int) : Nat :=
  a.q + roundHalfUp ((b.q - a.q) * (h - a.stage).toNat) (b.stage - a.stage).toNat

/-- The discharge at or above the first point: the segment that holds h, the last one beyond (R66, cases 2, 3). -/
def dischargeOn : List RatingPoint → Int → Nat
  | [], _ => 0
  | [a], _ => a.q
  | [a, b], h => interpolate a b h
  | a :: b :: c :: rest, h => if h < b.stage then interpolate a b h else dischargeOn (b :: c :: rest) h

/-- The stage of the last point. -/
def lastStage (ps : List RatingPoint) : Int := (ps.getLast?.map RatingPoint.stage).getD 0

/-- The discharge and range flag before the cap, at a rated stage h (R66). -/
def RatingSet.uncapped (r : RatingSet) (h : Int) : Nat × RatingFlags :=
  match r.points with
  | [] => (0, noRatingFlags)
  | p :: _ =>
    if h ≤ p.stage then (p.q, { noRatingFlags with below := true })
    else if lastStage r.points + r.ext < h then
      (dischargeOn r.points (lastStage r.points + r.ext), { noRatingFlags with beyond := true })
    else (dischargeOn r.points h, { noRatingFlags with extrapolated := decide (lastStage r.points < h) })

/-- The greatest discharge the part computes (R66). -/
def dischargeCap : Nat := 4000000000

/-- The discharge and flags at a rated stage (R66). -/
def RatingSet.atRated (r : RatingSet) (h : Int) : Nat × RatingFlags :=
  let (q, f) := r.uncapped h
  if dischargeCap < q then (dischargeCap, { f with capped := true }) else (q, f)

/-- The discharge and flags at a stage and a station time (R65, R66). -/
def RatingSet.rate (r : RatingSet) (stage : Int) (t : Word32) : Nat × RatingFlags :=
  r.atRated (stage + r.shiftAt t)

/-- The inverse on the points from a given one on (R68). -/
def inverseOn : List RatingPoint → Nat → Option Int
  | [], _ => none
  | [a], q => if a.q = q then some a.stage else none
  | a :: b :: rest, q =>
    if a.q = q then some a.stage
    else if a.q < q ∧ q < b.q then
      some (a.stage + roundHalfUp ((q - a.q) * (b.stage - a.stage).toNat) (b.q - a.q))
    else inverseOn (b :: rest) q

/-- The inverse of a discharge under a set: points alone, no shift and no extension (R68). -/
def RatingSet.inverse (r : RatingSet) (q : Nat) : Option Int := inverseOn r.points q

/-- The rating service of a sample: discharge, flags and id (R67). -/
def State.rateSample (s : State) (stage : Option Int) (t : Word32) : Option Nat × RatingFlags × Nat :=
  match s.rating.active, stage with
  | none, _ => (none, noRatingFlags, 0)
  | some r, none => (none, noRatingFlags, r.id)
  | some r, some st => (some (r.rate st t).1, (r.rate st t).2, r.id)

/-! ### Validity (R49, R59) -/

/-- Whether a point may follow another: a greater stage and no lesser discharge (R49). -/
def pointFollows (a b : RatingPoint) : Bool := decide (a.stage < b.stage) && decide (a.q ≤ b.q)

/-- The lowest index from i upward whose point does not follow the one before it (R59). -/
def pointFault : Nat → List RatingPoint → Option Nat
  | i, a :: b :: rest => if pointFollows a b then pointFault (i + 1) (b :: rest) else some (i + 1)
  | _, _ => none

/-- The lowest index from i upward whose entry's effective time is not greater than the one before (R59). -/
def shiftFault : Nat → List ShiftEntry → Option Nat
  | i, a :: b :: rest => if a.effective < b.effective then shiftFault (i + 1) (b :: rest) else some (i + 1)
  | _, _ => none

/-- The activation checks in order: kind and index of the first failure (R59). -/
def RatingSet.activationFault (r : RatingSet) : Option (Nat × Nat) :=
  if r.points.length < 2 then some (0, r.points.length)
  else
    match pointFault 0 r.points with
    | some i => some (1, i)
    | none =>
      match shiftFault 0 r.shifts with
      | some i => some (2, i)
      | none => none

/-- Whether the values of a point lie in R49's ranges. -/
def RatingPoint.inRange (p : RatingPoint) : Bool :=
  Machine.inRange stageMin stageMax p.stage && decide (p.q ≤ 100000000)

/-- Whether a set is valid (R49). -/
def RatingSet.valid (r : RatingSet) : Bool :=
  decide (r.points.length ≤ 64) && decide (r.shifts.length ≤ 8) && r.activationFault.isNone &&
    r.points.all RatingPoint.inRange && Machine.inRange 0 5000 r.ext &&
    r.shifts.all fun e => Machine.inRange (-2000) 2000 e.shift

/-! ### Draft commands -/

/-- What R52's table says of a draft command. -/
inductive DraftCommand where
  | begin
  | edit
  | discard
  | activate
  deriving DecidableEq, Repr

/-- Whether an activation released by its owner's port reset is in flight (R52, R64). -/
def RatingUnit.releasedInFlight (u : RatingUnit) : Bool :=
  match u.inFlight with
  | some f => f.owner.isNone
  | none => false

/-- The second step of R52: none when the command is taken. -/
def RatingUnit.draftCheck (u : RatingUnit) (p : Port) (c : DraftCommand) : Option Status :=
  let byTable : Option Status :=
    match u.draft with
    | .empty => if c = .begin then none else some .wrongState
    | .editing owner _ => if owner = p then none else some .held
    | .activating _ => some .held
    | .previous _ => if c = .edit then some .wrongState else none
  match byTable with
  | some st => some st
  | none => if c = .activate ∧ u.releasedInFlight then some .busy else none

/-- The state with the DRAFT slot replaced. -/
def State.setDraft (s : State) (d : Draft) : State := { s with rating := { s.rating with draft := d } }

/-- The reply of most draft commands: point count and shift count (R53 to R56). -/
def RatingSet.countsPayload (r : RatingSet) : List Byte := le8 r.points.length ++ le8 r.shifts.length

/-- A draft just begun (R53). -/
def RatingUnit.begun (u : RatingUnit) (copy : Bool) : RatingSet :=
  match copy, u.active with
  | true, some a => { a with id := 0 }
  | _, _ => { id := 0, points := [], shifts := [], ext := 500 }

/-- DRAFT_BEGIN (R53). -/
def draftBegin (p : Port) (payload : List Byte) (s : State) : State × Option Answer :=
  match parseByte payload with
  | none => refuse s .badArgument
  | some copy =>
    match s.rating.draftCheck p .begin with
    | some st => refuse s st
    | none =>
      if 1 < copy then refuse s .badArgument
      else
        let d := s.rating.begun (decide (copy = 1))
        ok (s.setDraft (.editing p d)) d.countsPayload

/-- An edit of the draft: R52's second step, then the command's own check and change of the set. -/
def editDraft (p : Port) (s : State) (edit : RatingSet → Option (RatingSet × Answer)) : State × Option Answer :=
  match s.rating.draftCheck p .edit with
  | some st => refuse s st
  | none =>
    match s.rating.draft with
    | .editing owner d =>
      match edit d with
      | none => refuse s .badArgument
      | some (d', a) => (s.setDraft (.editing owner d'), some a)
    | _ => refuse s .wrongState

/-- Points written in order at an index and the indices after it (R54). -/
def putPoints (ps new : List RatingPoint) (first : Nat) : List RatingPoint :=
  ps.take first ++ new ++ ps.drop (first + new.length)

/-- The third step and the effect of DRAFT_PUT_POINTS on the draft (R54). -/
def RatingSet.withPoints (d : RatingSet) (first : Nat) (new : List RatingPoint) : Option (RatingSet × Answer) :=
  if d.points.length < first ∨ 64 < first + new.length ∨ new.all RatingPoint.inRange = false then none
  else
    let d' := { d with points := putPoints d.points new first }
    some (d', ⟨.ok, d'.countsPayload⟩)

/-- DRAFT_PUT_POINTS (R54). -/
def draftPutPoints (p : Port) (payload : List Byte) (s : State) : State × Option Answer :=
  match parsePutPoints payload with
  | none => refuse s .badArgument
  | some (first, new) => editDraft p s fun d => d.withPoints first new

/-- The third step and the effect of DRAFT_TRUNCATE on the draft (R55). -/
def RatingSet.truncated (d : RatingSet) (count : Nat) : Option (RatingSet × Answer) :=
  if d.points.length < count then none
  else
    let d' := { d with points := d.points.take count }
    some (d', ⟨.ok, d'.countsPayload⟩)

/-- DRAFT_TRUNCATE (R55). -/
def draftTruncate (p : Port) (payload : List Byte) (s : State) : State × Option Answer :=
  match parseByte payload with
  | none => refuse s .badArgument
  | some count => editDraft p s fun d => d.truncated count

/-- The third step and the effect of DRAFT_PUT_SHIFT on the draft (R56). -/
def RatingSet.withShift (d : RatingSet) (index : Nat) (e : ShiftEntry) : Option (RatingSet × Answer) :=
  if 7 < index ∨ d.shifts.length < index ∨ Machine.inRange (-2000) 2000 e.shift = false then none
  else if e.effective = 0 ∧ e.shift = 0 then
    if index + 1 = d.shifts.length then
      let d' := { d with shifts := d.shifts.take index }
      some (d', ⟨.ok, d'.countsPayload⟩)
    else none
  else
    let d' := { d with shifts := d.shifts.take index ++ e :: d.shifts.drop (index + 1) }
    some (d', ⟨.ok, d'.countsPayload⟩)

/-- DRAFT_PUT_SHIFT (R56). -/
def draftPutShift (p : Port) (payload : List Byte) (s : State) : State × Option Answer :=
  match parseShift payload with
  | none => refuse s .badArgument
  | some (index, e) => editDraft p s fun d => d.withShift index e

/-- The effect of DRAFT_SET_EXTENSION on the draft: ext_mm clamped to 0 to 5,000 (R57). -/
def RatingSet.withExtension (d : RatingSet) (ext : Int) : Option (RatingSet × Answer) :=
  let stored := clampInt 0 5000 ext
  some ({ d with ext := stored }, ⟨if stored = ext then .ok else .clamped, sle16 stored⟩)

/-- DRAFT_SET_EXTENSION (R57). -/
def draftSetExtension (p : Port) (payload : List Byte) (s : State) : State × Option Answer :=
  match parseSigned payload with
  | none => refuse s .badArgument
  | some ext => editDraft p s fun d => d.withExtension ext

/-- DRAFT_DISCARD (R58). -/
def draftDiscard (p : Port) (payload : List Byte) (s : State) : State × Option Answer :=
  match parseEmpty payload with
  | none => refuse s .badArgument
  | some _ =>
    match s.rating.draftCheck p .discard with
    | some st => refuse s st
    | none => ok (s.setDraft .empty) []

/-! ### QUERY_DISCHARGE and GET_RATING -/

/-- QUERY_DISCHARGE's 12 bytes (R70). -/
def RatingSet.queryPayload (r : RatingSet) (stage : Int) (t : Word32) : List Byte :=
  le16 r.id ++
  (match r.shiftEntry t with
   | none => le8 0xFF
   | some (i, _) => le8 i) ++
  sle16 (r.shiftAt t) ++ sle16 (stage + r.shiftAt t) ++
  le32 (r.rate stage t).1 ++ flagsByte (r.rate stage t).2.bits

/-- QUERY_DISCHARGE (R70). -/
def queryDischarge (payload : List Byte) (s : State) : State × Option Answer :=
  match parseQuery payload with
  | none => refuse s .badArgument
  | some (stage, t) =>
    if inRange stageMin stageMax stage = false then refuse s .badArgument
    else
      match s.rating.active with
      | none => refuse s .wrongState
      | some r => ok s (r.queryPayload stage t)

/-- What GET_RATING shows of a slot: state code, owner code and set (R71). -/
structure SlotView where
  state : Nat
  owner : Nat
  set : RatingSet
  deriving DecidableEq, Repr

/-- An EMPTY slot as GET_RATING shows it (R71). -/
def emptySlot : SlotView := ⟨0, 0, { id := 0, points := [], shifts := [], ext := 0 }⟩

/-- The slots as GET_RATING shows them: 0 ACTIVE, 1 DRAFT (R71). -/
def RatingUnit.view (u : RatingUnit) : Nat → Option SlotView
  | 0 =>
    match u.active with
    | none => some emptySlot
    | some r => some ⟨4, 0, r⟩
  | 1 =>
    match u.draft with
    | .empty => some emptySlot
    | .editing owner d => some ⟨1, owner.number, d⟩
    | .activating owner =>
      match u.inFlight with
      | some f => some ⟨2, owner.number, f.set⟩
      | none => some ⟨2, owner.number, emptySlot.set⟩
    | .previous r => some ⟨3, 0, r⟩
  | _ => none

/-- A point as it is carried (R54). -/
def RatingPoint.bytes (p : RatingPoint) : List Byte := sle16 p.stage ++ le32 p.q

/-- A shift entry as it is carried (R71). -/
def ShiftEntry.bytes (e : ShiftEntry) : List Byte := leWord e.effective ++ sle16 e.shift

/-- GET_RATING's payload: header, shift entries, points from the index, up to 30 (R71). -/
def SlotView.payload (v : SlotView) (slot from_ : Nat) : List Byte :=
  let shown := (v.set.points.drop from_).take 30
  le8 slot ++ le8 v.state ++ le8 v.owner ++ le16 v.set.id ++ le8 v.set.points.length ++ le8 v.set.shifts.length ++
  sle16 v.set.ext ++ le8 from_ ++ le8 shown.length ++
  v.set.shifts.flatMap ShiftEntry.bytes ++ shown.flatMap RatingPoint.bytes

/-- GET_RATING (R71). -/
def getRating (payload : List Byte) (s : State) : State × Option Answer :=
  match parseTwo payload with
  | none => refuse s .badArgument
  | some (slot, from_) =>
    match s.rating.view slot with
    | none => refuse s .badArgument
    | some v => if v.set.points.length < from_ then refuse s .badArgument else ok s (v.payload slot from_)

/-! ### The meanings -/

/-- DRAFT_BEGIN (R53). -/
def execDraftBegin (p : Port) (payload : List Byte) (s : State) : Host.Outcome State Fault Refusal :=
  .next (s.serve p 0x22#8 payload (draftBegin p payload))

/-- DRAFT_PUT_POINTS (R54). -/
def execDraftPutPoints (p : Port) (payload : List Byte) (s : State) : Host.Outcome State Fault Refusal :=
  .next (s.serve p 0x23#8 payload (draftPutPoints p payload))

/-- DRAFT_TRUNCATE (R55). -/
def execDraftTruncate (p : Port) (payload : List Byte) (s : State) : Host.Outcome State Fault Refusal :=
  .next (s.serve p 0x24#8 payload (draftTruncate p payload))

/-- DRAFT_PUT_SHIFT (R56). -/
def execDraftPutShift (p : Port) (payload : List Byte) (s : State) : Host.Outcome State Fault Refusal :=
  .next (s.serve p 0x25#8 payload (draftPutShift p payload))

/-- DRAFT_SET_EXTENSION (R57). -/
def execDraftSetExtension (p : Port) (payload : List Byte) (s : State) : Host.Outcome State Fault Refusal :=
  .next (s.serve p 0x26#8 payload (draftSetExtension p payload))

/-- DRAFT_DISCARD (R58). -/
def execDraftDiscard (p : Port) (payload : List Byte) (s : State) : Host.Outcome State Fault Refusal :=
  .next (s.serve p 0x28#8 payload (draftDiscard p payload))

/-- QUERY_DISCHARGE (R70). -/
def execQueryDischarge (p : Port) (payload : List Byte) (s : State) : Host.Outcome State Fault Refusal :=
  .next (s.serve p 0x21#8 payload (queryDischarge payload))

/-- GET_RATING (R71). -/
def execGetRating (p : Port) (payload : List Byte) (s : State) : Host.Outcome State Fault Refusal :=
  .next (s.serve p 0x20#8 payload (getRating payload))

end Sys2Proof.Machine
end

