-- ==== Sys2Proof/Machine/Gauging.lean ====
section
/-! DEFINITION. The arithmetic of a gauging (spec/07): meter capture, point results, verticals, the table,
the close computation and the comparison list. -/

namespace Sys2Proof.Machine

/-! ### Meter capture -/

/-- The capture started afresh (R114). -/
def MeterCapture.started : MeterCapture :=
  { counting := true, k := 0, tFirst := none, tLast := none, lastAccepted := none }

/-- The capture stopped: k, t_first and t_last stay as they stand (R114). -/
def MeterCapture.stopped (m : MeterCapture) : MeterCapture := { m with counting := false }

/-- The debounce time in capture ticks (R115). -/
def debounceTicks : Nat := 200

/-- Whether a closure at a tick is a bounce (R115). -/
def MeterCapture.bounce (m : MeterCapture) (tick : Word32) : Bool :=
  match m.lastAccepted with
  | none => false
  | some t => decide (distance t tick < debounceTicks)

/-- A contact closure at a tick (R115). -/
def MeterCapture.closure (m : MeterCapture) (tick : Word32) : MeterCapture :=
  if m.counting = false ∨ m.bounce tick then m
  else
    { m with
      k := m.k + 1
      tFirst := if m.k + 1 = 1 then some tick else m.tFirst
      tLast := some tick
      lastAccepted := some tick }

/-- Δ: t_last − t_first modulo 2^32, 0 when k is below 2 (R116). -/
def MeterCapture.delta (m : MeterCapture) : Nat :=
  if m.k < 2 then 0
  else
    match m.tFirst, m.tLast with
    | some a, some b => distance a b
    | _, _ => 0

/-! ### Point results (R117, R118) -/

/-- The rotor rate before its clamp (R117). -/
def rateQuotient (cpr k delta : Nat) : Nat := if k < 2 then 0 else (k - 1) * 100000000 / (cpr * delta)

/-- The rotor rate n (R117). -/
def rotorRate (cpr k delta : Nat) : Nat := saturate 65535 (rateQuotient cpr k delta)

/-- Whether segment 2 of the meter rating applies (R118). -/
def RunDescription.segment2 (d : RunDescription) (n : Nat) : Bool := decide (d.nBreak ≠ 0) && decide (d.nBreak ≤ n)

/-- The velocity of a rate before its clamp, for a rate above 0 (R118). -/
def RunDescription.rawVelocity (d : RunDescription) (n : Nat) : Int :=
  if d.segment2 n then (roundHalfUp (d.a2 * n) 1000000 : Int) + d.b2
  else (roundHalfUp (d.a1 * n) 1000000 : Int) + d.b1

/-- The point velocity (R118). -/
def RunDescription.velocity (d : RunDescription) (n : Nat) : Nat :=
  if n = 0 then 0 else (clampInt 0 8000 (d.rawVelocity n)).toNat

/-- Whether the velocity was clamped (R118). -/
def RunDescription.velocityClamped (d : RunDescription) (n : Nat) : Bool :=
  decide (n ≠ 0) && !inRange 0 8000 (d.rawVelocity n)

/-- The point result of a capture (R116 to R119). -/
def pointResult (d : RunDescription) (f : Fraction) (m : MeterCapture) : PointResult :=
  let n := rotorRate d.cpr m.k m.delta
  { fraction := f, k := m.k, delta := m.delta, n := n, v := d.velocity n, stall := decide (m.k < 2),
    clamped := decide (65535 < rateQuotient d.cpr m.k m.delta) || d.velocityClamped n }

/-- A result replaces the one held for its fraction, or joins them; results stand in fraction order (R119). -/
def insertPoint (r : PointResult) : List PointResult → List PointResult
  | [] => [r]
  | x :: xs =>
    if x.fraction = r.fraction then r :: xs
    else if r.fraction.code < x.fraction.code then r :: x :: xs
    else x :: insertPoint r xs

/-! ### Verticals (R95, R120, R121) -/

/-- The fractions a method requires (spec/06, Verticals and points). -/
def Method.fractions : Method → List Fraction
  | .onePoint => [.p6]
  | .twoPoint => [.p2, .p8]
  | .threePoint => [.p2, .p6, .p8]
  | .surface => [.surface]
  | .edge => []

/-- Whether a point result is held for a fraction. -/
def holdsPoint (ps : List PointResult) (f : Fraction) : Bool := ps.any fun r => r.fraction = f

/-- The velocity held for a fraction, 0 when there is none. -/
def velocityAt (ps : List PointResult) (f : Fraction) : Nat :=
  match ps.find? fun r => r.fraction = f with
  | some r => r.v
  | none => 0

/-- Whether every fraction the method requires has a result (R98). -/
def OpenVertical.complete (o : OpenVertical) : Bool := o.method.fractions.all (holdsPoint o.points)

/-- The mean of the point velocities by the method (R120). -/
def methodMean (m : Method) (coef : Nat) (ps : List PointResult) : Nat :=
  match m with
  | .onePoint => velocityAt ps .p6
  | .twoPoint => roundHalfUp (velocityAt ps .p2 + velocityAt ps .p8) 2
  | .threePoint => roundHalfUp (velocityAt ps .p2 + 2 * velocityAt ps .p6 + velocityAt ps .p8) 4
  | .surface => roundHalfUp (velocityAt ps .surface * coef) 1000
  | .edge => 0

/-- The mean velocity of a vertical, with the angle correction (R120, R121). -/
def OpenVertical.meanVelocity (o : OpenVertical) (coef : Nat) : Nat :=
  if o.cosine = 0 then methodMean o.method coef o.points
  else roundHalfUp (methodMean o.method coef o.points * o.cosine) 1000

/-- The vertical record a finished vertical makes, before its width is known (R122). -/
def OpenVertical.record (o : OpenVertical) (coef : Nat) (supersedes : Bool) : Vertical :=
  { station := o.station, depth := o.depth, method := o.method, cosine := o.cosine, points := o.points,
    v := o.meanVelocity coef, w2 := 0, q := 0, a := 0, supersedes := supersedes }

/-! ### The vertical table (R122 to R127) -/

/-- The station at an index, 0 beyond the table. -/
def stationAt (t : List Vertical) (i : Nat) : Nat := (t[i]?.map Vertical.station).getD 0

/-- The double width of the vertical at an index (R124). -/
def doubleWidth (t : List Vertical) (i : Nat) : Nat :=
  if t.length ≤ 1 then 0
  else if i = 0 then stationAt t 1 - stationAt t 0
  else if i + 1 = t.length then stationAt t i - stationAt t (i - 1)
  else stationAt t (i + 1) - stationAt t (i - 1)

/-- The partial discharge of a vertical of a given double width (R125). -/
def partialQ (v d w2 : Nat) : Nat := roundHalfUp (v * d * w2) 2000000

/-- The partial area of a vertical of a given double width (R125). -/
def partialA (d w2 : Nat) : Nat := roundHalfUp (d * w2) 20000

/-- A vertical with its double width and partials (R124, R125). -/
def Vertical.withWidth (x : Vertical) (w2 : Nat) : Vertical :=
  { x with w2 := w2, q := partialQ x.v x.depth w2, a := partialA x.depth w2 }

/-- The vertical at an index recomputed within its table (R126). -/
def recomputeAt (t : List Vertical) (i : Nat) : List Vertical :=
  match t[i]? with
  | none => t
  | some x => t.set i (x.withWidth (doubleWidth t i))

/-- The verticals at three neighbouring indexes i − 1, i, i + 1 recomputed (R126). -/
def recomputeAround (t : List Vertical) (i : Nat) : List Vertical :=
  recomputeAt (recomputeAt (if i = 0 then t else recomputeAt t (i - 1)) i) (i + 1)

/-- The sum of partial discharges. -/
def sumQ (t : List Vertical) : Nat := (t.map Vertical.q).sum

/-- The sum of partial areas. -/
def sumA (t : List Vertical) : Nat := (t.map Vertical.a).sum

/-- The verticals below a station. -/
def below (t : List Vertical) (station : Nat) : List Vertical := t.filter fun x => x.station < station

/-- The verticals above a station. -/
def above (t : List Vertical) (station : Nat) : List Vertical := t.filter fun x => station < x.station

/-- Whether the table holds a vertical at a station. -/
def holdsStation (t : List Vertical) (station : Nat) : Bool := t.any fun x => x.station = station

/-- The table with a vertical entered at the place its station gives it, replacing one at the same station,
and the verticals of R126's set recomputed (R123). -/
def enterVertical (t : List Vertical) (x : Vertical) : List Vertical :=
  recomputeAround (below t x.station ++ x :: above t x.station) (below t x.station).length

/-- The table with the vertical at a station removed and its two neighbours recomputed (R123, R126). -/
def removeVertical (t : List Vertical) (station : Nat) : List Vertical :=
  let t' := below t station ++ above t station
  let i := (below t station).length
  recomputeAt (if i = 0 then t' else recomputeAt t' (i - 1)) i

/-- The run with a new table: the totals are adjusted by the old and the new values (R127). The verticals
that are not recomputed have the same value in both sums, so that the adjustment is that of R126's set. -/
def Run.withTable (r : Run) (t : List Vertical) : Run :=
  { r with
    table := t
    totalQ := r.totalQ + sumQ t - sumQ r.table
    totalA := r.totalA + sumA t - sumA r.table }

/-! ### Stage accumulation (R109) -/

/-- A stage joins the accumulators of an OPEN or OBSERVING run (R109). -/
def Run.accumulate (r : Run) (stage : Option Int) : Run :=
  match stage with
  | none => r
  | some x =>
    if r.active then
      { r with
        stageSum := r.stageSum + x
        stageCount := r.stageCount + 1
        stageLeast := if r.stageCount = 0 ∨ x < r.stageLeast then x else r.stageLeast
        stageGreatest := if r.stageCount = 0 ∨ r.stageGreatest < x then x else r.stageGreatest }
    else r

/-! ### The close computation (R128 to R132) -/

/-- The mean velocity of the section (R128). -/
def sectionVelocity (q a : Nat) : Option Nat :=
  if a = 0 then none else some (saturate 65535 (roundHalfUp (q * 100) a))

/-- The mean stage, or none for NO_STAGE (R129); `newest` is the governing stage of the newest composed sample. -/
def Run.meanStage (r : Run) (newest : Option Int) : Option Int :=
  if r.stageCount = 0 then
    match newest with
    | some x => some x
    | none => r.stageAtOpen
  else some (roundHalfAway r.stageSum r.stageCount)

/-- UNSTEADY (R130). -/
def Run.isUnsteady (r : Run) (limit : Int) : Bool :=
  decide (r.stageCount ≠ 0) && decide (limit < r.stageGreatest - r.stageLeast)

/-- CONCENTRATED (R130). -/
def Run.isConcentrated (r : Run) (limit : Int) : Bool :=
  r.table.any fun x => decide ((r.totalQ : Int) * limit < (x.q : Int) * 1000)

/-- The deviation in per mille (R131). -/
def deviation (q rated : Nat) : Option Int :=
  if rated = 0 then none
  else some (clampInt (-32767) 32767 (roundHalfAway (((q : Int) - rated) * 1000) rated))

/-- The comparison with the rating: rated discharge and flags, indicated shift, rating id (R69, R131). -/
structure Comparison where
  rated : Option (Nat × RatingFlags)
  deviation : Option Int
  shift : Option Int
  ratingId : Option Nat
  deriving DecidableEq, Repr

/-- No comparison (R69, R129, R131). -/
def noComparison : Comparison := ⟨none, none, none, none⟩

/-- The comparison of a mean stage, close time and discharge with a set (R69, R131). -/
def RatingSet.compare (r : RatingSet) (stage : Int) (t : Word32) (q : Nat) : Comparison :=
  { rated := some (r.rate stage t)
    deviation := Machine.deviation q (r.rate stage t).1
    shift := (r.inverse q).map fun x => x - stage
    ratingId := some r.id }

/-- The comparison a closing run gets (R69, R129, R131). -/
def closeComparison (active : Option RatingSet) (stage : Option Int) (t : Word32) (q : Nat) : Comparison :=
  match active, stage with
  | some r, some x => r.compare x t q
  | _, _ => noComparison

/-- The governing stage of the newest composed sample (R93, R129). -/
def State.newestStage (s : State) : Option Int :=
  match s.sel.newest with
  | none => none
  | some c => c.sample.stage

/-- The close record of the close computation (R128 to R132). -/
def Run.closeComputation (r : Run) (s : State) (result : RunResult) : CloseRecord :=
  let mean := r.meanStage s.newestStage
  let m := mean.getD 0
  let cmp := closeComparison s.rating.active mean s.backup.clock r.totalQ
  { runId := r.id, closeTime := s.backup.clock, result := result, totalQ := r.totalQ, totalA := r.totalA,
    meanVelocity := sectionVelocity r.totalQ r.totalA, meanStage := m,
    stageLeast := if r.stageCount = 0 then m else r.stageLeast,
    stageGreatest := if r.stageCount = 0 then m else r.stageGreatest,
    rated := cmp.rated, deviation := cmp.deviation, shift := cmp.shift, ratingId := cmp.ratingId,
    unsteady := r.isUnsteady (s.cfg.get .unsteadyLimit),
    concentrated := r.isConcentrated (s.cfg.get .concentrationLimit),
    notStored := r.notStored, referenceChanged := r.referenceChanged, sourceChanged := r.sourceChanged,
    noStage := mean.isNone }

/-- An ABANDONED run's record: the totals as given, and nothing of the close computation (R103; log 29). -/
def abandonedRecord (runId : Nat) (t : Word32) (q a : Nat) (notStored refChanged srcChanged : Bool) : CloseRecord :=
  { runId := runId, closeTime := t, result := .abandoned, totalQ := q, totalA := a, meanVelocity := none,
    meanStage := 0, stageLeast := 0, stageGreatest := 0, rated := none, deviation := none, shift := none,
    ratingId := none, unsteady := false, concentrated := false, notStored := notStored,
    referenceChanged := refChanged, sourceChanged := srcChanged, noStage := false }

/-! ### The comparison list (R133, R135) -/

/-- A close record joins as the newest entry; the oldest of 16 is first removed (R133). The newest stands last. -/
def joinList (list : List CloseRecord) (r : CloseRecord) : List CloseRecord :=
  if 16 ≤ list.length then list.drop 1 ++ [r] else list ++ [r]

/-- An entry of GET_GAUGINGS, 38 bytes (R135). -/
def CloseRecord.bytes (r : CloseRecord) : List Byte :=
  le16 r.runId ++ leWord r.closeTime ++ le8 r.result.code ++ le32 r.totalQ ++ le32 r.totalA ++
  le16 (r.meanVelocity.getD 0) ++ sle16 r.meanStage ++ sle16 r.stageLeast ++ sle16 r.stageGreatest ++
  (match r.rated with
   | none => le32 0 ++ le8 0
   | some (q, f) => le32 q ++ flagsByte f.bits) ++
  sle16 (r.deviation.getD 0) ++ sle32 (r.shift.getD 0) ++ le16 (r.ratingId.getD 0) ++
  le16 (bitsNat [present r.meanVelocity, present r.rated, present r.deviation, present r.shift, present r.ratingId,
    r.unsteady, r.concentrated, r.notStored, r.referenceChanged, r.sourceChanged, r.noStage])

/-- GET_GAUGINGS's payload (R135). -/
def gaugingsPayload (list : List CloseRecord) (from_ : Nat) : List Byte :=
  let shown := (list.reverse.drop from_).take 6
  le8 list.length ++ le8 from_ ++ le8 shown.length ++ shown.flatMap CloseRecord.bytes

/-- GET_GAUGINGS (R135). -/
def getGaugings (payload : List Byte) (s : State) : State × Option Answer :=
  match parseByte payload with
  | none => refuse s .badArgument
  | some from_ =>
    if s.gaugings.length < from_ then refuse s .badArgument else ok s (gaugingsPayload s.gaugings from_)

/-! ### The meanings -/

/-- METER_CLOSURE (R115). -/
def execMeterClosure (s : State) : Host.Outcome State Fault Refusal :=
  .next (if s.running then { s with meter := s.meter.closure s.ticks } else s)

/-- GET_GAUGINGS (R135). -/
def execGetGaugings (p : Port) (payload : List Byte) (s : State) : Host.Outcome State Fault Refusal :=
  .next (s.serve p 0x4B#8 payload (getGaugings payload))

end Sys2Proof.Machine
end

