-- ==== Sys2Proof/Machine/Runs.lean ====
section
/-! DEFINITION. Cableway gauging runs (spec/06): opening, verticals and points, parking, ending, the journal
entries a run hands over, and the run commands. -/

namespace Sys2Proof.Machine

/-! ### Journal entries (R110, R157) -/

/-- The places of the journal queue (R157). -/
def journalPlaces : Nat := 4

/-- Whether the journal queue has n free places (R90, R92). -/
def State.journalRoom (s : State) (n : Nat) : Bool := decide (s.store.journalQueue.length + n ≤ journalPlaces)

/-- The run is marked NOT_STORED (R110). -/
def Run.markNotStored (r : Run) : Run := { r with notStored := true }

/-- Whether the run is NOT_STORED. -/
def State.runNotStored (s : State) : Bool :=
  match s.run with
  | some r => r.notStored
  | none => false

/-- An entry joins the journal queue as its newest (R157). -/
def State.queueEntry (s : State) (e : JournalEntry) : State :=
  s.setStore { s.store with journalQueue := s.store.journalQueue ++ [⟨e, 0⟩] }

/-- A command of the run hands an entry: not handed in DEGRADED, when the run becomes NOT_STORED, nor by a
run that is NOT_STORED already (R110). -/
def State.handEntry (s : State) (e : JournalEntry) : State :=
  if s.store.degraded then s.mapRun Run.markNotStored
  else if s.runNotStored then s
  else s.queueEntry e

/-! ### Lockout (R94) -/

/-- Whether the warning level is above run_limit (R94). -/
def State.lockedOut (s : State) : Bool := decide (s.cfg.runLimitRank < s.warn.level.rank)

/-! ### Opening a run (R91) -/

/-- The id one above another, with 65,535 followed by 1 (R60, R91). -/
def nextId (id : Nat) : Nat := if id = 65535 then 1 else id + 1

/-- The checks on RUN_OPEN's fields (R91, step 3 of R90). -/
def runOpenFits (d : RunDescription) (mask : Nat) : Bool :=
  decide (1 ≤ d.cpr ∧ d.cpr ≤ 10) && decide (1 ≤ d.a1 ∧ d.a1 ≤ 2000000) && inRange (-100) 100 d.b1 &&
  (decide (d.nBreak = 0) || (decide (1 ≤ d.a2 ∧ d.a2 ≤ 2000000) && inRange (-100) 100 d.b2)) &&
  (decide (d.coef = 0) || decide (700 ≤ d.coef ∧ d.coef ≤ 1000)) &&
  decide (d.initial ≤ 500000) && decide (d.farBank ≤ 500000) && decide (d.initial < d.farBank) && decide (mask < 4)

/-- The description with its coefficient in force: the configured default when 0 was sent (R91). -/
def RunDescription.withCoef (d : RunDescription) (configured : Int) : RunDescription :=
  if d.coef = 0 then { d with coef := configured.toNat } else d

/-- A run just opened (R91, R93). -/
def State.newRun (s : State) (d : RunDescription) : Run :=
  { state := .opened, id := nextId s.newestRunId, openTime := s.backup.clock,
    desc := d.withCoef (s.cfg.get .surfaceCoef), table := [], totalQ := 0, totalA := 0, openVertical := none,
    obs := none, stageAtOpen := s.newestStage, stageSum := 0, stageCount := 0, stageLeast := 0, stageGreatest := 0,
    referenceChanged := false, sourceChanged := false, unsteady := false, concentrated := false, notStored := false,
    parkReason := none, parkUptime := none, silenceStart := if d.linkSilent then some s.uptime else none,
    closeRec := none, ending := none, trailerHeld := false, replyTo := none }

/-- The header entry of a run (R110). -/
def Run.header (r : Run) : JournalEntry := .header ⟨r.id, r.openTime, r.desc, r.stageAtOpen⟩

/-- The new run opens and hands its header (R91). -/
def State.openRun (s : State) (d : RunDescription) : State :=
  { s with run := some (s.newRun d), newestRunId := nextId s.newestRunId }.handEntry (s.newRun d).header

/-- The reply of RUN_OPEN: `closed` is the id and result of a parked run it closed (R91, R92). -/
def openPayload (r : Run) (closed : Option (Nat × RunResult)) : List Byte :=
  le16 r.id ++ sle16 (r.stageAtOpen.getD 0) ++ flagsByte [present r.stageAtOpen, present closed] ++
  (match closed with
   | none => le16 0 ++ le8 0
   | some (id, result) => le16 id ++ le8 result.code)

/-! ### The end of CLOSING (R102) -/

/-- The reply of RUN_CLOSE (R101). -/
def closePayload (c : CloseRecord) : List Byte :=
  le16 c.runId ++ le8 c.result.code ++
  flagsByte [c.unsteady, c.concentrated, c.notStored, c.referenceChanged, c.sourceChanged, c.noStage] ++
  le32 c.totalQ ++ le16 (saturate 65535 c.totalA)

/-- The reply of RUN_ABANDON (R103). -/
def abandonPayload (c : CloseRecord) : List Byte := le16 c.runId ++ le8 c.result.code

/-- A RUN_OPEN that waited behind a closing run is judged again and carried out (R92; log 43). -/
def State.openAfter (s : State) (d : RunDescription) (closed : CloseRecord) (toPort : Option Port) : State :=
  if s.lockedOut then s.replyHeld toPort ⟨.lockout, []⟩
  else if s.store.degraded then s.replyHeld toPort ⟨.storeFault, []⟩
  else
    (s.openRun d).replyHeld toPort ⟨.ok, openPayload (s.newRun d) (some (closed.runId, closed.result))⟩

/-- The held reply of an ended run, or the run that opens in its place (R92, R101, R102, R103). -/
def State.afterClosing (s : State) (e : Option Ending) (c : CloseRecord) (toPort : Option Port) : State :=
  match e with
  | some .close => s.replyHeld toPort ⟨.ok, closePayload c⟩
  | some .abandon => s.replyHeld toPort ⟨.ok, abandonPayload c⟩
  | some (.supersede d) => s.openAfter d c toPort
  | some .expiry => s
  | none => s

/-- A COMPLETE or INCOMPLETE result joins the comparison list (R102, R133). -/
def State.joinGaugings (s : State) (c : CloseRecord) : State :=
  if c.result = .abandoned then s else { s with gaugings := joinList s.gaugings c }

/-- CLOSING ends (R102): the result to the comparison list, RUN_CLOSED, IDLE, the held reply, in order. -/
def State.endClosing (s : State) : State :=
  match s.run with
  | none => s
  | some r =>
    match r.closeRec with
    | none => s
    | some rec0 =>
      let c := { rec0 with notStored := r.notStored }
      let s := (s.joinGaugings c).raiseAll .runClosed
      (s.setRun none).afterClosing r.ending c r.replyTo

/-! ### Ending a run (R92, R101, R103, R108) -/

/-- The run context as it enters CLOSING with its record. -/
def Run.closed (r : Run) (c : CloseRecord) (e : Ending) (toPort : Option Port) : Run :=
  { r with
    state := .closing, openVertical := none, obs := none, silenceStart := none, parkReason := none, parkUptime := none,
    unsteady := c.unsteady, concentrated := c.concentrated, closeRec := some c, ending := some e, replyTo := toPort }

/-- The trailer is handed to the journal queue, or held for want of room; a run that is NOT_STORED, or a store
that is DEGRADED, makes none and CLOSING ends at once (R102, R110). -/
def State.handTrailer (s : State) (c : CloseRecord) : State :=
  if s.store.degraded then (s.mapRun Run.markNotStored).endClosing
  else if s.runNotStored then s.endClosing
  else if s.journalRoom 1 then s.queueEntry (.trailer c)
  else s.mapRun fun r => { r with trailerHeld := true }

/-- A run ends with a record: the meter capture stops, the context enters CLOSING, the trailer is handed. -/
def State.endRun (s : State) (r : Run) (c : CloseRecord) (e : Ending) (toPort : Option Port) : State :=
  { s with run := some (r.closed c e toPort), meter := s.meter.stopped }.handTrailer c

/-- The record of a run closed by park expiry or by a RUN_OPEN over it: INCOMPLETE with the close computation
when the table holds 3 or more verticals, ABANDONED otherwise (R92, R108). The close time of an ABANDONED one is the station
clock here, the model's choice (log 29). -/
def Run.parkedRecord (r : Run) (s : State) : CloseRecord :=
  if 3 ≤ r.table.length then r.closeComputation s .incomplete
  else abandonedRecord r.id s.backup.clock r.totalQ r.totalA r.notStored r.referenceChanged r.sourceChanged

/-- RUN_OPEN (R90 to R93). -/
def runOpen (p : Port) (payload : List Byte) (s : State) : State × Option Answer :=
  match parseRunOpen payload with
  | none => refuse s .badArgument
  | some (d, mask) =>
    match s.run with
    | none =>
      if runOpenFits d mask = false then refuse s .badArgument
      else if s.lockedOut then refuse s .lockout
      else if s.store.degraded then refuse s .storeFault
      else if s.journalRoom 1 = false then refuse s .busy
      else ok (s.openRun d) (openPayload (s.newRun d) none)
    | some r =>
      match r.state with
      | .opened => refuse s .wrongState
      | .observing => refuse s .wrongState
      | .closing => refuse s .busy
      | .parked =>
        if runOpenFits d mask = false then refuse s .badArgument
        else if s.lockedOut then refuse s .lockout
        else if s.store.degraded then refuse s .storeFault
        else if s.journalRoom 2 = false then refuse s .busy
        else hold (s.endRun r (r.parkedRecord s) (.supersede d) (some p))

/-! ### Parking (R104) -/

/-- Whether a park request of a reason parks the run (spec/06, Parking; R104). -/
def Run.parksOn (r : Run) (reason : ParkReason) : Bool :=
  r.active && (decide (reason ≠ .sourceSwitch) || r.desc.sourceSwitch)

/-- The run as it is parked (R104). -/
def Run.parked (r : Run) (reason : ParkReason) (now : Nat) : Run :=
  { r with state := .parked, obs := none, parkReason := some reason, parkUptime := some now, silenceStart := none }

/-- A park request (R104): it has no effect on a run that does not park on it. -/
def State.park (s : State) (reason : ParkReason) : State :=
  match s.run with
  | none => s
  | some r =>
    if r.parksOn reason then
      ({ s with run := some (r.parked reason s.uptime), meter := s.meter.stopped }.raiseAll .runParked).raiseOn .c .recall
    else s

/-- Whether a timer started at an uptime has reached its limit (R30). -/
def timerDue (start : Option Nat) (limit : Int) (now : Nat) : Bool :=
  match start with
  | none => false
  | some t => decide (limit ≤ (now : Int) - (t : Int))

/-- Whether a timer has reached its limit at this uptime second: the item as the second found it and as it stands now, so
that a limit lowered within the second acts at the next one (R81, R105, R108; log 35). -/
def State.limitReached (s : State) (start : Option Nat) (found : Int) (i : Item) : Bool :=
  timerDue start found s.uptime && timerDue start (s.cfg.get i) s.uptime

/-- Whether the silence timer has expired (R105). -/
def State.silenceDue (s : State) : Bool :=
  match s.run with
  | none => false
  | some r => r.active && s.limitReached r.silenceStart s.limits.silenceLimit .silenceLimit

/-- Whether the park timer has expired (R108). -/
def State.parkDue (s : State) : Bool :=
  match s.run with
  | none => false
  | some r => decide (r.state = .parked) && s.limitReached r.parkUptime s.limits.parkLifetime .parkLifetime

/-- The silence timer's expiry hands a park request (R105). -/
def State.silenceExpiry (s : State) : State := if s.silenceDue then s.park .linkSilent else s

/-- The park timer's expiry closes the run INCOMPLETE or ABANDONED (R108). -/
def State.parkExpiry (s : State) : State :=
  if s.parkDue then
    match s.run with
    | none => s
    | some r => (s.raiseAll .parkExpired).endRun r (r.parkedRecord s) .expiry none
  else s

/-- A trailer held for want of room joins the queue once a place frees (R110). -/
def State.handoverDue (s : State) : Bool :=
  match s.run with
  | none => false
  | some r => r.trailerHeld && r.closeRec.isSome && s.journalRoom 1 && !s.store.degraded

/-- TRAILER_HANDOVER (R110). -/
def State.trailerHandover (s : State) : State :=
  if s.handoverDue then
    match s.run with
    | none => s
    | some r =>
      match r.closeRec with
      | none => s
      | some c => (s.setRun (some { r with trailerHeld := false })).queueEntry (.trailer c)
  else s

/-! ### Verticals and points (R95 to R100) -/

/-- VERTICAL_BEGIN's checks (R95). -/
def RunDescription.verticalFits (d : RunDescription) (station depth method cosine : Nat) : Bool :=
  decide (d.initial ≤ station ∧ station ≤ d.farBank) && decide (depth ≤ 30000) &&
  (decide (depth = 0) || (decide (method ≤ 3) && !(decide (method = 1 ∨ method = 2) && decide (depth < 600)))) &&
  (decide (cosine = 0) || decide (500 ≤ cosine ∧ cosine ≤ 1000))

/-- The vertical VERTICAL_BEGIN opens: depth 0 makes an edge vertical (R95). -/
def beginVertical (station depth method cosine : Nat) : OpenVertical :=
  { station := station, depth := depth,
    method := if depth = 0 then .edge else (methodOf method).getD .edge, cosine := cosine, points := [] }

/-- VERTICAL_BEGIN (R95). -/
def verticalBegin (payload : List Byte) (s : State) : State × Option Answer :=
  match parseVertical payload with
  | none => refuse s .badArgument
  | some (station, depth, method, cosine) =>
    match s.run with
    | none => refuse s .wrongState
    | some r =>
      if r.state ≠ .opened ∨ r.openVertical.isSome then refuse s .wrongState
      else if r.desc.verticalFits station depth method cosine = false then refuse s .badArgument
      else
        ok (s.setRun (some { r with openVertical := some (beginVertical station depth method cosine) }))
          (flagsByte [holdsStation r.table station] ++ le8 r.table.length)

/-- The duration of an observation as used (R96). -/
def usedDuration (d : Nat) : Nat := (clampInt 20 200 (d : Int)).toNat

/-- POINT_START (R96). -/
def pointStart (payload : List Byte) (s : State) : State × Option Answer :=
  match parseTwo payload with
  | none => refuse s .badArgument
  | some (fr, dur) =>
    match s.run with
    | none => refuse s .wrongState
    | some r =>
      match r.state, r.openVertical with
      | .observing, _ => refuse s .busy
      | .opened, some o =>
        if o.depth = 0 then refuse s .wrongState
        else
          match fractionOf fr with
          | none => refuse s .badArgument
          | some f =>
            if f ∈ o.method.fractions then
              ({ s with
                  run := some { r with state := .observing, obs := some ⟨f, usedDuration dur, s.ticks⟩ }
                  meter := .started },
                some ⟨if usedDuration dur = dur then .ok else .clamped,
                  le8 (usedDuration dur) ++ le16 s.ticks.toNat⟩)
            else refuse s .badArgument
      | _, _ => refuse s .wrongState

/-- The ticks of an observation's duration (R97). -/
def Observation.ticks (o : Observation) : Nat := o.duration * 100000

/-- Whether the observation in flight has run its duration (R97). -/
def State.observationDue (s : State) : Bool :=
  match s.run with
  | none => false
  | some r =>
    match r.state, r.obs with
    | .observing, some o => decide (o.ticks ≤ distance o.start s.ticks)
    | _, _ => false

/-- The open vertical with a point result stored under its fraction (R97). -/
def OpenVertical.store (o : OpenVertical) (pr : PointResult) : OpenVertical :=
  { o with points := insertPoint pr o.points }

/-- OBSERVATION_COMPLETE (R97, R116). -/
def State.observationComplete (s : State) : State :=
  if s.observationDue then
    match s.run with
    | none => s
    | some r =>
      match r.obs with
      | none => s
      | some o =>
        { s with
          run := some { r with
            state := .opened, obs := none,
            openVertical := r.openVertical.map fun v : OpenVertical => v.store (pointResult r.desc o.fraction s.meter) }
          meter := s.meter.stopped }.raiseAll .pointDone
  else s

/-- The vertical record entered by VERTICAL_END, as it stands in the new table (R98, R110). -/
def Run.entered (r : Run) (o : OpenVertical) : Vertical :=
  let x := o.record r.desc.coef (holdsStation r.table o.station)
  match (enterVertical r.table x).find? fun y => y.station = o.station with
  | some y => y
  | none => x

/-- The run after VERTICAL_END (R98, R123). -/
def Run.afterVertical (r : Run) (o : OpenVertical) : Run :=
  { r.withTable (enterVertical r.table (o.record r.desc.coef (holdsStation r.table o.station))) with
    openVertical := none }

/-- The reply of VERTICAL_END (R98). -/
def verticalPayload (r : Run) (x : Vertical) : List Byte :=
  le16 x.v ++ le32 x.q ++ le32 x.a ++ le8 r.table.length ++ flagsByte [x.supersedes] ++ le32 r.totalQ ++ le32 r.totalA

/-- The most verticals the table holds (R122). -/
def tableLimit : Nat := 40

/-- VERTICAL_END (R98). -/
def verticalEnd (payload : List Byte) (s : State) : State × Option Answer :=
  match parseEmpty payload with
  | none => refuse s .badArgument
  | some _ =>
    match s.run with
    | none => refuse s .wrongState
    | some r =>
      match r.state, r.openVertical with
      | .observing, _ => refuse s .busy
      | .opened, some o =>
        if o.complete = false then refuse s .wrongState
        else if holdsStation r.table o.station = false ∧ tableLimit ≤ r.table.length then refuse s .tableFull
        else if r.notStored = false ∧ s.journalRoom 1 = false then refuse s .busy
        else
          ok ((s.setRun (some (r.afterVertical o))).handEntry (.vertical r.id (r.entered o)))
            (verticalPayload (r.afterVertical o) (r.entered o))
      | _, _ => refuse s .wrongState

/-- VERTICAL_CANCEL (R99). -/
def verticalCancel (payload : List Byte) (s : State) : State × Option Answer :=
  match parseEmpty payload with
  | none => refuse s .badArgument
  | some _ =>
    match s.run with
    | none => refuse s .wrongState
    | some r =>
      match r.state with
      | .observing =>
        ok { s with run := some { r with state := .opened, obs := none, openVertical := none },
                    meter := s.meter.stopped } []
      | .closing => refuse s .wrongState
      | _ =>
        if r.openVertical.isSome then ok (s.setRun (some { r with openVertical := none })) []
        else refuse s .wrongState

/-- The reply of VERTICAL_REMOVE (R100). -/
def removePayload (r : Run) : List Byte := le8 r.table.length ++ le32 r.totalQ ++ le32 r.totalA

/-- VERTICAL_REMOVE (R100). -/
def verticalRemove (payload : List Byte) (s : State) : State × Option Answer :=
  match parseFour payload with
  | none => refuse s .badArgument
  | some station =>
    match s.run with
    | none => refuse s .wrongState
    | some r =>
      match r.state with
      | .observing => refuse s .busy
      | .opened =>
        if holdsStation r.table station = false then refuse s .badArgument
        else if r.notStored = false ∧ s.journalRoom 1 = false then refuse s .busy
        else
          let r' := r.withTable (removeVertical r.table station)
          ok ((s.setRun (some r')).handEntry (.removal r.id station)) (removePayload r')
      | _ => refuse s .wrongState

/-! ### RUN_CLOSE, RUN_ABANDON, RUN_RESUME -/

/-- RUN_CLOSE (R101). -/
def runClose (p : Port) (payload : List Byte) (s : State) : State × Option Answer :=
  match parseEmpty payload with
  | none => refuse s .badArgument
  | some _ =>
    match s.run with
    | none => refuse s .wrongState
    | some r =>
      if r.state = .opened ∧ r.openVertical.isNone ∧ 3 ≤ r.table.length then
        hold (s.endRun r (r.closeComputation s .complete) .close (some p))
      else refuse s .wrongState

/-- RUN_ABANDON (R103). The close time of its trailer is the station clock as CLOSING begins, the model's choice (log 29). -/
def runAbandon (p : Port) (payload : List Byte) (s : State) : State × Option Answer :=
  match parseEmpty payload with
  | none => refuse s .badArgument
  | some _ =>
    match s.run with
    | none => refuse s .wrongState
    | some r =>
      if r.state = .closing then refuse s .busy
      else
        hold (s.endRun r
          (abandonedRecord r.id s.backup.clock r.totalQ r.totalA r.notStored r.referenceChanged r.sourceChanged)
          .abandon (some p))

/-- The run resumed (R106). -/
def Run.resumed (r : Run) (now : Nat) : Run :=
  { r with state := .opened, parkReason := none, parkUptime := none,
           silenceStart := if r.desc.linkSilent then some now else none }

/-- RUN_RESUME (R106). -/
def runResume (payload : List Byte) (s : State) : State × Option Answer :=
  match parseEmpty payload with
  | none => refuse s .badArgument
  | some _ =>
    match s.run with
    | none => refuse s .wrongState
    | some r =>
      if r.state ≠ .parked then refuse s .wrongState
      else if s.lockedOut then refuse s .lockout
      else
        ok ((s.setRun (some (r.resumed s.uptime))).raiseAll .runResumed)
          (le32 (s.uptime - r.parkUptime.getD s.uptime) ++ le8 r.table.length)

/-! ### RUN_STATUS and GET_VERTICAL -/

/-- Seconds since a timer's start, 0 when it is stopped. -/
def elapsed (start : Option Nat) (now : Nat) : Nat :=
  match start with
  | none => 0
  | some t => now - t

/-- The flags of a run in RUN_STATUS (R112). -/
def Run.statusFlags (r : Run) : List Bool :=
  [r.referenceChanged, r.sourceChanged, r.notStored, present r.openVertical, present r.obs,
   decide (0 < r.stageCount)]

/-- The open vertical's fields in RUN_STATUS (R112). -/
def openPart (o : Option OpenVertical) : List Byte :=
  match o with
  | none => le32 0 ++ le8 0
  | some v => le32 v.station ++
      flagsByte [holdsPoint v.points .surface, holdsPoint v.points .p2, holdsPoint v.points .p6, holdsPoint v.points .p8]

/-- The observation's fields in RUN_STATUS: fraction, contacts, elapsed ticks, duration (R112, R114). -/
def State.observationPart (s : State) (o : Option Observation) : List Byte :=
  match o with
  | none => le8 0 ++ le16 0 ++ le32 0 ++ le8 0
  | some x => le8 x.fraction.code ++ le16 (saturate 65535 s.meter.k) ++ le32 (distance x.start s.ticks) ++ le8 x.duration

/-- RUN_STATUS's 40 bytes (R112). -/
def State.runStatusPayload (s : State) : List Byte :=
  match s.run with
  | none => le8 0 ++ le16 s.newestRunId ++ List.replicate 37 0#8
  | some r =>
    le8 r.state.code ++ le16 r.id ++ flagsByte r.statusFlags ++ flagsByte [r.desc.linkSilent, r.desc.sourceSwitch] ++
    le8 ((r.parkReason.map ParkReason.code).getD 0) ++ le8 r.table.length ++ openPart r.openVertical ++
    le32 r.totalQ ++ le32 r.totalA ++ le16 (saturate 65535 r.stageCount) ++ sle16 r.stageLeast ++
    sle16 r.stageGreatest ++ s.observationPart r.obs ++
    le16 (saturate 65535 (elapsed r.silenceStart s.uptime)) ++ le32 (elapsed r.parkUptime s.uptime)

/-- RUN_STATUS (R112). -/
def runStatus (payload : List Byte) (s : State) : State × Option Answer :=
  match parseEmpty payload with
  | none => refuse s .badArgument
  | some _ => ok s s.runStatusPayload

/-- A point result as GET_VERTICAL carries it, 14 bytes (R111). -/
def PointResult.bytes (x : PointResult) : List Byte :=
  le8 x.fraction.code ++ le32 x.k ++ le32 x.delta ++ le16 x.n ++ le16 x.v ++ flagsByte [x.stall, x.clamped]

/-- GET_VERTICAL's payload of a table vertical (R111). -/
def Vertical.bytes (x : Vertical) : List Byte :=
  le32 x.station ++ le16 x.depth ++ le8 x.method.code ++ le16 x.cosine ++ flagsByte [false, x.supersedes] ++
  le16 x.v ++ le32 x.w2 ++ le32 x.q ++ le32 x.a ++ le8 x.points.length ++ x.points.flatMap PointResult.bytes

/-- GET_VERTICAL's payload of the open vertical: mean velocity, w2, q and a are 0 (R111). -/
def OpenVertical.bytes (o : OpenVertical) : List Byte :=
  le32 o.station ++ le16 o.depth ++ le8 o.method.code ++ le16 o.cosine ++ flagsByte [true, false] ++
  le16 0 ++ le32 0 ++ le32 0 ++ le32 0 ++ le8 o.points.length ++ o.points.flatMap PointResult.bytes

/-- The station value that names the open vertical (R111). -/
def openStation : Nat := 0xFFFFFFFF

/-- GET_VERTICAL (R111). -/
def getVertical (payload : List Byte) (s : State) : State × Option Answer :=
  match parseFour payload with
  | none => refuse s .badArgument
  | some station =>
    match s.run with
    | none => refuse s .wrongState
    | some r =>
      if station = openStation then
        match r.openVertical with
        | none => refuse s .badArgument
        | some o => ok s o.bytes
      else
        match r.table.find? fun x => x.station = station with
        | none => refuse s .badArgument
        | some x => ok s x.bytes

/-! ### The meanings -/

/-- SILENCE_TIMER_EXPIRY (R105). -/
def execSilenceTimerExpiry (s : State) : Host.Outcome State Fault Refusal := .next s.silenceExpiry

/-- PARK_TIMER_EXPIRY (R108). -/
def execParkTimerExpiry (s : State) : Host.Outcome State Fault Refusal := .next s.parkExpiry

/-- OBSERVATION_COMPLETE (R97). -/
def execObservationComplete (s : State) : Host.Outcome State Fault Refusal := .next s.observationComplete

/-- TRAILER_HANDOVER (R110). -/
def execTrailerHandover (s : State) : Host.Outcome State Fault Refusal := .next s.trailerHandover

/-- RUN_OPEN (R91). -/
def execRunOpen (p : Port) (payload : List Byte) (s : State) : Host.Outcome State Fault Refusal :=
  .next (s.serve p 0x40#8 payload (runOpen p payload))

/-- VERTICAL_BEGIN (R95). -/
def execVerticalBegin (p : Port) (payload : List Byte) (s : State) : Host.Outcome State Fault Refusal :=
  .next (s.serve p 0x41#8 payload (verticalBegin payload))

/-- POINT_START (R96). -/
def execPointStart (p : Port) (payload : List Byte) (s : State) : Host.Outcome State Fault Refusal :=
  .next (s.serve p 0x42#8 payload (pointStart payload))

/-- VERTICAL_END (R98). -/
def execVerticalEnd (p : Port) (payload : List Byte) (s : State) : Host.Outcome State Fault Refusal :=
  .next (s.serve p 0x43#8 payload (verticalEnd payload))

/-- VERTICAL_CANCEL (R99). -/
def execVerticalCancel (p : Port) (payload : List Byte) (s : State) : Host.Outcome State Fault Refusal :=
  .next (s.serve p 0x44#8 payload (verticalCancel payload))

/-- VERTICAL_REMOVE (R100). -/
def execVerticalRemove (p : Port) (payload : List Byte) (s : State) : Host.Outcome State Fault Refusal :=
  .next (s.serve p 0x45#8 payload (verticalRemove payload))

/-- RUN_CLOSE (R101). -/
def execRunClose (p : Port) (payload : List Byte) (s : State) : Host.Outcome State Fault Refusal :=
  .next (s.serve p 0x46#8 payload (runClose p payload))

/-- RUN_ABANDON (R103). -/
def execRunAbandon (p : Port) (payload : List Byte) (s : State) : Host.Outcome State Fault Refusal :=
  .next (s.serve p 0x47#8 payload (runAbandon p payload))

/-- RUN_RESUME (R106). -/
def execRunResume (p : Port) (payload : List Byte) (s : State) : Host.Outcome State Fault Refusal :=
  .next (s.serve p 0x48#8 payload (runResume payload))

/-- RUN_STATUS (R112). -/
def execRunStatus (p : Port) (payload : List Byte) (s : State) : Host.Outcome State Fault Refusal :=
  .next (s.serve p 0x49#8 payload (runStatus payload))

/-- GET_VERTICAL (R111). -/
def execGetVertical (p : Port) (payload : List Byte) (s : State) : Host.Outcome State Fault Refusal :=
  .next (s.serve p 0x4A#8 payload (getVertical payload))

end Sys2Proof.Machine
end

