-- ==== Sys2Proof/Machine/Activation.lean ====
section
/-! DEFINITION. Activation of a draft (R59 to R64): DRAFT_ACTIVATE, the exchange and the abandonment. -/

namespace Sys2Proof.Machine

/-- The id of ACTIVE, 0 when it is EMPTY (R50). -/
def RatingUnit.activeId (u : RatingUnit) : Nat :=
  match u.active with
  | none => 0
  | some r => r.id

/-- Class-4 work joins the work waiting (R146). -/
def State.addWork (s : State) (w : Class4) : State := s.setStore { s.store with class4 := s.store.class4 ++ [w] }

/-- An activation begins for a port, with the id it is given; its image is asked for and the reply is held
(R60, R63). -/
def State.beginActivation (s : State) (p : Port) (set : RatingSet) (revertedId : Option Nat) : State :=
  let set := { set with id := nextId s.rating.activeId }
  { s with rating := { s.rating with
      draft := .activating p, inFlight := some ⟨set, revertedId, some p, some p⟩ } }.addWork
    (.image set s.store.flash.nextImage 0 false)

/-- A set that passed its checks is activated, or refused at once while the store is DEGRADED (R60, R62). -/
def State.activate (s : State) (p : Port) (set : RatingSet) (revertedId : Option Nat) : State × Option Answer :=
  if s.store.degraded then refuse s .storeFault else hold (s.beginActivation p set revertedId)

/-- DRAFT_ACTIVATE (R59, R63). -/
def draftActivate (p : Port) (payload : List Byte) (s : State) : State × Option Answer :=
  match parseEmpty payload with
  | none => refuse s .badArgument
  | some _ =>
    match s.rating.draftCheck p .activate with
    | some st => refuse s st
    | none =>
      match s.rating.draft with
      | .editing _ d =>
        match d.activationFault with
        | some (kind, index) => (s, some ⟨.checkFailed, le8 kind ++ le8 index⟩)
        | none => s.activate p d none
      | .previous d => s.activate p d (some d.id)
      | _ => refuse s .wrongState

/-- The slots after the exchange: a draft being edited is kept, otherwise the old ACTIVE set becomes PREVIOUS
(R61). -/
def RatingUnit.exchanged (u : RatingUnit) (set : RatingSet) : RatingUnit :=
  { active := some set, inFlight := none,
    draft := match u.draft with
      | .editing owner d => .editing owner d
      | _ =>
        match u.active with
        | none => .empty
        | some old => .previous old }

/-- The reply of DRAFT_ACTIVATE (R61). -/
def RatingSet.activatedPayload (r : RatingSet) : List Byte := le16 r.id ++ r.countsPayload

/-- The exchange of R61, when the image is reported programmed. -/
def State.exchange (s : State) : State :=
  match s.rating.inFlight with
  | none => s
  | some f =>
    ({ s with rating := s.rating.exchanged f.set }.raiseAll .ratingActivated).replyHeld f.replyTo
      ⟨.ok, f.set.activatedPayload⟩

/-- The DRAFT slot after an abandonment (R62). -/
def RatingUnit.draftRestored (u : RatingUnit) (f : InFlight) : Draft :=
  match f.owner with
  | none => u.draft
  | some owner =>
    match f.revertedId with
    | none => .editing owner { f.set with id := 0 }
    | some old => .previous { f.set with id := old }

/-- The abandonment of R62, when the image could not be programmed. -/
def State.abandonActivation (s : State) : State :=
  match s.rating.inFlight with
  | none => s
  | some f =>
    { s with rating := { s.rating with draft := s.rating.draftRestored f, inFlight := none } }.replyHeld f.replyTo
      ⟨.storeFault, []⟩

/-- DRAFT_ACTIVATE (R59). -/
def execDraftActivate (p : Port) (payload : List Byte) (s : State) : Host.Outcome State Fault Refusal :=
  .next (s.serve p 0x27#8 payload (draftActivate p payload))

end Sys2Proof.Machine
end

