-- ==== Sys2Proof/Machine/ConfigCmds.lean ====
section
/-! DEFINITION. Configuration and identity requests (spec/11): GET_CONFIG, SET_CONFIG, SAVE_CONFIG,
SET_PERMISSIONS (R179), GET_IDENT, WRITE_IDENT and STATION_RESET. -/

namespace Sys2Proof.Machine

/-! ### GET_CONFIG (R186) -/

/-- GET_CONFIG's 17 bytes (R186). -/
def State.configPayload (s : State) (i : Item) : List Byte :=
  le8 i.row.code ++ sle32 (s.cfg.get i) ++ sle32 i.row.least ++ sle32 i.row.greatest ++ sle32 i.row.default

/-- GET_CONFIG (R186). -/
def getConfig (payload : List Byte) (s : State) : State × Option Answer :=
  match parseByte payload with
  | none => refuse s .badArgument
  | some code =>
    match itemOfCode code with
    | none => refuse s .badArgument
    | some i => ok s (s.configPayload i)

/-! ### SET_CONFIG (R187) -/

/-- The allowed intervals, greatest first (R24). -/
def intervalMembers : List Int := [3600, 1800, 900, 600, 300, 120, 60, 30, 20, 15, 10]

/-- The largest member not above a value, or 10 (R24). -/
def intervalStored (v : Int) : Int := (intervalMembers.find? fun m => decide (m ≤ v)).getD 10

/-- Whether SET_CONFIG may write an item: the permission items it may not (R187). -/
def Item.writable : Item → Bool
  | .perm _ => false
  | _ => true

/-- Whether an item takes only its codes (R187, step 3). -/
def Item.coded : Item → Bool
  | .sourceMode => true
  | .runLimit => true
  | _ => false

/-- What SET_CONFIG stores for a value (R24, R187). -/
def Item.stored (i : Item) (v : Int) : Int :=
  match i with
  | .interval _ => intervalStored v
  | _ => clampInt i.row.least i.row.greatest v

/-- The action a store itself sets off (R24, R79, R187); `before` is the state before the store. -/
def State.storeEffect (s before : State) (i : Item) : State :=
  match i with
  | .interval l => if l = s.warn.level ∧ s.interval ≠ before.interval then s.realign else s
  | .runLimit => if s.cfg.runLimitRank < s.warn.level.rank then s.park .level else s
  | _ => s

/-- An item of the live configuration stored, with its effect (R187). -/
def State.storeItem (s : State) (i : Item) (v : Int) : State :=
  { s with cfg := s.cfg.set i (i.stored v) }.storeEffect s i

/-- The item a SET_CONFIG may write with a value, if any (R187, steps 2 and 3). -/
def settable (code : Nat) (v : Int) : Option Item :=
  match itemOfCode code with
  | none => none
  | some i =>
    if i.writable = false then none
    else if i.coded ∧ inRange i.row.least i.row.greatest v = false then none
    else some i

/-- SET_CONFIG (R187). -/
def setConfig (payload : List Byte) (s : State) : State × Option Answer :=
  match parseConfig payload with
  | none => refuse s .badArgument
  | some (code, v) =>
    match settable code v with
    | none => refuse s .badArgument
    | some i =>
      (s.storeItem i v, some ⟨if i.stored v = v then .ok else .clamped, le8 i.row.code ++ sle32 (i.stored v)⟩)

/-! ### SAVE_CONFIG (R188) -/

/-- Whether work is a configuration save. -/
def Class4.isSave : Class4 → Bool
  | .save _ _ _ _ _ => true
  | _ => false

/-- SAVE_CONFIG (R188). Each save counts the failures of block 1 from 0 (R148; log 49). -/
def saveConfig (payload : List Byte) (s : State) : State × Option Answer :=
  match parseEmpty payload with
  | none => refuse s .badArgument
  | some _ =>
    if s.store.degraded then refuse s .storeFault
    else if s.store.class4.any Class4.isSave then refuse s .busy
    else ok (s.addWork (.save s.cfg 0 false 1 0)) []

/-! ### SET_PERMISSIONS (R179) -/

/-- The port of a number (R179). -/
def portOf : Nat → Option Port
  | 1 => some .l
  | 2 => some .t
  | 3 => some .c
  | _ => none

/-- The three sets SET_PERMISSIONS returns (R179). -/
def LiveConfig.permPayload (c : LiveConfig) : List Byte :=
  le8 (c.families .l) ++ le8 (c.families .t) ++ le8 (c.families .c)

/-- SET_PERMISSIONS (R179). -/
def setPermissions (p : Port) (payload : List Byte) (s : State) : State × Option Answer :=
  match parseTwo payload with
  | none => refuse s .badArgument
  | some (port, families) =>
    if s.maintClosed = false then refuse s .wrongState
    else
      match portOf port with
      | none => refuse s .badArgument
      | some q =>
        if 128 ≤ families then refuse s .badArgument
        else if q = p ∧ families.testBit Family.admin.bit = false then refuse s .badArgument
        else
          let c := s.cfg.set (.perm q) families
          ok { s with cfg := c } c.permPayload

/-! ### Identity (R189, R190) -/

/-- GET_IDENT's 23 bytes (R189). -/
def State.identPayload (s : State) : List Byte :=
  le32 s.factorySerial.toNat ++ sle16 s.factoryTrim ++ flagsByte [present s.store.flash.identifier] ++
  s.store.flash.identifier.getD (List.replicate 16 0x20#8)

/-- GET_IDENT (R189): one that arrives before block 0 has been read waits. -/
def getIdent (payload : List Byte) (s : State) : State × Option Answer :=
  match parseEmpty payload with
  | none => refuse s .badArgument
  | some _ => if s.phase = .starting ∧ s.identRead = false then hold s else ok s s.identPayload

/-- Whether a GET_IDENT of a port waits for block 0 (R189). -/
def State.identWaits (s : State) (p : Port) : Bool :=
  decide (s.phase = .starting) && decide ((s.port p).request = some 0x01#8)

/-- GET_IDENT_DEFERRED_REPLY (R189): block 0 has been read, and the waiting request is replied. -/
def State.identDeferred (s : State) (p : Port) : State :=
  if s.identWaits p then { s with identRead := true }.reply p ⟨.ok, s.identPayload⟩ else s

/-- Whether the characters of an identifier are as they must be (R190). -/
def identFits (chars : List Byte) : Bool :=
  decide (chars.length = 16) && chars.all fun b => decide (0x20#8 ≤ b) && decide (b ≤ 0x7E#8)

/-- Whether work is an identifier write. -/
def Class4.isIdent : Class4 → Bool
  | .ident _ _ _ => true
  | _ => false

/-- WRITE_IDENT (R190): its reply is made when the write ends. -/
def writeIdent (p : Port) (payload : List Byte) (s : State) : State × Option Answer :=
  if identFits payload = false then refuse s .badArgument
  else if s.maintClosed = false then refuse s .wrongState
  else if s.store.flash.identifier.isSome then refuse s .wrongState
  else if s.store.class4.any Class4.isIdent then refuse s .busy
  else if s.store.degraded then refuse s .storeFault
  else hold (s.addWork (.ident payload 0 (some p)))

/-- The level of the MAINT contact as a request finds it. -/
def State.withMaint (s : State) (closed : Bool) : State := { s with maintClosed := closed }

/-! ### STATION_RESET (R191) -/

/-- The code of STATION_RESET (spec/09). -/
def stationResetCode : Byte := 0x05#8

/-- The reset arranged by a STATION_RESET; a second one joins the first (R191). -/
def State.arrangeReset (s : State) (p : Port) : State :=
  match s.resetReq with
  | none => { s with resetReq := some ⟨p, 0, false⟩ }
  | some _ => s

/-- The reply of a STATION_RESET is made: the one that arranged the reset carries it out as it leaves. -/
def State.replyReset (s : State) (p : Port) : State :=
  s.setPort p { s.port p with request := none, reply := some ⟨.ok, stationResetCode, [], s.resetReq.isNone⟩ }

/-- STATION_RESET (R191). -/
def stationReset (p : Port) (payload : List Byte) (s : State) : State × Option Answer :=
  match parseEmpty payload with
  | none => refuse s .badArgument
  | some _ => hold ((s.replyReset p).arrangeReset p)

/-! ### The meanings -/

/-- GET_CONFIG (R186). -/
def execGetConfig (p : Port) (payload : List Byte) (s : State) : Host.Outcome State Fault Refusal :=
  .next (s.serve p 0x60#8 payload (getConfig payload))

/-- SET_CONFIG (R187). -/
def execSetConfig (p : Port) (payload : List Byte) (s : State) : Host.Outcome State Fault Refusal :=
  .next (s.serve p 0x61#8 payload (setConfig payload))

/-- SAVE_CONFIG (R188). -/
def execSaveConfig (p : Port) (payload : List Byte) (s : State) : Host.Outcome State Fault Refusal :=
  .next (s.serve p 0x62#8 payload (saveConfig payload))

/-- SET_PERMISSIONS (R179). -/
def execSetPermissions (p : Port) (payload : List Byte) (maintClosed : Bool) (s : State) :
    Host.Outcome State Fault Refusal :=
  .next ((s.withMaint maintClosed).serve p 0x63#8 payload (setPermissions p payload))

/-- GET_IDENT (R189). -/
def execGetIdent (p : Port) (payload : List Byte) (s : State) : Host.Outcome State Fault Refusal :=
  .next (s.serve p 0x01#8 payload (getIdent payload))

/-- GET_IDENT_DEFERRED_REPLY (R189). -/
def execGetIdentDeferredReply (p : Port) (s : State) : Host.Outcome State Fault Refusal := .next (s.identDeferred p)

/-- WRITE_IDENT (R190). -/
def execWriteIdent (p : Port) (payload : List Byte) (maintClosed : Bool) (s : State) :
    Host.Outcome State Fault Refusal :=
  .next ((s.withMaint maintClosed).serve p 0x64#8 payload (writeIdent p payload))

/-- STATION_RESET (R191). -/
def execStationReset (p : Port) (payload : List Byte) (s : State) : Host.Outcome State Fault Refusal :=
  .next (s.serve p 0x05#8 payload (stationReset p payload))

end Sys2Proof.Machine
end

