-- ==== Sys2Proof/Machine/Links.lean ====
section
/-! DEFINITION. The links' own events (spec/09, R164 to R177), the attention requests (spec/10), and the port
reset. -/

namespace Sys2Proof.Machine

/-! ### Port reset (R175 to R177, R64) -/

/-- A port's state after a port reset: cursor and lost count are kept (R177). -/
def PortState.cleared (x : PortState) : PortState :=
  { x with request := none, reply := none, frameError := false, overrun := false, frameAgain := false,
           overrunAgain := false, rx := [], events := [], enables := 0x1F#5 }

/-- The rating slots after a port reset of a port (R64). -/
def RatingUnit.portReset (u : RatingUnit) (p : Port) : RatingUnit :=
  match u.draft with
  | .editing owner _ => if owner = p then { u with draft := .empty } else u
  | .activating owner =>
    if owner = p then { u with draft := .empty, inFlight := u.inFlight.map fun f => { f with owner := none } } else u
  | _ => u

/-- A reset arranged by a port takes effect when that port is reset (R191). -/
def ResetRequest.ifPort (r : ResetRequest) (p : Port) : ResetRequest := if r.port = p then { r with due := true } else r

/-- The characters begun on the line since the reply in the transmit register began, the start byte among them. -/
def LineC.charsBegun (x : LineC) : Nat := x.txTicks * 25600 / (160 * (256 * x.div + x.frac)) + 1

/-- The ticks the character on the line still takes as a reply is broken off; none once its last CRC byte has gone. -/
def LineC.charRest (x : LineC) (r : Reply) : Nat := x.charTicks (min x.charsBegun (replyChars r)) - x.txTicks

/-- Port C's transmission is broken off: it stops after the character on the line, which keeps the line until it has gone,
and the rest of the reply is lost (R175, R177). -/
def State.lineStopped (s : State) : State :=
  match s.lineC.tx with
  | none => s
  | some r =>
    { s.setPort .c { s.port .c with sent := (s.port .c).sent.take s.lineC.charsBegun } with
      lineC := { s.lineC.stopped with charLeft := s.lineC.charRest r } }

/-- The parts of a port reset but the park request, steps 1 to 4 of R177. -/
def State.portCleared (s : State) (p : Port) : State :=
  let s := if p = .c then (s.detach p).lineStopped else s.detach p
  { s.setPort p (s.port p).cleared with
    rating := s.rating.portReset p
    resetReq := s.resetReq.map fun r => r.ifPort p }

/-- A port reset (R177): steps 1 to 4, then port C's park request. -/
def State.portReset (s : State) (p : Port) : State :=
  if p = .c then (s.portCleared p).park .linkReset else s.portCleared p

/-- The request slot holds the LINK_RESET that made the reset, so that its OK is placed in the fresh reply
slot (R176). -/
def State.reenter (s : State) (p : Port) : State := s.setPort p { s.port p with request := some linkResetCode }

/-- LINK_RESET (R176). -/
def linkReset (p : Port) (payload : List Byte) (s : State) : State × Option Answer :=
  match parseEmpty payload with
  | none => refuse s .badArgument
  | some _ => ok ((s.portReset p).reenter p) []

/-- PORT_C_BREAK (R175): once for each time the line goes low. A reply that had the line before it is one being sent. -/
def State.portBreak (s : State) : State :=
  if s.running && !s.lineC.low then
    let s := (s.lineServed .c).portReset .c
    { s with lineC := { s.lineC with low := true } }
  else s

/-- PORT_C_LINE_RETURNS_HIGH (R175). -/
def State.lineHigh (s : State) : State := { s with lineC := { s.lineC with low := false } }

/-! ### Receiving (R164, R168, R169, R170, R173) -/

/-- FRAME_DISCARD (R164, R170, R173). -/
def State.frameDiscard (s : State) (p : Port) (f : BadFrame) : State :=
  if !s.deaf p && f.isDiscarded p then (s.clocked p f.clocks).discardFrame p else s

/-- FRAME_GAP_TIMEOUT (R173). -/
def State.frameGap (s : State) (bytes : List Byte) : State :=
  if !s.deaf .c && frameUnderWay bytes then s.discardFrame .c else s

/-- Whether a whole request of a code overruns a port (R168). -/
def State.overruns (s : State) (p : Port) (code : Byte) (payload : List Byte) : Bool :=
  !s.deaf p && decide (payload.length ≤ maxPayload) && s.slotBusy p && decide (code ≠ linkResetCode)

/-- REQUEST_OVERRUN (R168, R174). -/
def State.requestOverrun (s : State) (p : Port) (code : Byte) (payload : List Byte) : State :=
  let y := s.lineServed p
  if y.overruns p code payload then (y.arrived p payload).dropRequest p else s

/-- What no block owns (R169, step 1). -/
def unknownCommand (s : State) : State × Option Answer := refuse s .unknownCommand

/-- UNKNOWN_COMMAND (R169): a request whose code is not in the command table. -/
def State.unknownRequest (s : State) (p : Port) (code : Byte) (payload : List Byte) : State :=
  if codeClass code.toNat = .unknown then s.serve p code payload unknownCommand else s

/-! ### Sending (R165, R167, R171, R174) -/

/-- The port flags byte begins to be sent: what sets FRAME_ERROR or OVERRUN from now on is reported next time (R167). -/
def PortState.reporting (x : PortState) : PortState := { x with frameAgain := false, overrunAgain := false }

/-- The port flags byte has been sent in full: FRAME_ERROR and OVERRUN clear, unless they were set again while it was
being sent (R167). -/
def PortState.reported (x : PortState) : PortState :=
  { x with frameError := x.frameAgain, overrun := x.overrunAgain }

/-- What a FETCH returns after the FETCH byte's own 0xFF, before the fill (R171). -/
def State.fetchStream (s : State) (p : Port) : List Byte :=
  match (s.port p).reply with
  | none => [s.portFlags p]
  | some r => replyFrame (s.portFlags p) r

/-- The bytes of a FETCH transaction of n bytes after the FETCH byte (R171). -/
def State.fetchBytes (s : State) (p : Port) (n : Nat) : List Byte :=
  0xFF#8 :: (s.fetchStream p).take n ++ List.replicate (n - (s.fetchStream p).length) 0xFF#8

/-- The reply slot after a FETCH: emptied when the reply was fetched in full (R171). -/
def State.takeReply (s : State) (p : Port) (n : Nat) : State :=
  match (s.port p).reply with
  | none => s
  | some r =>
    if (s.fetchStream p).length ≤ n then (s.setPort p { s.port p with reply := none }).replyLeft r else s

/-- The flags after a FETCH: cleared once the flags byte has been clocked out (R171). -/
def State.flagsSent (s : State) (p : Port) (n : Nat) : State :=
  if n = 0 then s else s.setPort p (s.port p).reporting.reported

/-- FETCH (R171), on the SPI ports. -/
def State.fetch (s : State) (p : Port) (n : Nat) : State :=
  if s.running && p.isSpi then
    ((s.setPort p { s.port p with sent := s.fetchBytes p n }).takeReply p n).flagsSent p n
  else s

/-- The first byte of the reply frame begins: the port flags are sampled, and the frame is formed with them (R167, R174). -/
def State.frameBegins (s : State) (r : Reply) : State :=
  s.setPort .c { (s.port .c).reporting with sent := 0x7E#8 :: replyFrame (s.portFlags .c) r }

/-- What the tick just passed brings to a reply on port C's line: the port flags byte begins one character after the start
byte did, and has been sent one character later (R174). -/
def State.lineTicked (s : State) : State :=
  match s.lineC.tx with
  | none => s
  | some r =>
    if s.lineC.txTicks = s.lineC.charTicks 1 then s.frameBegins r
    else if s.lineC.txTicks = s.lineC.charTicks 2 then s.setPort .c (s.port .c).reported
    else s

/-! ### The divider in force (R172) -/

/-- The divider in force is loaded from the live configuration (R172). -/
def State.loadDivider (s : State) : State :=
  { s with lineC := { s.lineC with div := (s.cfg.get .portcDiv).toNat, frac := (s.cfg.get .portcFrac).toNat } }

/-- Whether port C is neither receiving a frame nor sending a reply (R172). -/
def State.lineIdle (s : State) : Bool :=
  s.running && (s.port .c).rx.isEmpty && s.lineC.tx.isNone && decide (s.lineC.charLeft = 0) && (s.port .c).reply.isNone

/-- PORTC_DIVIDER_LOAD (R172). -/
def State.dividerLoad (s : State) : State := if s.lineIdle then s.loadDivider else s

/-! ### FETCH_EVENTS (R182) -/

/-- Whether an entry stands at or before another in the fetch order (R182). First-raised times on the two sides of the
clock's wrap are compared as unsigned numbers, the model's choice (log 46). -/
def fetchesBefore (a b : EventEntry) : Bool :=
  decide (a.kind.group.bit < b.kind.group.bit) ||
    (decide (a.kind.group.bit = b.kind.group.bit) && decide (a.first ≤ b.first))

/-- An entry inserted before the entries it does not stand behind. -/
def insertEvent (e : EventEntry) : List EventEntry → List EventEntry
  | [] => [e]
  | x :: xs => if fetchesBefore e x then e :: x :: xs else x :: insertEvent e xs

/-- A pending set in fetch order, entries that tie in the order of joining (R182). -/
def fetchOrder (es : List EventEntry) : List EventEntry := es.foldr insertEvent []

/-- The entries a FETCH_EVENTS takes (R182). -/
def fetched (es : List EventEntry) : List EventEntry := (fetchOrder es).take 8

/-- The entries it leaves, still in the order of joining (R182). -/
def unfetched (es : List EventEntry) : List EventEntry :=
  es.filter fun e => !(fetched es).any fun x => decide (x.kind = e.kind)

/-- An entry as it is carried (R182). -/
def EventEntry.bytes (e : EventEntry) : List Byte := le8 e.kind.code ++ leWord e.first ++ le8 e.count

/-- FETCH_EVENTS's payload (R182). -/
def eventsPayload (es : List EventEntry) : List Byte :=
  le8 (fetched es).length ++ le8 (unfetched es).length ++ (fetched es).flatMap EventEntry.bytes

/-- FETCH_EVENTS (R182). -/
def fetchEvents (p : Port) (payload : List Byte) (s : State) : State × Option Answer :=
  match parseEmpty payload with
  | none => refuse s .badArgument
  | some _ =>
    ok (s.setPort p { s.port p with events := unfetched (s.port p).events }) (eventsPayload (s.port p).events)

/-! ### SET_EVENT_GROUPS (R183) -/

/-- A port with a new group enable set; entries of disabled groups are removed (R183). -/
def PortState.withEnables (x : PortState) (e : BitVec 5) : PortState :=
  { x with enables := e, events := x.events.filter fun v => e.getLsbD v.kind.group.bit }

/-- SET_EVENT_GROUPS (R183). -/
def setEventGroups (p : Port) (payload : List Byte) (s : State) : State × Option Answer :=
  match parseByte payload with
  | none => refuse s .badArgument
  | some n =>
    if 32 ≤ n then refuse s .badArgument
    else
      let x := (s.port p).withEnables (BitVec.ofNat 5 n)
      ok (s.setPort p x) (le8 n ++ le8 x.events.length)

/-! ### The meanings -/

/-- FRAME_DISCARD (R164). -/
def execFrameDiscard (p : Port) (f : BadFrame) (s : State) : Host.Outcome State Fault Refusal := .next (s.frameDiscard p f)

/-- FRAME_GAP_TIMEOUT (R173). -/
def execFrameGapTimeout (bytes : List Byte) (s : State) : Host.Outcome State Fault Refusal := .next (s.frameGap bytes)

/-- REQUEST_OVERRUN (R168). -/
def execRequestOverrun (p : Port) (code : Byte) (payload : List Byte) (s : State) : Host.Outcome State Fault Refusal :=
  .next (s.requestOverrun p code payload)

/-- UNKNOWN_COMMAND (R169). -/
def execUnknownCommand (p : Port) (code : Byte) (payload : List Byte) (s : State) : Host.Outcome State Fault Refusal :=
  .next (s.unknownRequest p code payload)

/-- FETCH (R171). -/
def execFetch (p : Port) (bytes : Nat) (s : State) : Host.Outcome State Fault Refusal := .next (s.fetch p bytes)

/-- REPLY_TRANSMIT_START (R174). -/
def execReplyTransmitStart (s : State) : Host.Outcome State Fault Refusal := .next s.transmitStart

/-- REPLY_TRANSMIT_DONE (R174). -/
def execReplyTransmitDone (s : State) : Host.Outcome State Fault Refusal := .next s.transmitDone

/-- PORT_C_BREAK (R175). -/
def execPortCBreak (s : State) : Host.Outcome State Fault Refusal := .next s.portBreak

/-- PORTC_DIVIDER_LOAD (R172). -/
def execPortcDividerLoad (s : State) : Host.Outcome State Fault Refusal := .next s.dividerLoad

/-- LINK_RESET (R176). -/
def execLinkReset (p : Port) (payload : List Byte) (s : State) : Host.Outcome State Fault Refusal :=
  .next (s.serve p 0x04#8 payload (linkReset p payload))

/-- FETCH_EVENTS (R182). -/
def execFetchEvents (p : Port) (payload : List Byte) (s : State) : Host.Outcome State Fault Refusal :=
  .next (s.serve p 0x06#8 payload (fetchEvents p payload))

/-- SET_EVENT_GROUPS (R183). -/
def execSetEventGroups (p : Port) (payload : List Byte) (s : State) : Host.Outcome State Fault Refusal :=
  .next (s.serve p 0x07#8 payload (setEventGroups p payload))

/-- PORT_C_LINE_RETURNS_HIGH (R175). -/
def execPortCLineReturnsHigh (s : State) : Host.Outcome State Fault Refusal := .next s.lineHigh

end Sys2Proof.Machine
end

