-- ==== Sys2Proof/Machine/Degrade.lean ====
section
/-! DEFINITION. Flash failures (R148 to R151): marking a block BAD and entering DEGRADED. -/

namespace Sys2Proof.Machine

/-- A queued entry is reported to the gauging unit as not kept: the run is NOT_STORED, and a trailer ends
CLOSING (R102, R110, R151). -/
def State.notKept (s : State) (e : QueuedEntry) : State :=
  match e.entry with
  | .trailer _ => (s.mapRun Run.markNotStored).endClosing
  | _ => s.mapRun Run.markNotStored

/-- Whether the run holds back its trailer for want of room (R110). -/
def State.holdsTrailer (s : State) : Bool :=
  match s.run with
  | none => false
  | some r => r.trailerHeld

/-- A trailer held back is refused as it would be handed (R102, R110). -/
def State.dropHeldTrailer (s : State) : State :=
  if s.holdsTrailer then (s.mapRun Run.markNotStored).endClosing else s

/-- The journal queue is discarded, each entry reported in queue order (R151, R157). -/
def State.discardJournal (s : State) : State :=
  (s.store.journalQueue.foldl State.notKept (s.setStore { s.store with journalQueue := [] })).dropHeldTrailer

/-- Class-4 work ends with a failure (R62, R151, R161, R188). -/
def State.failWork (s : State) (w : Class4) : State :=
  match w with
  | .image _ _ _ _ => s.abandonActivation
  | .save _ _ _ _ _ => s
  | .ident _ _ toPort => s.replyHeld toPort ⟨.storeFault, []⟩

/-- All class-4 work ends with a failure, in the order of request (R151). -/
def State.failAllWork (s : State) : State :=
  s.store.class4.foldl State.failWork (s.setStore { s.store with class4 := [] })

/-- The first sequence of the ring alone: the oldest record in the buffer, or next_seq (R151). -/
def Store.ringFirst (st : Store) : Word32 :=
  match st.buffer with
  | [] => st.nextSeq
  | r :: _ => r.seq

/-- The log becomes the ring alone, and no erase is granted any more (R151). -/
def State.ringAlone (s : State) : State :=
  (s.setStore { s.store with erases := [], eraseLogActive := false }).advanceFirst s.store.ringFirst

/-- Entry to DEGRADED (R150, R151); a second cause does nothing more. STORE_FAULT is raised before the LOG_LOST of the
cursors dragged, the model's choice of order (log 58). -/
def State.enterDegraded (s : State) : State :=
  if s.store.degraded then s
  else
    (((s.setStore { s.store with degraded := true }).raiseAll .storeFault).ringAlone.discardJournal).failAllWork

/-- The bad count at which the store is DEGRADED (R150). -/
def badLimit : Nat := 20

/-- Whether BAD blocks put the store in DEGRADED (R150). -/
def degradedBy (bad : List Nat) : Bool :=
  bad.any (fun b => Region.config.holds b || Region.rating.holds b) || decide (badLimit ≤ bad.length)

/-- A block joins the BAD blocks, once. -/
def addBad (bad : List Nat) (b : Nat) : List Nat := if b ∈ bad then bad else bad ++ [b]

/-- A block is marked BAD (R148, R149, R150). -/
def State.markBad (s : State) (b : Nat) : State :=
  let s := s.setStore { s.store with bad := addBad s.store.bad b }
  if degradedBy s.store.bad then s.enterDegraded else s

end Sys2Proof.Machine
end

