-- ==== Sys2Proof/Machine/Channel.lean ====
section
/-! DEFINITION. The flash channel (R143, R144, R146 to R149, R155 to R161): the arbiter, the grants of
programs and erases, their ends, ERASE_LOG and STORE_STATUS. Port reads are in Machine/Reads.lean. -/

namespace Sys2Proof.Machine

/-! ### Places to program (R139, R140, R143, R156) -/

/-- A unit to program, and whether its block's header goes in with it (R139). -/
structure Place where
  block : Nat
  unit : Nat
  withHeader : Bool
  deriving DecidableEq, Repr

/-- Whether a block is erased and stays so: no erase of it is waiting (R143, R156). -/
def Store.blockReady (st : Store) (b : Nat) : Bool :=
  decide (st.flash.headerOf b = .erased) && !st.erases.any fun q => decide (q.block = b)

/-- The first erased unit of the block that comes into use next, once it is erased, if a number of units are left there
(R138, R143, R156). It is unit 1, but where a first grant cut short left the header erased and its unit not (log 61). -/
def Store.freshPlace (st : Store) (r : Region) (cur : Option CurrentBlock) (need : Nat) : Option Place :=
  match r.next st.bad (cur.map CurrentBlock.block) with
  | none => none
  | some b =>
    let u := st.flash.firstErased b 255 1
    if st.blockReady b && decide (u + need ≤ 256) then some ⟨b, u, true⟩ else none

/-- Whether a current block takes a number of units more: it is not BAD and has room. -/
def Store.fits (st : Store) (c : CurrentBlock) (need : Nat) : Bool :=
  decide (c.block ∉ st.bad) && decide (c.next + need ≤ 256)

/-- Where the next unit of a circular region with erase-ahead goes, if anywhere yet: into the current block if that has
room for `need` units, else into the next block for `whole`. -/
def Store.place (st : Store) (r : Region) (cur : Option CurrentBlock) (need whole : Nat) : Option Place :=
  match cur with
  | none => st.freshPlace r none whole
  | some c => if st.fits c need then some ⟨c.block, c.next, c.headerDue⟩ else st.freshPlace r (some c) whole

/-- Where the buffer's oldest record goes, while the buffer is drained (R143, R151, R155). -/
def Store.appendPlace (st : Store) : Option Place :=
  if st.degraded || st.eraseLogActive || st.buffer.isEmpty then none else st.place .log st.logCur 1 1

/-- Where the next unit of the oldest journal entry goes (R156, R157). A unit that failed with fewer units left in the
block than its entry still needs is not retried there: the entry begins again in the next block (log 52). -/
def Store.journalPlace (st : Store) : Option Place :=
  match st.journalQueue with
  | [] => none
  | q :: _ => st.place .journal st.journalCur (q.entry.units - q.done) q.entry.units

/-! ### The arbiter (R146) -/

/-- A grant of the channel, by class. -/
inductive Grant where
  | read
  | append
  | journal
  | work
  | erase
  deriving DecidableEq, Repr

/-- Whether nothing holds the channel. -/
def Channel.isFree : Channel → Bool
  | .free => true
  | .searched _ => true
  | .programming _ _ => false
  | .erasing _ => false

/-- The ports a step of whose SEEK_LOG has ended since the channel last served other work (R153). -/
def Channel.passed : Channel → List Port
  | .searched ps => ps
  | .free => []
  | .programming _ _ => []
  | .erasing _ => []

/-- The reads of the ports that have not given way to other work. -/
def Store.firstReads (st : Store) : List WaitingRead := st.reads.filter fun r => decide (r.port ∉ st.channel.passed)

/-- What a free channel is granted to: the first class with work ready (R146). A SEEK_LOG that has had its step lets one
grant of other work go before its next, where any is ready (R153; log 48). -/
def Store.freeGrant (st : Store) : Option Grant :=
  if !st.firstReads.isEmpty then some .read
  else if st.appendPlace.isSome then some .append
  else if st.journalPlace.isSome then some .journal
  else if !st.class4.isEmpty then some .work
  else if !st.erases.isEmpty then some .erase
  else if !st.reads.isEmpty then some .read
  else none

/-- What the arbiter grants next (R146): nothing while a program runs, only reads while an erase is suspended
(R147), and otherwise what a free channel is granted to. -/
def State.arbiter (s : State) : Option Grant :=
  if s.phase ≠ .ready then none
  else
    match s.store.channel with
    | .programming _ _ => none
    | .erasing j => if j.suspended && !s.store.reads.isEmpty then some .read else none
    | .free => s.store.freeGrant
    | .searched _ => s.store.freeGrant

/-! ### Starting a program -/

/-- A unit program starts (R138, R139). -/
def State.startProgram (s : State) (r : Region) (pl : Place) (first : Word32) (content : FlashUnit)
    (purpose : ProgramPurpose) : State :=
  let job : ProgramJob :=
    { addr := unitAddr pl.block pl.unit, content := content,
      header := if pl.withHeader then some (s.store.flash.newHeader r first) else none, purpose := purpose }
  s.setStore { s.store with channel := .programming job 0 }

/-- A current block after a unit of it was given out; a new one starts without failures. -/
def advanceBlock (cur : Option CurrentBlock) (pl : Place) : CurrentBlock :=
  match cur with
  | none => ⟨pl.block, pl.unit + 1, 0, false⟩
  | some c =>
    if c.block = pl.block then { c with next := pl.unit + 1, headerDue := false }
    else ⟨pl.block, pl.unit + 1, 0, false⟩

/-- An erase joins the requests, unless one of the block waits already. -/
def State.requestErase (s : State) (q : EraseRequest) : State :=
  if s.store.erases.any fun x => decide (x.block = q.block) then s
  else s.setStore { s.store with erases := s.store.erases ++ [q] }

/-- The erase-ahead of a region names its target after a block, and asks for its erase unless it is ERASED
(R144, R156). -/
def State.nameTarget (s : State) (r : Region) (b : Nat) (purpose : ErasePurpose) : State :=
  match r.next s.store.bad (some b) with
  | none => s
  | some t => if s.store.flash.headerOf t = .erased then s else s.requestErase ⟨t, purpose⟩

/-- A LOG or JOURNAL block taken into use starts its erase-ahead (R144, R156). -/
def State.targetIfNew (s : State) (pl : Place) (r : Region) (purpose : ErasePurpose) : State :=
  if pl.withHeader then s.nameTarget r pl.block purpose else s

/-- APPEND_GRANT (R143). -/
def State.appendGrant (s : State) : State :=
  if s.arbiter = some .append then
    match s.store.buffer, s.store.appendPlace with
    | r :: _, some pl =>
      let s := s.startProgram .log pl r.seq (.record r) (.record r)
      (s.setStore { s.store with logCur := some (advanceBlock s.store.logCur pl) }).targetIfNew pl .log .logAhead
    | _, _ => s
  else s

/-- The place within its entry of the unit a place is for: an entry that moves to a new block begins again
(R148, R156). -/
def QueuedEntry.startIn (q : QueuedEntry) (pl : Place) : QueuedEntry := if pl.withHeader then { q with done := 0 } else q

/-- The next unit of the oldest journal entry is given to the channel, if it has a place (R156, R157). -/
def State.journalProgram (s : State) : State :=
  match s.store.journalQueue, s.store.journalPlace with
  | q :: rest, some pl =>
    let q := q.startIn pl
    let s := s.startProgram .journal pl 0 (.entry q.entry q.done) .entry
    (s.setStore { s.store with
      journalQueue := q :: rest
      journalCur := some (advanceBlock s.store.journalCur pl) }).targetIfNew pl .journal .journalAhead
  | _, _ => s

/-- JOURNAL_GRANT (R157). -/
def State.journalGrant (s : State) : State := if s.arbiter = some .journal then s.journalProgram else s

/-! ### Starting an erase -/

/-- A block erase starts (R138): the block's units are gone, held aside in case the erase is cut short. -/
def State.startErase (s : State) (q : EraseRequest) (retire : List Nat) : State :=
  let job : EraseJob :=
    { request := q, old := s.store.flash.block q.block, ran := 0, since := 0, suspended := false, retire := retire }
  s.setStore { s.store with flash := s.store.flash.clear q.block, channel := .erasing job }

/-- The BAD blocks an erase-ahead passes over whose header still reads IN_USE (R144). -/
def Store.passedOver (st : Store) (r : Region) (cur : Option CurrentBlock) (target : Nat) : List Nat :=
  let way := match cur with
    | none => r.blocks
    | some c => r.after c.block
  (way.takeWhile fun b => decide (b ≠ target)).filter fun b => decide (b ∈ st.bad) && st.flash.inUse b

/-- The entries of passed-over BAD blocks of the JOURNAL region are given up with those of the target (R144, R156). -/
def Store.giveUp (st : Store) (bs : List Nat) : Store :=
  { st with givenUp := st.givenUp ++ bs.filter fun b => decide (b ∉ st.givenUp) }

/-- An erase-ahead of the JOURNAL region starts: the entries of its target and of the BAD blocks passed over are given
up, and the latter are to be retired (R144, R156). -/
def State.startJournalErase (s : State) (q : EraseRequest) : State :=
  let way := s.store.passedOver .journal s.store.journalCur q.block
  (s.setStore (s.store.giveUp way)).startErase q way

/-- The first item held of a block, by its header. -/
def Flash.firstOf (f : Flash) (b : Nat) : Option Word32 :=
  match f.headerOf b with
  | .inUse _ first => some first
  | _ => none

/-- first_seq once a target's records are given up (R144). -/
def Store.firstAfter (st : Store) (target : Nat) : Word32 :=
  let holding := ((Region.log.after target).find? fun b => decide (b ∉ st.bad) && st.flash.inUse b).bind st.flash.firstOf
  match holding with
  | some first => first
  | none =>
    match st.logCur.bind fun c => st.flash.firstOf c.block with
    | some first => first
    | none => st.ringFirst

/-- Whether a purpose is an erase-ahead. -/
def ErasePurpose.isAhead (p : ErasePurpose) : Bool := decide (p = .logAhead) || decide (p = .journalAhead)

/-- ERASE_AHEAD_START (R144, R156). -/
def State.eraseAheadStart (s : State) : State :=
  match s.store.erases with
  | [] => s
  | q :: rest =>
    if s.arbiter = some .erase ∧ q.purpose.isAhead then
      let st := { s.store with erases := rest }
      if q.purpose = .logAhead then
        ((s.setStore st).startErase q (st.passedOver .log st.logCur q.block)).advanceFirst (st.firstAfter q.block)
      else (s.setStore st).startJournalErase q
    else s

/-- A class-5 erase of another purpose starts (R144, R155). -/
def State.eraseStart (s : State) (purpose : ErasePurpose) : State :=
  match s.store.erases with
  | [] => s
  | q :: rest =>
    if s.arbiter = some .erase ∧ q.purpose = purpose then (s.setStore { s.store with erases := rest }).startErase q []
    else s

/-! ### Class 4 (R146, R159 to R161) -/

/-- The class-4 work at the head is replaced. -/
def State.setHeadWork (s : State) (w : Class4) : State :=
  s.setStore { s.store with class4 := w :: s.store.class4.drop 1 }

/-- The class-4 work at the head is ended. -/
def State.popWork (s : State) : State := s.setStore { s.store with class4 := s.store.class4.drop 1 }

/-- The content of a unit of an image (R159). -/
def imageUnit (set : RatingSet) (number place : Nat) : FlashUnit :=
  if place < imageUnits then .image number place set else .imageCommit number set

/-- The units an image still needs in the current block: all 20 to begin, one to go on, be it the retry of its first unit
(R148, R159). -/
def imageNeed (begun : Bool) : Nat := if begun then 1 else imageUnits + 1

/-- Where the next unit of an image goes, if the current RATING block takes it (R159). -/
def Store.imagePlace (st : Store) (begun : Bool) : Option Place :=
  match st.ratingCur with
  | none => none
  | some c => if st.fits c (imageNeed begun) then some ⟨c.block, c.next, c.headerDue⟩ else none

/-- RATING_IMAGE_GRANT (R159): a unit, or the erase of the next block. An image under way that finds no unit left in its
block goes on in the next one: by R148 for a retry, and by the model's choice for another unit (log 53). -/
def State.imageGrant (s : State) : State :=
  match s.store.class4 with
  | .image set number place begun :: _ =>
    if s.arbiter = some .work then
      match s.store.imagePlace begun with
      | some pl =>
        let s := s.startProgram .rating pl 0 (imageUnit set number place) .image
        (s.setStore { s.store with ratingCur := some (advanceBlock s.store.ratingCur pl) }).setHeadWork
          (.image set number place true)
      | none =>
        match Region.rating.next s.store.bad (s.store.ratingCur.map CurrentBlock.block) with
        | none => s
        | some b => s.startErase ⟨b, .image⟩ []
    else s
  | _ => s

/-- The content of a unit of a saved configuration (R160). -/
def configUnit (cfg : LiveConfig) (place : Nat) : FlashUnit :=
  if place < saveUnits then .config place cfg else .configCommit saveUnits cfg

/-- CONFIG_SAVE_GRANT (R160): the erase of block 1, or a unit. The first item held of the block's header is programmed as 0,
the model's choice (R139; log 57). -/
def State.saveGrant (s : State) : State :=
  match s.store.class4 with
  | .save cfg place erased next fails :: _ =>
    if s.arbiter = some .work then
      if erased then
        (s.startProgram .config ⟨configBlock, next, decide (next = 1)⟩ 0 (configUnit cfg place) .save).setHeadWork
          (.save cfg place true (next + 1) fails)
      else s.startErase ⟨configBlock, .save⟩ []
    else s
  | _ => s

/-- IDENT_WRITE_GRANT (R161): the lowest erased identifier unit, or the end with STORE_FAULT. -/
def State.identGrant (s : State) : State :=
  match s.store.class4 with
  | .ident chars _ toPort :: _ =>
    if s.arbiter = some .work then
      match s.store.flash.freeIdent with
      | some u => s.startProgram .ident ⟨0, u, false⟩ 0 (.ident chars) .ident
      | none => s.popWork.replyHeld toPort ⟨.storeFault, []⟩
    else s
  | _ => s

/-! ### The end of a program (R138, R139, R148) -/

/-- What the array holds after a program: a header or unit that failed its verify reads garbled. -/
def ProgramJob.written (j : ProgramJob) (f : Flash) (headerOk unitOk : Bool) : Flash :=
  let f := match j.header with
    | none => f
    | some h => f.write (unitAddr (blockOf j.addr) 0) (if headerOk then h else .garbled)
  f.write j.addr (if unitOk then j.content else .garbled)

/-- A verified record leaves the buffer (R143). -/
def State.recordDone (s : State) (r : LogRecord) : State :=
  match s.store.buffer with
  | x :: rest => if x = r then s.setStore { s.store with buffer := rest } else s
  | [] => s

/-- A trailer is reported programmed to the gauging unit (R102, R157). -/
def State.entryReported (s : State) (e : JournalEntry) : State :=
  match e with
  | .trailer _ => s.endClosing
  | _ => s

/-- A verified unit of the oldest entry; at its last unit the entry leaves the queue (R157). -/
def State.entryDone (s : State) : State :=
  match s.store.journalQueue with
  | [] => s
  | q :: rest =>
    if q.done + 1 < q.entry.units then
      s.setStore { s.store with journalQueue := { q with done := q.done + 1 } :: rest }
    else (s.setStore { s.store with journalQueue := rest }).entryReported q.entry

/-- A verified unit of class-4 work: the next unit, or the end of the work (R61, R159 to R161, R188, R190). -/
def State.workDone (s : State) : State :=
  match s.store.class4 with
  | .image set number place begun :: _ =>
    if place < imageUnits then s.setHeadWork (.image set number (place + 1) begun) else s.popWork.exchange
  | .save cfg place erased next fails :: _ =>
    if place < saveUnits then s.setHeadWork (.save cfg (place + 1) erased next fails)
    else s.popWork.raiseAll .configSaved
  | .ident _ _ toPort :: _ => s.popWork.replyHeld toPort ⟨.ok, []⟩
  | [] => s

/-- A verified program moves on what it served. -/
def State.programmed (s : State) (p : ProgramPurpose) : State :=
  match p with
  | .record r => s.recordDone r
  | .entry => s.entryDone
  | .image => s.workDone
  | .save => s.workDone
  | .ident => s.workDone

/-- A current block with a failure counted against it, if it is the block that failed. -/
def countFailure (cur : Option CurrentBlock) (b : Nat) : Option CurrentBlock :=
  cur.map fun c => if c.block = b then { c with failures := c.failures + 1 } else c

/-- The failures counted against a block that is current. -/
def failuresOf (cur : Option CurrentBlock) (b : Nat) : Nat :=
  match cur with
  | none => 0
  | some c => if c.block = b then c.failures else 0

/-- A second failure in a block marks it BAD (R148). -/
def State.markIfSecond (s : State) (b failures : Nat) : State := if 2 ≤ failures then s.markBad b else s

/-- A failed verify of class-4 work that is not an image (R160, R161). -/
def State.workFailed (s : State) : State :=
  match s.store.class4 with
  | .save cfg place erased next fails :: _ =>
    (s.setHeadWork (.save cfg place erased next (fails + 1))).markIfSecond configBlock (fails + 1)
  | .ident chars fails toPort :: _ =>
    if 1 ≤ fails then s.popWork.replyHeld toPort ⟨.storeFault, []⟩ else s.setHeadWork (.ident chars (fails + 1) toPort)
  | _ => s

/-- A unit fails its verify: a failure is counted, and the content is retried at the next grant (R148). -/
def State.unitFailed (s : State) (p : ProgramPurpose) (b : Nat) : State :=
  match p with
  | .record _ =>
    let cur := countFailure s.store.logCur b
    (s.setStore { s.store with logCur := cur }).markIfSecond b (failuresOf cur b)
  | .entry =>
    let cur := countFailure s.store.journalCur b
    (s.setStore { s.store with journalCur := cur }).markIfSecond b (failuresOf cur b)
  | .image =>
    let cur := countFailure s.store.ratingCur b
    (s.setStore { s.store with ratingCur := cur }).markIfSecond b (failuresOf cur b)
  | .save => s.workFailed
  | .ident => s.workFailed

/-- UNIT_PROGRAM_COMPLETE (R138): the verify outcomes decide what becomes of the unit. A failed header marks
the block BAD at once, and the unit is treated as not programmed (R139). -/
def State.programComplete (s : State) (headerOk unitOk : Bool) : State :=
  match s.store.channel with
  | .programming j _ =>
    let s := s.setStore { s.store with flash := j.written s.store.flash headerOk unitOk, channel := .free }
    if j.header.isSome && !headerOk then s.markBad (blockOf j.addr)
    else if unitOk then s.programmed j.purpose
    else s.unitFailed j.purpose (blockOf j.addr)
  | _ => s

/-! ### Suspending an erase (R147) -/

/-- The capture ticks an erase runs before it gives way (R147). -/
def suspendTicks : Nat := 500

/-- Whether the running erase gives way to a waiting read (R147). -/
def State.suspendDue (s : State) : Bool :=
  match s.store.channel with
  | .erasing j => !j.suspended && decide (suspendTicks ≤ j.since) && !s.store.reads.isEmpty
  | _ => false

/-- ERASE_SUSPEND (R147). -/
def State.eraseSuspend (s : State) : State :=
  if s.suspendDue then
    match s.store.channel with
    | .erasing j => s.setStore { s.store with channel := .erasing { j with suspended := true } }
    | _ => s
  else s

/-- The channel as a read ends: a suspended erase resumes (R147), and a search that has had its step has seen other work
served (R153). -/
def Channel.resumed (c : Channel) : Channel :=
  match c with
  | .erasing j => .erasing { j with suspended := false, since := 0 }
  | .searched _ => .free
  | c => c

/-- The channel as a step of a port's SEEK_LOG ends that is not its last: a suspended erase resumes, which is other work,
and else the search gives way (R147, R153; log 48). -/
def Channel.stepped (c : Channel) (p : Port) : Channel :=
  match c with
  | .free => .searched [p]
  | .searched ps => .searched (if p ∈ ps then ps else ps ++ [p])
  | c => c.resumed

/-! ### The end of an erase (R138, R144, R149, R155) -/

/-- The region of a block (R140). -/
def regionOf (b : Nat) : Region :=
  if Region.log.holds b then .log
  else if Region.journal.holds b then .journal
  else if Region.rating.holds b then .rating
  else if Region.config.holds b then .config
  else .ident

/-- A BAD header is programmed into a block; one that fails its verify reads garbled (R139, R149). -/
def State.writeBadHeader (s : State) (b : Nat) (good : Bool) : State :=
  s.setStore { s.store with
    flash := s.store.flash.write (unitAddr b 0) (if good then badHeader (regionOf b) else .garbled) }

/-- What a good erase brings about, by its purpose (R144, R155, R159, R160). -/
def State.erased (s : State) (q : EraseRequest) (badHeaderOk : Bool) : State :=
  match q.purpose with
  | .retire => s.writeBadHeader q.block badHeaderOk
  | .image => s.setStore { s.store with ratingCur := some ⟨q.block, 1, 0, true⟩ }
  | .save =>
    match s.store.class4 with
    | .save cfg place _ _ fails :: _ => s.setHeadWork (.save cfg place true 1 fails)
    | _ => s
  | .logAhead => s
  | .journalAhead => s
  | .eraseLog => s

/-- A failed erase-ahead names the next block after the failed one, and asks for its erase (R149). -/
def State.nextTarget (s : State) (r : Region) (b : Nat) (purpose : ErasePurpose) : State :=
  if s.store.degraded then s
  else
    match r.next s.store.bad (some b) with
    | none => s
    | some t => s.requestErase ⟨t, purpose⟩

/-- A LOG erase-ahead that fails while ERASE_LOG is in progress names no target, and ERASE_LOG passes its
block over (R149, R155; log 24). -/
def State.aheadFailed (s : State) (q : EraseRequest) : State :=
  if q.purpose = .journalAhead then s.nextTarget .journal q.block .journalAhead
  else if q.purpose = .logAhead then
    if s.store.eraseLogActive then
      s.setStore { s.store with erases := s.store.erases.filter fun x => decide (x.block ≠ q.block) }
    else s.nextTarget .log q.block .logAhead
  else s

/-- A failed erase (R149): the block is marked BAD, a BAD header is attempted, and what depended on the erase
goes on without the block. The failed erase of a retirement changes nothing further (R144). -/
def State.eraseFailed (s : State) (q : EraseRequest) (badHeaderOk : Bool) : State :=
  if q.purpose = .retire then s.writeBadHeader q.block false
  else ((s.writeBadHeader q.block badHeaderOk).markBad q.block).aheadFailed q

/-- The retirements due after an erase-ahead are asked for (R144). -/
def State.requestRetires (s : State) (bs : List Nat) : State :=
  if s.store.degraded then s else bs.foldl (fun s b => s.requestErase ⟨b, .retire⟩) s

/-- Whether an erase of a LOG block is still waiting. -/
def Store.logErasesLeft (st : Store) : Nat := (st.erases.filter fun q => Region.log.holds q.block).length

/-- ERASE_LOG is over when its last block is erased; then no block is current (R155). -/
def State.endEraseLog (s : State) : State :=
  if s.store.eraseLogActive ∧ s.store.logErasesLeft = 0 then
    s.setStore { s.store with eraseLogActive := false, logCur := none }
  else s

/-- ERASE_COMPLETE (R138): the running erase ends and the block is checked. A failed erase-ahead asks for its new target
before the retirements of the blocks passed over, the model's choice (log 55). -/
def State.eraseComplete (s : State) (good badHeaderOk : Bool) : State :=
  match s.store.channel with
  | .erasing j =>
    if j.suspended then s
    else
      let s := s.setStore { s.store with channel := .free }
      let s := if good then s.erased j.request badHeaderOk else s.eraseFailed j.request badHeaderOk
      (s.requestRetires j.retire).endEraseLog
  | _ => s

/-! ### ERASE_LOG and STORE_STATUS -/

/-- The erase the channel runs or holds suspended. -/
def Channel.erase? : Channel → Option EraseRequest
  | .erasing j => some j.request
  | .free => none
  | .searched _ => none
  | .programming _ _ => none

/-- The erase ERASE_LOG asks for a block: none with a BAD header, or whose retirement the channel is at, which gives it one
(log 62); a retirement for a block marked BAD with an IN_USE header (R155). It is judged as ERASE_LOG is taken; a block marked BAD
later, by the program then in flight, is erased without a BAD header (log 47). -/
def Store.eraseLogRequest (st : Store) (b : Nat) : Option EraseRequest :=
  if st.channel.erase? = some ⟨b, .retire⟩ then none
  else
    match st.flash.headerOf b with
    | .bad => none
    | .inUse _ _ => some ⟨b, if b ∈ st.bad then .retire else .eraseLog⟩
    | _ => some ⟨b, .eraseLog⟩

/-- The LOG blocks in the order ERASE_LOG takes them (R155). -/
def Store.eraseLogOrder (st : Store) : List Nat :=
  match st.logCur with
  | none => Region.log.blocks
  | some c => Region.log.after c.block ++ [c.block]

/-- The requests of ERASE_LOG, none for a block whose erase waits already. -/
def Store.eraseLogRequests (st : Store) : List EraseRequest :=
  (st.eraseLogOrder.filterMap st.eraseLogRequest).filter fun q => !st.erases.any fun x => decide (x.block = q.block)

/-- The erases of the whole log are asked for; a waiting LOG erase-ahead is withdrawn (R155). -/
def State.askEraseLog (s : State) : State :=
  let st := { s.store with erases := s.store.erases.filter fun q => decide (q.purpose ≠ ErasePurpose.logAhead) }
  (s.setStore { st with erases := st.erases ++ st.eraseLogRequests, eraseLogActive := true }).endEraseLog

/-- The effects of an accepted ERASE_LOG (R155). -/
def State.eraseLogTaken (s : State) : State :=
  ((s.setStore { s.store with buffer := [] }).advanceFirst s.store.nextSeq).askEraseLog

/-- ERASE_LOG (R155). -/
def eraseLog (payload : List Byte) (s : State) : State × Option Answer :=
  match parseEmpty payload with
  | none => refuse s .badArgument
  | some _ =>
    if s.store.eraseLogActive then refuse s .busy
    else if s.store.degraded then refuse s .storeFault
    else ok s.eraseLogTaken (leWord s.store.nextSeq)

/-- Whether the channel holds an erase, running or suspended. -/
def Channel.eraseState : Channel → Bool × Bool
  | .erasing j => (!j.suspended, j.suspended)
  | _ => (false, false)

/-- The LOG blocks left to erase: those whose erase waits or is under way, each counted once, also where its erase-ahead
ran as ERASE_LOG asked for it again (R154, R155; log 62 for a retirement). -/
def Store.blocksLeft (st : Store) : Nat :=
  if st.eraseLogActive then
    (Region.log.blocks.filter fun b =>
      (st.erases ++ st.channel.erase?.toList).any fun q => decide (q.block = b)).length
  else 0

/-- STORE_STATUS's 24 bytes (R154). -/
def State.storePayload (s : State) (p : Port) : List Byte :=
  leWord s.store.firstSeq ++ leWord s.store.nextSeq ++ leWord (s.port p).cursor ++ le32 (s.port p).lost ++
  flagsByte [s.store.degraded, s.store.channel.eraseState.1, s.store.channel.eraseState.2, s.store.eraseLogActive] ++
  le16 s.store.bad.length ++ le8 s.store.buffer.length ++ le8 s.store.dropped ++ le8 s.store.journalQueue.length ++
  le16 s.store.blocksLeft

/-- STORE_STATUS (R154). -/
def storeStatus (p : Port) (payload : List Byte) (s : State) : State × Option Answer :=
  match parseEmpty payload with
  | none => refuse s .badArgument
  | some _ => ok s (s.storePayload p)

/-! ### The meanings -/

/-- APPEND_GRANT (R143). -/
def execAppendGrant (s : State) : Host.Outcome State Fault Refusal := .next s.appendGrant

/-- JOURNAL_GRANT (R157). -/
def execJournalGrant (s : State) : Host.Outcome State Fault Refusal := .next s.journalGrant

/-- RATING_IMAGE_GRANT (R159). -/
def execRatingImageGrant (s : State) : Host.Outcome State Fault Refusal := .next s.imageGrant

/-- CONFIG_SAVE_GRANT (R160). -/
def execConfigSaveGrant (s : State) : Host.Outcome State Fault Refusal := .next s.saveGrant

/-- IDENT_WRITE_GRANT (R161). -/
def execIdentWriteGrant (s : State) : Host.Outcome State Fault Refusal := .next s.identGrant

/-- UNIT_PROGRAM_COMPLETE (R138). -/
def execUnitProgramComplete (headerOk unitOk : Bool) (s : State) : Host.Outcome State Fault Refusal :=
  .next (s.programComplete headerOk unitOk)

/-- ERASE_AHEAD_START (R144). -/
def execEraseAheadStart (s : State) : Host.Outcome State Fault Refusal := .next s.eraseAheadStart

/-- BLOCK_RETIRE (R144). -/
def execBlockRetire (s : State) : Host.Outcome State Fault Refusal := .next (s.eraseStart .retire)

/-- ERASE_LOG_BLOCK_ERASE (R155). -/
def execEraseLogBlockErase (s : State) : Host.Outcome State Fault Refusal := .next (s.eraseStart .eraseLog)

/-- ERASE_SUSPEND (R147). -/
def execEraseSuspend (s : State) : Host.Outcome State Fault Refusal := .next s.eraseSuspend

/-- ERASE_COMPLETE (R138). -/
def execEraseComplete (ok badHeaderOk : Bool) (s : State) : Host.Outcome State Fault Refusal :=
  .next (s.eraseComplete ok badHeaderOk)

/-- ERASE_LOG (R155). -/
def execEraseLog (p : Port) (payload : List Byte) (s : State) : Host.Outcome State Fault Refusal :=
  .next (s.serve p 0x54#8 payload (eraseLog payload))

/-- STORE_STATUS (R154). -/
def execStoreStatus (p : Port) (payload : List Byte) (s : State) : Host.Outcome State Fault Refusal :=
  .next (s.serve p 0x52#8 payload (storeStatus p payload))

end Sys2Proof.Machine
end

