-- ==== Sys2Proof/Machine/Reads.lean ====
section
/-! DEFINITION. Port reads (spec/08): READ_LOG, SEEK_LOG and READ_JOURNAL, and their class-1 grants (R146,
R147, R152, R153, R158). -/

namespace Sys2Proof.Machine

/-! ### Class 1 (R146) -/

/-- The port after another in the round-robin L, T, C (R146). -/
def Port.succ : Port → Port
  | .l => .t
  | .t => .c
  | .c => .l

/-- The first read of a port that waits, of those that have not given way to other work if any is such (R153; log 48). Where a port reset left one waiting and the port has sent another since, the older
one is first: the model's choice (R146, R177; log 59). -/
def Store.readOf (st : Store) (p : Port) : Option WaitingRead :=
  (if st.firstReads.isEmpty then st.reads else st.firstReads).find? fun r => decide (r.port = p)

/-- The read served next by the round-robin, of those that have not given way to other work if any is such (R146, R153). -/
def Store.nextRead (st : Store) : Option WaitingRead :=
  ((st.readOf st.robin).or (st.readOf (Port.succ st.robin))).or (st.readOf (Port.succ (Port.succ st.robin)))

/-- The read the arbiter grants now, if it is a read's turn. -/
def State.grantedRead (s : State) : Option WaitingRead := if s.arbiter = some .read then s.store.nextRead else none

/-- A grant of a read ends: the round-robin moves on, and an erase that gave way resumes (R146, R147). -/
def State.readEnds (s : State) (p : Port) : State :=
  s.setStore { s.store with robin := Port.succ p, channel := s.store.channel.resumed }

/-- A step of a SEEK_LOG ends that is not its last: the round-robin moves on, and the search gives way (R146, R153). -/
def State.stepEnds (s : State) (p : Port) : State :=
  s.setStore { s.store with robin := Port.succ p, channel := s.store.channel.stepped p }

/-- A read leaves the waiting reads. -/
def State.dropRead (s : State) (r : WaitingRead) : State :=
  s.setStore { s.store with reads := s.store.reads.erase r }

/-- A read is done: its reply goes to its port, unless the port was reset since (R146, R177). -/
def State.readReply (s : State) (r : WaitingRead) (a : Answer) : State := if r.attached then s.reply r.port a else s

/-- A request's read joins the waiting reads. -/
def State.waitRead (s : State) (p : Port) (kind : ReadKind) : State :=
  s.setStore { s.store with reads := s.store.reads ++ [⟨p, true, kind⟩] }

/-! ### READ_LOG (R152) -/

/-- The record of a sequence: from the buffer, or from flash unless the log is the ring alone (R151, R152). -/
def Store.lookup (st : Store) (seq : Word32) : Option LogRecord :=
  (st.buffer.find? fun r => decide (r.seq = seq)).or (if st.degraded then none else st.flash.record? seq)

/-- What a READ_LOG collects: the records, how many sequences were passed over, the cursor after it. -/
structure Collected where
  records : List LogRecord
  passed : Nat
  cursor : Word32
  deriving DecidableEq, Repr

/-- Up to n records from a sequence on; the first argument bounds the sequences looked at (R152). -/
def Store.collect (st : Store) : Nat → Word32 → Nat → Collected
  | 0, seq, _ => ⟨[], 0, seq⟩
  | fuel + 1, seq, n =>
    if n = 0 then ⟨[], 0, seq⟩
    else
      match st.lookup seq with
      | some r =>
        let c := st.collect fuel (seq + 1) (n - 1)
        { c with records := r :: c.records }
      | none =>
        let c := st.collect fuel (seq + 1) n
        { c with passed := c.passed + 1 }

/-- What a READ_LOG of up to n records returns to a port (R152). -/
def State.logFor (s : State) (p : Port) (n : Nat) : Collected :=
  s.store.collect (distance (s.port p).cursor s.store.nextSeq) (s.port p).cursor n

/-- The lost count a READ_LOG reports (R145, R152; log 21). -/
def State.lostReported (s : State) (p : Port) (n : Nat) : Nat :=
  saturate 4294967295 ((s.port p).lost + (s.logFor p n).passed)

/-- READ_LOG's payload: a 9-byte head and the records (R152). -/
def State.logPayload (s : State) (p : Port) (n : Nat) : List Byte :=
  le8 (s.logFor p n).records.length ++ le32 (s.lostReported p n) ++ leWord (s.logFor p n).cursor ++
  (s.logFor p n).records.flatMap LogRecord.bytes

/-- The cursor advanced and the lost count cleared by a READ_LOG (R152). -/
def State.logRead (s : State) (p : Port) (n : Nat) : State :=
  s.setPort p { s.port p with cursor := (s.logFor p n).cursor, lost := 0 }

/-- Whether everything from a sequence on is in the buffer. -/
def Store.inBuffer (st : Store) (seq : Word32) : Bool := decide (distance seq st.nextSeq ≤ st.buffer.length)

/-- READ_LOG (R152): served at once when no record to be returned lies in flash. -/
def readLog (p : Port) (payload : List Byte) (s : State) : State × Option Answer :=
  match parseByte payload with
  | none => refuse s .badArgument
  | some n =>
    if n = 0 ∨ 7 < n then refuse s .badArgument
    else if s.store.inBuffer (s.port p).cursor then ok (s.logRead p n) (s.logPayload p n)
    else hold (s.waitRead p (.readLog n))

/-- READ_LOG_GRANT (R152). -/
def State.readLogGrant (s : State) : State :=
  match s.grantedRead with
  | some r =>
    match r.kind with
    | .readLog n =>
      (((s.logRead r.port n).dropRead r).readEnds r.port).readReply r ⟨.ok, s.logPayload r.port n⟩
    | _ => s
  | none => s

/-! ### SEEK_LOG (R153) -/

/-- Whether a sequence lies from a position on in the log. -/
def Store.ahead (st : Store) (pos seq : Word32) : Bool := decide (distance pos seq < distance pos st.nextSeq)

/-- The records in flash from a position on. -/
def Store.flashFrom (st : Store) (pos : Word32) : List (Nat × LogRecord) :=
  if st.degraded then [] else st.flash.records.filter fun e => st.ahead pos e.2.seq

/-- The nearer of two records after a position; of two units that hold one sequence the later, the model's choice
(log 63). -/
def Flash.nearer (f : Flash) (pos : Word32) (best : Option (Nat × LogRecord)) (e : Nat × LogRecord) :
    Option (Nat × LogRecord) :=
  match best with
  | none => some e
  | some b =>
    if distance pos e.2.seq < distance pos b.2.seq then some e
    else if e.2.seq = b.2.seq then f.pickLater best e
    else some b

/-- The nearest record after a position. -/
def Flash.nearest (f : Flash) (pos : Word32) (es : List (Nat × LogRecord)) : Option (Nat × LogRecord) :=
  es.foldl (f.nearer pos) none

/-- The records of a block that come before those of another from a position on, each in the unit its sequence is read from
(R153; log 63): all the block holds, in a log whose blocks hold their records in turn. -/
def Store.blockFrom (st : Store) (pos : Word32) (block : Nat) : List (Nat × LogRecord) :=
  let others := (st.flashFrom pos).filter fun x => decide (blockOf x.1 ≠ block)
  (st.flashFrom pos).filter fun x =>
    decide (blockOf x.1 = block) && decide (st.flash.recordUnit? x.2.seq = some x) &&
      (match st.flash.nearest pos others with
       | none => true
       | some y => decide (distance pos x.2.seq ≤ distance pos y.2.seq))

/-- The position past every record of a list. -/
def pastAll (pos : Word32) (es : List (Nat × LogRecord)) : Word32 :=
  es.foldl (fun q e => if distance pos q ≤ distance pos e.2.seq then e.2.seq + 1 else q) pos

/-- The first record of the buffer at or after a station time, from a position on (R153). Station times are compared as
unsigned numbers, also across the clock's wrap: the model's choice (log 46). -/
def Store.seekBuffer (st : Store) (t pos : Word32) : Option LogRecord :=
  st.buffer.find? fun r => st.ahead pos r.seq && decide (t ≤ r.time)

/-- What a step of a search comes to: found or not found, or to go on from a position. -/
inductive Sought where
  | done (r : Option LogRecord)
  | more (pos : Word32)
  deriving DecidableEq, Repr

/-- The block of the next record searched from a position on, and the buffer when no block is left (R153). Station times are compared as
unsigned numbers, as in the buffer (log 46). -/
def Store.seekStep (st : Store) (t pos : Word32) : Sought :=
  match st.flash.nearest pos (st.flashFrom pos) with
  | none => .done (st.seekBuffer t pos)
  | some e =>
    let here := st.blockFrom pos (blockOf e.1)
    match st.flash.nearest pos (here.filter fun x => decide (t ≤ x.2.time)) with
    | some x => .done (some x.2)
    | none =>
      if (st.flashFrom (pastAll pos here)).isEmpty then .done (st.seekBuffer t (pastAll pos here))
      else .more (pastAll pos here)

/-- The cursor a finished search sets (R153). -/
def Store.seekCursor (st : Store) (found : Option LogRecord) : Word32 :=
  match found with
  | none => st.nextSeq
  | some r => r.seq

/-- SEEK_LOG's payload (R153). -/
def Store.seekPayload (st : Store) (found : Option LogRecord) : List Byte :=
  leWord (st.seekCursor found) ++
  (match found with
   | none => le32 0
   | some r => leWord r.time)

/-- A finished search sets its port's cursor (R153). -/
def State.seekDone (s : State) (p : Port) (found : Option LogRecord) : State :=
  s.setPort p { s.port p with cursor := s.store.seekCursor found }

/-- SEEK_LOG (R153): a log that lies in the buffer alone needs no grant. -/
def seekLog (p : Port) (payload : List Byte) (s : State) : State × Option Answer :=
  match parseFour payload with
  | none => refuse s .badArgument
  | some t =>
    let time : Word32 := BitVec.ofNat 32 t
    if s.store.inBuffer s.store.firstSeq then
      let found := s.store.seekBuffer time s.store.firstSeq
      ok (s.seekDone p found) (s.store.seekPayload found)
    else hold (s.waitRead p (.seekLog time s.store.firstSeq))

/-- The search position, or first_seq when it has moved past it (R153). -/
def Store.seekFrom (st : Store) (pos : Word32) : Word32 :=
  if distance st.firstSeq pos ≤ distance st.firstSeq st.nextSeq then pos else st.firstSeq

/-- A waiting read with its search moved on. -/
def State.moveRead (s : State) (r : WaitingRead) (kind : ReadKind) : State :=
  s.setStore { s.store with reads := s.store.reads.replace r { r with kind := kind } }

/-- SEEK_LOG_STEP (R153). -/
def State.seekLogStep (s : State) : State :=
  match s.grantedRead with
  | some r =>
    match r.kind with
    | .seekLog t pos =>
      match s.store.seekStep t (s.store.seekFrom pos) with
      | .more pos' => (s.moveRead r (.seekLog t pos')).stepEnds r.port
      | .done found =>
        (((s.seekDone r.port found).dropRead r).readEnds r.port).readReply r ⟨.ok, s.store.seekPayload found⟩
    | _ => s
  | none => s

/-! ### READ_JOURNAL (R158) -/

/-- The newest header of a run id, and the entries after it (R158). -/
def afterHeader (id : Nat) : List JournalEntry → Option (RunHeader × List JournalEntry)
  | [] => none
  | e :: rest =>
    match afterHeader id rest with
    | some x => some x
    | none =>
      match e with
      | .header h => if h.runId = id then some (h, rest) else none
      | _ => none

/-- Entries up to and including the first trailer. -/
def throughTrailer : List JournalEntry → List JournalEntry
  | [] => []
  | .trailer t :: _ => [.trailer t]
  | e :: rest => e :: throughTrailer rest

/-- The header and the parts of a run (R158). -/
def runEntries (es : List JournalEntry) (id : Nat) : Option (RunHeader × List JournalEntry) :=
  (afterHeader id es).map fun x => (x.1, throughTrailer (x.2.filter fun e => decide (e.runId = id)))

/-- The kind code of an entry (R158). -/
def JournalEntry.code : JournalEntry → Nat
  | .header _ => 0
  | .vertical _ _ => 1
  | .removal _ _ => 2
  | .trailer _ => 3

/-- The RUN_OPEN payload as the run took it (R91, R158). -/
def RunDescription.bytes (d : RunDescription) : List Byte :=
  d.tag ++ le8 d.cpr ++ le32 d.a1 ++ sle16 d.b1 ++ le16 d.nBreak ++ le32 d.a2 ++ sle16 d.b2 ++ le16 d.coef ++
  le32 d.initial ++ le32 d.farBank ++ flagsByte [d.linkSilent, d.sourceSwitch]

/-- The content of an entry (R158). -/
def JournalEntry.bytes : JournalEntry → List Byte
  | .header h => h.desc.bytes ++ leWord h.openTime ++ sle16 (h.stageAtOpen.getD 0) ++ flagsByte [present h.stageAtOpen]
  | .vertical _ v => v.bytes ++ flagsByte [v.supersedes]
  | .removal _ station => le32 station
  | .trailer t => t.bytes

/-- The part of a run that a request names, and whether a further part is held (R158). -/
def runPart (x : RunHeader × List JournalEntry) (part : Nat) : Option (JournalEntry × Bool) :=
  match part with
  | 0 => some (.header x.1, !x.2.isEmpty)
  | k + 1 => (x.2[k]?).map fun e => (e, decide (k + 1 < x.2.length))

/-- The answer to READ_JOURNAL (R158). -/
def Store.journalAnswer (st : Store) (id part : Nat) : Answer :=
  match (runEntries (st.flash.entries st.givenUp) id).bind fun x => runPart x part with
  | none => ⟨.badArgument, []⟩
  | some (e, more) => ⟨.ok, le16 id ++ le8 part ++ le8 e.code ++ flagsByte [more] ++ e.bytes⟩

/-- READ_JOURNAL (R158): always a class-1 grant. -/
def readJournal (p : Port) (payload : List Byte) (s : State) : State × Option Answer :=
  match parseJournal payload with
  | none => refuse s .badArgument
  | some (id, part) => hold (s.waitRead p (.readJournal id part))

/-- READ_JOURNAL_GRANT (R158). -/
def State.readJournalGrant (s : State) : State :=
  match s.grantedRead with
  | some r =>
    match r.kind with
    | .readJournal id part => ((s.dropRead r).readEnds r.port).readReply r (s.store.journalAnswer id part)
    | _ => s
  | none => s

/-! ### The meanings -/

/-- READ_LOG_GRANT (R152). -/
def execReadLogGrant (s : State) : Host.Outcome State Fault Refusal := .next s.readLogGrant

/-- SEEK_LOG_STEP (R153). -/
def execSeekLogStep (s : State) : Host.Outcome State Fault Refusal := .next s.seekLogStep

/-- READ_JOURNAL_GRANT (R158). -/
def execReadJournalGrant (s : State) : Host.Outcome State Fault Refusal := .next s.readJournalGrant

/-- READ_LOG (R152). -/
def execReadLog (p : Port) (payload : List Byte) (s : State) : Host.Outcome State Fault Refusal :=
  .next (s.serve p 0x50#8 payload (readLog p payload))

/-- SEEK_LOG (R153). -/
def execSeekLog (p : Port) (payload : List Byte) (s : State) : Host.Outcome State Fault Refusal :=
  .next (s.serve p 0x51#8 payload (seekLog p payload))

/-- READ_JOURNAL (R158). -/
def execReadJournal (p : Port) (payload : List Byte) (s : State) : Host.Outcome State Fault Refusal :=
  .next (s.serve p 0x53#8 payload (readJournal p payload))

end Sys2Proof.Machine
end

