-- ==== Sys2Proof/Machine/Clock.lean ====
section
/-! DEFINITION. Station time (spec/02): the clock's advance, its store, the step of a SET_TIME, and GET_TIME. -/

namespace Sys2Proof.Machine

/-! ### The station clock -/

/-- The length of a station clock second in 1/10^7 capture ticks, trimmed (R189; log 8). -/
def BackupDomain.second (b : BackupDomain) : Nat := (100000 * (10000000 + b.trim)).toNat

/-- The clock advances by one second of its own phase, wrapping (R20). What its phase has run beyond the second counts
towards the next, so that the rate is trimmed exactly, though a second ends on a whole tick (R189; log 8). It stands still
while it is held at 0 for the scan (R21), and without supply once the backup store has run out. -/
def BackupDomain.advanced (b : BackupDomain) : BackupDomain :=
  if b.held then { b with subSecond := 0 } else { b with clock := b.clock + 1, subSecond := b.subSecond - b.second }

/-- The station clock advances unless the part is without supply and its store is exhausted (R20). -/
def State.advanceClock (s : State) : State :=
  if s.phase = .off ∧ s.backup.valid = false then s else { s with backup := s.backup.advanced }

/-- While the main supply is absent the backup store runs out: the validity mark is lost (R20). -/
def State.exhaustBackup (s : State) : State :=
  if s.phase = .off then { s with backup := { s.backup with valid := false } } else s

/-! ### SET_TIME -/

/-- Δ of a SET_TIME: new time − clock as unsigned numbers, read as a signed difference (R27). -/
def State.timeStep (s : State) (new : Word32) : Int := (new.toNat : Int) - (s.backup.clock.toNat : Int)

/-- Whether a step is small (R27). -/
def smallStep (d : Int) : Bool := decide (d.natAbs ≤ 60)

/-- The clock loaded with a new time: its phase restarts and UNSET is cleared (R27). -/
def State.loadClock (s : State) (new : Word32) : State :=
  { s with backup := { s.backup with clock := new, subSecond := 0, unset := false } }

/-- The later of the clock and the last-sample time (R28), compared as unsigned numbers also where the clock has wrapped
between the two (log 46). -/
def State.realignBase (s : State) : Nat :=
  match s.sched.lastSample with
  | none => s.backup.clock.toNat
  | some t => max s.backup.clock.toNat t.toNat

/-- After a small step the schedule realigns past the later of clock and last-sample time (R28). -/
def State.afterSmallStep (s : State) : State := s.setNextSample (nextSampleAfter s.interval s.realignBase)

/-- After a large step: the TIME_STEP mark, the last-step record, CLOCK_STEPPED, and the realignment, in
turn (R29). `old` and `unset` are the clock and the UNSET flag before the step. -/
def State.afterLargeStep (s : State) (old : Word32) (unset : Bool) : State :=
  let new := s.backup.clock
  let s := s.enterBuffer (.mark old new unset s.warn.level)
  let s := { s with backup := { s.backup with lastStep := some ⟨old, new, s.uptime⟩ } }
  let s := s.raiseAll .clockStepped
  { s with sched := { s.sched with nextSample := nextSampleAfter s.interval new.toNat, lastSample := none } }

/-- The clock is stepped to a new time (R27 to R29). -/
def State.stepClock (s : State) (new : Word32) : State :=
  if smallStep (s.timeStep new) then (s.loadClock new).afterSmallStep
  else (s.loadClock new).afterLargeStep s.backup.clock s.backup.unset

/-- The reply of SET_TIME: the size of the step and Δ, saturated to 4 bytes signed (R27). -/
def timePayload (d : Int) : List Byte :=
  le8 (if smallStep d then 0 else 1) ++ sle32 (clampInt (-2147483648) 2147483647 d)

/-! ### GET_TIME -/

/-- Whether the schedule runs: in READY (R25). -/
def State.scheduleRuns (s : State) : Bool := decide (s.phase = .ready)

/-- GET_TIME's 27 bytes (R32). -/
def State.timeStatePayload (s : State) : List Byte :=
  leWord s.backup.clock ++ le32 s.uptime ++
  flagsByte [s.backup.unset, present s.backup.lastStep, s.scheduleRuns] ++
  (if s.scheduleRuns then le16 s.interval ++ leWord s.sched.nextSample else le16 0 ++ le32 0) ++
  (match s.backup.lastStep with
   | none => le32 0 ++ le32 0 ++ le32 0
   | some l => leWord l.old ++ leWord l.new ++ le32 l.uptime)

/-- GET_TIME (R32). -/
def getTime (payload : List Byte) (s : State) : State × Option Answer :=
  match parseEmpty payload with
  | none => refuse s .badArgument
  | some _ => ok s s.timeStatePayload

/-! ### The meanings -/

/-- BACKUP_STORE_EXHAUSTED (R20). -/
def execBackupStoreExhausted (s : State) : Host.Outcome State Fault Refusal := .next s.exhaustBackup

/-- GET_TIME (R32). -/
def execGetTime (p : Port) (payload : List Byte) (s : State) : Host.Outcome State Fault Refusal :=
  .next (s.serve p 0x02#8 payload (getTime payload))

end Sys2Proof.Machine
end

