-- ==== Sys2Proof/Machine/Sensors.lean ====
section
/-! DEFINITION. Stage sensors (spec/01): conversions, qualities, encoder and measurement events,
READ_SOURCES and SET_REFERENCE. -/

namespace Sys2Proof.Machine

/-! ### Float channel -/

/-- count − ref_count modulo 2^32, read as signed (R3). -/
def FloatChannel.difference (f : FloatChannel) : Int := (f.count - f.refCount).toInt

/-- The float stage before clamping (R3). -/
def FloatChannel.unclamped (f : FloatChannel) : Int :=
  f.refStage + roundHalfAway (f.difference * f.scaleUm) 1000

/-- The float stage (R3). -/
def FloatChannel.stage (f : FloatChannel) : Int := clampStage f.unclamped

/-- The float quality: the first condition of R4's table that holds. -/
def FloatChannel.quality (f : FloatChannel) : Quality :=
  if f.unclamped < stageMin ∨ stageMax < f.unclamped then .outOfRange
  else if f.floatTop ≤ f.unclamped then .overtopped
  else if f.stallMark then .stalled
  else if 8 ≤ f.phaseErrors then .suspect
  else if f.origin = .restored then .restored
  else .good

/-- Whether going from one pair to another, of which exactly one input changes, counts up (R1's table). -/
def countsUp (a b a' b' : Bool) : Bool :=
  match a, b, a', b' with
  | false, false, true, false => true
  | true, false, true, true => true
  | true, true, false, true => true
  | false, true, false, false => true
  | _, _, _, _ => false

/-- The float channel after an input sample (R1, R2, R6). The first ENCODER_TRANSITION after a reset is taken as the first
input sample: it sets the pair and counts nothing (log 44). -/
def FloatChannel.sampled (f : FloatChannel) (fa fb : Bool) : FloatChannel :=
  match f.prevPair with
  | none => { f with prevPair := some (fa, fb) }
  | some (a, b) =>
    if a = fa ∧ b = fb then f
    else if a ≠ fa ∧ b ≠ fb then
      { f with prevPair := some (fa, fb), phaseErrors := saturate 255 (f.phaseErrors + 1) }
    else
      { f with
        prevPair := some (fa, fb)
        count := if countsUp a b fa fb then f.count + 1 else f.count - 1
        stallMark := false }

/-! ### Pressure channel -/

/-- The frequency used in conversions: the nearer limit of the valid range when invalid (R10). -/
def Measurement.used (m : Measurement) : Nat :=
  if m.freq < 400000 then 400000 else if 6000000 < m.freq then 6000000 else m.freq

/-- Whether a measurement is valid (R9). -/
def Measurement.valid (m : Measurement) : Bool := decide (400000 ≤ m.freq) && decide (m.freq ≤ 6000000)

/-- R_md (R10). -/
def Measurement.reading (m : Measurement) : Nat := m.used * m.used / 1000000

/-- The head term H of R10, 0 with no measurement (R18). -/
def PressureChannel.head (c : PressureChannel) : Int :=
  match c.newest with
  | none => 0
  | some m => roundHalfAway (c.gaugeFactor * (c.zeroReading - (m.reading : Int))) 1000000

/-- The pressure stage before clamping (R10). -/
def PressureChannel.unclamped (c : PressureChannel) : Int := c.datum + c.head

/-- The pressure stage; 0 with no measurement since the reset (R10). -/
def PressureChannel.stage (c : PressureChannel) : Int :=
  match c.newest with
  | none => 0
  | some _ => clampStage c.unclamped

/-- The pressure quality at an uptime second (R11). -/
def PressureChannel.quality (c : PressureChannel) (now : Nat) : Quality :=
  match c.newest with
  | none => .noSignal
  | some m =>
    if m.completedAt + 2 < now then .noSignal
    else if ¬ m.valid ∨ c.unclamped < stageMin ∨ stageMax < c.unclamped then .outOfRange
    else .good

/-- The greatest period total of a measurement (R8). -/
def periodLimit : Nat := 16000000

/-- The frequency of a period total (R9). -/
def frequencyOf (periodTotal : Nat) : Nat :=
  saturate 4294967295 (roundHalfUp (256 * 10000000000) periodTotal)

/-- The conversion items in force are loaded from the live configuration (R14). -/
def State.loadChannels (s : State) : State :=
  { s with
    floatCh := { s.floatCh with scaleUm := s.cfg.get .scaleUm, floatTop := s.cfg.get .floatTop }
    pressCh := { s.pressCh with gaugeFactor := s.cfg.get .gaugeFactor, zeroReading := s.cfg.get .zeroReading,
                                datum := s.cfg.get .datum } }

/-! ### Events of the sensors -/

/-- ENCODER_TRANSITION (R1, R2, R6). -/
def State.encoder (s : State) (fa fb : Bool) : State :=
  if s.running then { s with floatCh := s.floatCh.sampled fa fb } else s

/-- A measurement is abandoned without a result (R8). -/
def State.abandonMeasurement (s : State) : State :=
  if s.running then { s with pressCh := { s.pressCh with measuring := false } } else s

/-- A measurement completes (R8, R9): its frequency is held with the uptime second. -/
def State.completeMeasurement (s : State) (periodTotal : Nat) : State :=
  if s.running = false ∨ periodTotal = 0 then s
  else if periodLimit < periodTotal then s.abandonMeasurement
  else
    { s with pressCh := { s.pressCh with measuring := true, newest := some ⟨frequencyOf periodTotal, s.uptime⟩,
                                         signalSeen := true } }

/-- Whether the newest measurement has just become more than 2 seconds old (R12). -/
def State.signalLost (s : State) : Bool :=
  s.running && s.pressCh.signalSeen && decide (s.pressCh.quality s.uptime = .noSignal)

/-- PRESSURE_NO_SIGNAL is raised once as the quality passes to NO_SIGNAL (R12). -/
def State.loseSignal (s : State) : State :=
  if s.signalLost then
    { s with pressCh := { s.pressCh with signalSeen := false } }.raiseAll .pressureNoSignal
  else s

/-! ### READ_SOURCES -/

/-- The measurement age of READ_SOURCES (R19). -/
def State.measurementAge (s : State) : Nat :=
  match s.pressCh.newest with
  | none => 65535
  | some m => saturate 65535 (s.uptime - m.completedAt)

/-- READ_SOURCES's 27 bytes (R19). -/
def State.sourcesPayload (s : State) : List Byte :=
  leWord s.floatCh.count ++ sle16 s.floatCh.stage ++ le8 s.floatCh.quality.code ++ le8 s.floatCh.phaseErrors ++
  leWord s.floatCh.refCount ++ sle16 s.floatCh.refStage ++
  (match s.pressCh.newest with
   | none => le32 0 ++ le32 0
   | some m => le32 m.freq ++ le32 m.reading) ++
  sle16 s.pressCh.stage ++ le8 (s.pressCh.quality s.uptime).code ++ le16 s.measurementAge

/-- READ_SOURCES (R19). -/
def readSources (payload : List Byte) (s : State) : State × Option Answer :=
  match parseEmpty payload with
  | none => refuse s .badArgument
  | some _ => ok s s.sourcesPayload

/-! ### SET_REFERENCE -/

/-- The float channel referenced to S (R16). -/
def FloatChannel.referenced (f : FloatChannel) (staff : Int) : FloatChannel :=
  { f with refCount := f.count, refStage := staff, origin := .set }

/-- The float channel tied to the staff, when the target includes it (R16). -/
def State.referenceFloat (s : State) (target : Nat) (staff : Int) : State :=
  if target.testBit 0 then { s with floatCh := s.floatCh.referenced staff } else s

/-- datum_mm written to the live configuration and to the copy in force, when the target includes the
pressure channel (R17). -/
def State.referencePressure (s : State) (target : Nat) (staff : Int) : State :=
  if target.testBit 1 then
    { s with
      cfg := s.cfg.set .datum (staff - s.pressCh.head)
      pressCh := { s.pressCh with datum := staff - s.pressCh.head } }
  else s

/-- Whether a target includes the current governing source (R18). -/
def State.targetGoverns (s : State) (target : Nat) : Bool :=
  (target.testBit 0 && decide (s.sel.current = some .float)) ||
    (target.testBit 1 && decide (s.sel.current = some .pressure))

/-- The purge of R18, when the target includes the current governing source. -/
def State.purgeIf (s : State) (b : Bool) : State := if b then s.purgeWindow else s

/-- A run in OPEN or OBSERVING is marked REFERENCE_CHANGED (R18). -/
def Run.markReference (r : Run) : Run := if r.active then { r with referenceChanged := true } else r

/-- The changes of an accepted SET_REFERENCE (R16 to R18). -/
def State.setReference (s : State) (staff : Int) (target : Nat) : State :=
  (((s.referenceFloat target staff).referencePressure target staff).purgeIf (s.targetGoverns target)).mapRun
    Run.markReference

/-- The reply of an accepted SET_REFERENCE (R18). -/
def State.referencePayload (s : State) (target : Nat) : List Byte :=
  le8 target ++ leWord s.floatCh.refCount ++ sle16 s.floatCh.refStage ++ sle32 s.pressCh.datum ++ sle32 s.pressCh.head

/-- SET_REFERENCE's checks in order (R15): the status of the first that fails. -/
def State.referenceCheck (s : State) (staff : Int) (target : Nat) : Option Status :=
  if target = 0 ∨ 3 < target ∨ inRange stageMin stageMax staff = false then some .badArgument
  else if target.testBit 0 ∧ s.floatCh.quality = .outOfRange then some .wrongState
  else if target.testBit 1 ∧ s.pressCh.quality s.uptime ≠ .good then some .wrongState
  else if target.testBit 1 ∧
      inRange (Item.row .datum).least (Item.row .datum).greatest (staff - s.pressCh.head) = false then some .badArgument
  else none

/-- SET_REFERENCE (R15 to R18). -/
def setReference (payload : List Byte) (s : State) : State × Option Answer :=
  match parseReference payload with
  | none => refuse s .badArgument
  | some (staff, target) =>
    match s.referenceCheck staff target with
    | some st => refuse s st
    | none =>
      let s' := s.setReference staff target
      ok s' (s'.referencePayload target)

/-! ### The meanings -/

/-- ENCODER_TRANSITION (R1). -/
def execEncoderTransition (fa fb : Bool) (s : State) : Host.Outcome State Fault Refusal := .next (s.encoder fa fb)

/-- MEASUREMENT_COMPLETE (R9). -/
def execMeasurementComplete (periodTotal : Nat) (s : State) : Host.Outcome State Fault Refusal :=
  .next (s.completeMeasurement periodTotal)

/-- MEASUREMENT_ABANDONED (R8). -/
def execMeasurementAbandoned (s : State) : Host.Outcome State Fault Refusal := .next s.abandonMeasurement

/-- PRESSURE_NO_SIGNAL (R12). -/
def execPressureNoSignal (s : State) : Host.Outcome State Fault Refusal := .next s.loseSignal

/-- READ_SOURCES (R19). -/
def execReadSources (p : Port) (payload : List Byte) (s : State) : Host.Outcome State Fault Refusal :=
  .next (s.serve p 0x11#8 payload (readSources payload))

/-- SET_REFERENCE (R15). -/
def execSetReference (p : Port) (payload : List Byte) (s : State) : Host.Outcome State Fault Refusal :=
  .next (s.serve p 0x12#8 payload (setReference payload))

end Sys2Proof.Machine
end

