-- ==== Sys2Proof/Machine/Warning.lean ====
section
/-! DEFINITION. Flood warning (spec/05): the computed level, the evaluation of a sample, the level change,
the siren and its timers, ACK_SIREN, TEST_SIREN and GET_WARNING. -/

namespace Sys2Proof.Machine

/-! ### The computed level (R73) -/

/-- Whether a rate is present and at least the entry rate, with the stage at or above its floor (R73). -/
def LevelItems.rateQualifies (i : LevelItems) (stage : Int) (rate : Option Int) : Bool :=
  match rate with
  | none => false
  | some r => decide (i.rateEnter ≤ r) && decide (i.rateFloor ≤ stage)

/-- Whether a level qualifies at a stage and rate (R73). -/
def LevelItems.qualifies (i : LevelItems) (stage : Int) (rate : Option Int) : Bool :=
  decide (i.stageEnter ≤ stage) || i.rateQualifies stage rate

/-- The computed level: the highest level that qualifies, NORMAL when none does (R73). -/
def WarnItems.computed (w : WarnItems) (stage : Int) (rate : Option Int) : Level :=
  if w.danger.qualifies stage rate then .danger
  else if w.warning.qualifies stage rate then .warning
  else if w.watch.qualifies stage rate then .watch
  else .normal

/-- The items of a level above NORMAL. -/
def WarnItems.of (w : WarnItems) : Level → Option LevelItems
  | .normal => none
  | .watch => some w.watch
  | .warning => some w.warning
  | .danger => some w.danger

/-- The clear condition of a level's items (R75). -/
def LevelItems.clear (i : LevelItems) (stage : Int) (rate : Option Int) : Bool :=
  decide (stage < i.stageEnter - i.hyst) && !i.rateQualifies stage rate

/-- The clear condition of the current level; it never holds at NORMAL (R75). -/
def WarningUnit.clearHolds (w : WarningUnit) (stage : Int) (rate : Option Int) : Bool :=
  match w.items.of w.level with
  | none => false
  | some i => i.clear stage rate

/-- clear_since after R75's judgement at an uptime second. -/
def WarningUnit.judgedClear (w : WarningUnit) (stage : Int) (rate : Option Int) (now : Nat) : Option Nat :=
  if w.clearHolds stage rate then
    match w.clearSince with
    | none => some now
    | some t => some t
  else none

/-! ### Level changes (R74, R76, R78 to R80, R83) -/

/-- The siren, its timers and its state after a level change (R80, R83, R84). -/
def WarningUnit.sirenChanged (w : WarningUnit) (rise : Bool) (new : Level) (now : Nat) : WarningUnit :=
  if rise then
    if new = .danger then { w with siren := .sounding, sirenStart := some now, testStart := none }
    else if w.siren = .test then { w with siren := .off, testStart := none }
    else w
  else if w.siren = .sounding ∨ w.siren = .silenced then { w with siren := .off, sirenStart := none }
  else w

/-- The record of a change, the new level and the cleared clear_since (R74, R76, R78). -/
def WarningUnit.moved (w : WarningUnit) (new : Level) (t : Word32) (now : Nat) : WarningUnit :=
  { w with level := new, clearSince := none, lastChange := some ⟨t, now, w.level⟩ }

/-- A change of the warning unit alone. -/
def State.mapWarn (s : State) (f : WarningUnit → WarningUnit) : State := { s with warn := f s.warn }

/-- The park request of a rise above run_limit (R79). -/
def State.parkAbove (s : State) (rise : Bool) (new : Level) : State :=
  if rise && decide (s.cfg.runLimitRank < new.rank) then s.park .level else s

/-- A level change at a sample of the given times, in R78's order: record, LEVEL_CHANGED, schedule, park
request, siren. -/
def State.changeLevel (s : State) (rise : Bool) (new : Level) (t : Word32) (now : Nat) : State :=
  ((((s.mapWarn fun w => w.moved new t now).raiseAll .levelChanged).realign).parkAbove rise new).mapWarn
    fun w => w.sirenChanged rise new now

/-! ### Evaluating a sample (R72 to R78) -/

/-- The items in force are loaded at the start of an evaluation (R72). -/
def State.loadWarnItems (s : State) : State := s.mapWarn fun w => { w with items := s.cfg.warnItems }

/-- What is cleared and held at a sample with a stage: the stage-lost count, FAULT, the computed level
(R73, R77). -/
def WarningUnit.seen (w : WarningUnit) (c : Level) : WarningUnit :=
  { w with stageLost := 0, fault := false, computed := some c }

/-- Whether the hold has run at a sample's uptime second (R76). -/
def WarningUnit.holdRun (w : WarningUnit) (now : Nat) : Bool := timerDue w.clearSince w.items.holdTime now

/-- R74 to R76: a rise at once, or the clear condition and the hold. -/
def State.judge (s : State) (c : Level) (x : StageSample) (stage : Int) : State :=
  if s.warn.level.rank < c.rank then s.changeLevel true c x.time x.uptime
  else
    let s := s.mapWarn fun w => { w with clearSince := w.judgedClear stage x.rate x.uptime }
    if s.warn.holdRun x.uptime then s.changeLevel false c x.time x.uptime else s

/-- A sample with a governing stage (R73 to R76). -/
def State.evaluateStage (s : State) (x : StageSample) (stage : Int) : State :=
  (s.mapWarn fun w => w.seen (s.warn.items.computed stage x.rate)).judge (s.warn.items.computed stage x.rate) x stage

/-- The warning unit after a sample without a stage, before STAGE_LOST is judged (R77). -/
def WarningUnit.blind (w : WarningUnit) : WarningUnit :=
  { w with clearSince := none, computed := none, stageLost := saturate 255 (w.stageLost + 1) }

/-- A sample without a governing stage (R77). -/
def State.evaluateAbsent (s : State) : State :=
  let s := s.mapWarn WarningUnit.blind
  if s.warn.items.stageLostSamples ≤ (s.warn.stageLost : Int) ∧ s.warn.fault = false then
    (s.mapWarn fun w => { w with fault := true }).raiseAll .stageLost
  else s

/-- The evaluation of a stage sample (R72 to R78). The verdict is the level and FAULT it leaves. -/
def State.evaluate (s : State) (x : StageSample) : State :=
  match x.stage with
  | some stage => s.loadWarnItems.evaluateStage x stage
  | none => s.loadWarnItems.evaluateAbsent

/-! ### Siren timers (R81, R84) -/

/-- Whether the siren timer has reached siren_max (R81). -/
def State.sirenDue (s : State) : Bool :=
  decide (s.warn.siren = .sounding) && s.limitReached s.warn.sirenStart s.limits.sirenMax .sirenMax

/-- SIREN_TIMER_EXPIRY (R81). -/
def State.sirenExpiry (s : State) : State :=
  if s.sirenDue then (s.mapWarn fun w => { w with siren := .silenced, sirenStart := none }).raiseAll .sirenTimedOut
  else s

/-- Whether the test timer has reached 5 s (R84). -/
def State.testDue (s : State) : Bool := decide (s.warn.siren = .test) && timerDue s.warn.testStart 5 s.uptime

/-- SIREN_TEST_EXPIRY (R84). -/
def State.testExpiry (s : State) : State :=
  if s.testDue then s.mapWarn fun w => { w with siren := .off, testStart := none } else s

/-! ### The requests -/

/-- ACK_SIREN (R82): OK and WRONG_STATE both carry the siren state. -/
def ackSiren (payload : List Byte) (s : State) : State × Option Answer :=
  match parseEmpty payload with
  | none => refuse s .badArgument
  | some _ =>
    if s.warn.siren = .sounding then
      ok ((s.mapWarn fun w => { w with siren := .silenced, sirenStart := none }).raiseAll .sirenAcked)
        (le8 (Siren.code .silenced))
    else (s, some ⟨.wrongState, le8 s.warn.siren.code⟩)

/-- TEST_SIREN (R84). -/
def testSiren (payload : List Byte) (s : State) : State × Option Answer :=
  match parseEmpty payload with
  | none => refuse s .badArgument
  | some _ =>
    if s.warn.level = .normal ∧ s.warn.siren = .off then
      ok (s.mapWarn fun w => { w with siren := .test, testStart := some s.uptime }) []
    else refuse s .wrongState

/-- Siren elapsed of GET_WARNING: of the siren timer while SOUNDING, of the test timer in TEST (R87). -/
def State.sirenElapsed (s : State) : Nat :=
  match s.warn.siren with
  | .sounding => elapsed s.warn.sirenStart s.uptime
  | .test => elapsed s.warn.testStart s.uptime
  | .off => 0
  | .silenced => 0

/-- The last change's three fields in GET_WARNING, the level left apart (R87). -/
def changeTimes (c : Option LevelChange) : List Byte :=
  match c with
  | none => le32 0 ++ le32 0
  | some x => leWord x.time ++ le32 x.uptime

/-- GET_WARNING's 22 bytes (R87). -/
def State.warningPayload (s : State) : List Byte :=
  le8 s.warn.level.rank ++ le8 ((s.warn.computed.map Level.rank).getD 0xFF) ++
  flagsByte [s.warn.fault, present s.warn.clearSince, present s.warn.lastChange] ++
  le8 s.warn.siren.code ++ flagsByte [s.beacon, s.sirenOut, s.warnOut] ++ le8 s.cfg.runLimitRank ++
  le8 s.warn.stageLost ++ le8 ((s.warn.lastChange.map fun c => c.left.rank).getD 0) ++
  le32 (elapsed s.warn.clearSince s.uptime) ++ le16 (saturate 65535 s.sirenElapsed) ++ changeTimes s.warn.lastChange

/-- GET_WARNING (R87). -/
def getWarning (payload : List Byte) (s : State) : State × Option Answer :=
  match parseEmpty payload with
  | none => refuse s .badArgument
  | some _ => ok s s.warningPayload

/-! ### The meanings -/

/-- SIREN_TIMER_EXPIRY (R81). -/
def execSirenTimerExpiry (s : State) : Host.Outcome State Fault Refusal := .next s.sirenExpiry

/-- SIREN_TEST_EXPIRY (R84). -/
def execSirenTestExpiry (s : State) : Host.Outcome State Fault Refusal := .next s.testExpiry

/-- GET_WARNING (R87). -/
def execGetWarning (p : Port) (payload : List Byte) (s : State) : Host.Outcome State Fault Refusal :=
  .next (s.serve p 0x30#8 payload (getWarning payload))

/-- ACK_SIREN (R82). -/
def execAckSiren (p : Port) (payload : List Byte) (s : State) : Host.Outcome State Fault Refusal :=
  .next (s.serve p 0x31#8 payload (ackSiren payload))

/-- TEST_SIREN (R84). -/
def execTestSiren (p : Port) (payload : List Byte) (s : State) : Host.Outcome State Fault Refusal :=
  .next (s.serve p 0x32#8 payload (testSiren payload))

end Sys2Proof.Machine
end

