-- ==== Sys2Proof/Machine/Sampling.lean ====
section
/-! DEFINITION. Forming a sample (spec/03, R35), the firing of scheduled and extra samples (R25, R31), the
advance of the station clock (R20), SET_TIME (R27 to R29), SELECT_SOURCE and GET_STAGE. -/

namespace Sys2Proof.Machine

/-! ### Step 1: items in force (R34) -/

/-- The selector with its items loaded; a changed mode clears the away flag and the return count, except at
the first sample after a reset (R34). -/
def Selector.loaded (x : Selector) (c : LiveConfig) : Selector :=
  let m := sourceModeOf (c.get .sourceMode)
  let changed := x.current.isSome && decide (m ≠ x.mode)
  { x with
    mode := m, stallSamples := c.get .stallSamples, stallLimit := c.get .stallLimit,
    disagreeLimit := c.get .disagreeLimit,
    away := if changed then false else x.away
    returnCount := if changed then 0 else x.returnCount }

/-- A change of the selector alone. -/
def State.mapSel (s : State) (f : Selector → Selector) : State := { s with sel := f s.sel }

/-- Step 1 of R35. -/
def State.sampleLoad (s : State) : State := (s.mapSel fun x => x.loaded s.cfg).loadChannels

/-! ### Step 2: the stall judgement (R36) -/

/-- The most entries of the stall history (R36). -/
def stallLimitEntries : Nat := 20

/-- An entry joins the history of the newest 20 samples (R36). -/
def joinHistory (h : List StallEntry) (e : StallEntry) : List StallEntry :=
  if stallLimitEntries ≤ h.length then h.drop 1 ++ [e] else h ++ [e]

/-- Whether every entry holds the count of the first and a GOOD pressure. -/
def motionless : List StallEntry → Bool
  | [] => false
  | e :: es => e.good && es.all fun x => x.good && decide (x.count = e.count)

/-- Whether two entries' pressure stages differ by more than a limit. -/
def movedMore (h : List StallEntry) (limit : Int) : Bool :=
  h.any fun a => h.any fun b => decide (limit < a.stage - b.stage)

/-- Whether the newest entries show a stall (R36). -/
def stalled (h : List StallEntry) (samples : Nat) (limit : Int) : Bool :=
  decide (samples ≤ h.length) && motionless (h.drop (h.length - samples)) &&
    movedMore (h.drop (h.length - samples)) limit

/-- The stall entry of this sample (R36). -/
def State.stallEntry (s : State) : StallEntry :=
  { count := s.floatCh.count, stage := s.pressCh.stage, good := decide (s.pressCh.quality s.uptime = .good) }

/-- Step 2 of R35. -/
def State.sampleStall (s : State) : State :=
  let s := s.mapSel fun x => { x with history := joinHistory x.history s.stallEntry }
  if s.floatCh.stallMark = false ∧ stalled s.sel.history s.sel.stallSamples.toNat s.sel.stallLimit then
    { s with floatCh := { s.floatCh with stallMark := true } }.raiseAll .floatStalled
  else s

/-! ### Step 3: the channels hand over (R7, R13) -/

/-- What the channels hand over. -/
structure Handed where
  floatStage : Int
  floatQuality : Quality
  pressStage : Int
  pressQuality : Quality
  deriving DecidableEq, Repr

/-- What both channels hand at this moment (R7, R13). -/
def State.handed (s : State) : Handed :=
  { floatStage := s.floatCh.stage, floatQuality := s.floatCh.quality, pressStage := s.pressCh.stage,
    pressQuality := s.pressCh.quality s.uptime }

/-- Step 3 of R35: FLOAT_SUSPECT on entry, and a new phase-error interval (R2, R7). -/
def State.sampleHand (s : State) : State :=
  let q := s.floatCh.quality
  let enters := decide (q = .suspect) && decide (s.floatCh.lastHanded ≠ some .suspect)
  let s := { s with floatCh := { s.floatCh with lastHanded := some q, phaseErrors := 0 } }
  if enters then s.raiseAll .floatSuspect else s

/-! ### Step 4: the governing source (R37 to R39) -/

/-- The return count after its update at a sample in AUTO with the away flag set (R39). -/
def Selector.counted (x : Selector) (q : Quality) : Selector :=
  if x.mode = .auto ∧ x.away then
    { x with returnCount := if q = .good then saturate 3 (x.returnCount + 1) else 0 }
  else x

/-- Whether the float is held back (R39). -/
def Selector.heldBack (x : Selector) : Bool := x.away && decide (x.returnCount < 3)

/-- Whether a float quality is GOOD or RESTORED. -/
def Quality.fit (q : Quality) : Bool := decide (q = .good) || decide (q = .restored)

/-- The source AUTO takes, and whether at preference 1 (R38). -/
def Selector.autoChoice (x : Selector) (h : Handed) : Source × Bool :=
  if h.floatQuality.fit && !x.heldBack then (.float, true)
  else if h.pressQuality = .good then (.pressure, false)
  else if h.floatQuality = .suspect ∨ h.floatQuality.fit then (.float, false)
  else (.none, false)

/-- The source chosen, and whether at preference 1 of AUTO (R37, R38). -/
def Selector.choice (x : Selector) (h : Handed) : Source × Bool :=
  match x.mode with
  | .auto => x.autoChoice h
  | .float => (if h.floatQuality.fit then .float else .none, false)
  | .pressure => (if h.pressQuality = .good then .pressure else .none, false)

/-- The away flag and return count after the choice (R37, R39). -/
def Selector.chosen (x : Selector) (c : Source × Bool) : Selector :=
  if x.mode ≠ .auto then { x with away := false, returnCount := 0 }
  else if c.2 then { x with away := false, returnCount := 0 }
  else if x.current = some .float ∧ c.1 ≠ .float then { x with away := true }
  else x

/-- The governing stage of a chosen source (R35, step 4). -/
def Handed.stageOf (h : Handed) : Source → Option Int
  | .none => none
  | .float => some h.floatStage
  | .pressure => some h.pressStage

/-! ### Step 5: disagreement (R40) -/

/-- Whether both sources are valid (R40). -/
def Handed.bothValid (h : Handed) : Bool :=
  (h.floatQuality.fit || decide (h.floatQuality = .suspect)) && decide (h.pressQuality = .good)

/-- Whether the stages differ by more than the limit (R40). -/
def Handed.apart (h : Handed) (limit : Int) : Bool := decide (limit < ((h.floatStage - h.pressStage).natAbs : Int))

/-- The disagreement count and state after the judgement (R40). -/
def Selector.judged (x : Selector) (h : Handed) : Selector :=
  if h.bothValid = false then x
  else if h.apart x.disagreeLimit then
    { x with disagreeCount := saturate 3 (x.disagreeCount + 1)
             disagree := x.disagree || decide (saturate 3 (x.disagreeCount + 1) = 3) }
  else { x with disagreeCount := 0, disagree := false }

/-- Step 5 of R35. -/
def State.sampleJudge (s : State) (h : Handed) : State :=
  let rises := !s.sel.disagree && (s.sel.judged h).disagree
  let s := s.mapSel fun x => x.judged h
  if rises then s.raiseAll .sourcesDisagree else s

/-! ### Step 6: the source switch (R41, R42) -/

/-- A run in OPEN or OBSERVING is marked SOURCE_CHANGED (R42). -/
def Run.markSource (r : Run) : Run := if r.active then { r with sourceChanged := true } else r

/-- Whether a choice is a switch: there is a current source, and it differs (R41). -/
def Selector.switches (x : Selector) (c : Source) : Bool :=
  match x.current with
  | none => false
  | some cur => decide (cur ≠ c)

/-- Step 6 of R35. -/
def State.sampleSwitch (s : State) (c : Source) : State :=
  let switch := s.sel.switches c
  let s := s.mapSel fun x => { x with current := some c }
  if switch then (((s.raiseAll .sourceSwitched).purgeWindow).mapRun Run.markSource).park .sourceSwitch else s

/-! ### Step 7: the rise window (R46, R48) -/

/-- The spacing of ranks (R46). -/
def rankStep : Nat := 60

/-- The most ranks (R46). -/
def rankLimit : Nat := 12

/-- The newest rank's uptime, if any. -/
def newestRank (w : List Rank) : Option Rank := w.getLast?

/-- A stage offered to the window (R46). -/
def offerRank (w : List Rank) (now : Nat) (stage : Int) : List Rank :=
  let fits := match newestRank w with
    | none => true
    | some n => decide (n.uptime + rankStep ≤ now)
  if fits then (if rankLimit ≤ w.length then w.drop 1 else w) ++ [⟨now, stage⟩] else w

/-- The oldest rank whose uptime is at least the given one (R48). -/
def oldestSince (w : List Rank) (u : Int) : Option Rank := w.find? fun r => decide (u ≤ (r.uptime : Int))

/-- The rise rate the ranks give (R48). -/
def windowRate (w : List Rank) (rateWindow minSpan : Int) : Option Int :=
  match newestRank w with
  | none => none
  | some n =>
    match oldestSince w ((n.uptime : Int) - rateWindow) with
    | none => none
    | some o =>
      if n.uptime - o.uptime = 0 ∨ ((n.uptime - o.uptime : Nat) : Int) < minSpan then none
      else some (clampInt (-32767) 32767 (roundHalfAway ((n.stage - o.stage) * 3600) (n.uptime - o.uptime)))

/-- Step 7 of R35: admission. -/
def State.sampleOffer (s : State) (stage : Option Int) : State :=
  match stage with
  | none => s
  | some x => { s with window := offerRank s.window s.uptime x }

/-- Step 7 of R35: the rate of a sample, absent without a governing stage. -/
def State.sampleRate (s : State) (stage : Option Int) : Option Int :=
  match stage with
  | none => none
  | some _ => windowRate s.window (s.cfg.get .rateWindow) (s.cfg.get .minSpan)

/-! ### Step 8: delivery (R43, R44) -/

/-- The stage sample record (R43). -/
def State.sampleRecord (s : State) (h : Handed) (c : Source) (extra : Bool) : StageSample :=
  { time := s.backup.clock, uptime := s.uptime, stage := h.stageOf c, source := c, floatStage := h.floatStage,
    floatQuality := h.floatQuality, pressStage := h.pressStage, pressQuality := h.pressQuality,
    rate := s.sampleRate (h.stageOf c), extra := extra, disagree := h.bothValid && s.sel.disagree,
    unset := s.backup.unset }

/-- The sample joined with its discharge and verdict (R44, R141). -/
def State.composed (s : State) (x : StageSample) (rated : Option Nat × RatingFlags × Nat) : ComposedSample :=
  { sample := x, discharge := rated.1, ratingFlags := rated.2.1, ratingId := rated.2.2, level := s.warn.level,
    fault := s.warn.fault }

/-- The sample reaches the gauging and the warning unit, in the order a free value picks (R44, R109; log 9). -/
def State.weigh (s : State) (x : StageSample) : State :=
  let first := Config.stageBeforePark s.freeIndex
  let s := { s with freeIndex := s.freeIndex + 1 }
  if first then (s.mapRun fun r => r.accumulate x.stage).evaluate x
  else (s.evaluate x).mapRun fun r => r.accumulate x.stage

/-- Step 8 of R35: the record goes to the three consumers, and the log record is composed. -/
def State.deliver (s : State) (x : StageSample) : State :=
  let rated := s.rateSample x.stage x.time
  let s := s.weigh x
  s.compose (s.composed x rated)

/-! ### A sample -/

/-- Steps 4 to 8 of R35, after the channels handed over. -/
def State.sampleGovern (s : State) (h : Handed) (extra : Bool) : State :=
  let s := s.mapSel fun x => x.counted h.floatQuality
  let c := s.sel.choice h
  let s := s.mapSel fun x => x.chosen c
  let s := ((s.sampleJudge h).sampleSwitch c.1).sampleOffer (h.stageOf c.1)
  s.deliver (s.sampleRecord h c.1 extra)

/-- A sample is formed in the steps of R35. -/
def State.formSample (s : State) (extra : Bool) : State :=
  let s := s.sampleLoad.sampleStall
  s.sampleHand.sampleGovern s.handed extra

/-- The times a sample leaves in the schedule: its station time and uptime second (R25, R31). -/
def State.sampleTaken (s : State) : State :=
  { s with sched := { s.sched with lastSample := some s.backup.clock, lastUptime := some s.uptime } }

/-- Whether a scheduled sample fires: in READY, the clock at the next sample time (R25). -/
def State.sampleDue (s : State) : Bool := s.scheduleRuns && decide (s.backup.clock = s.sched.nextSample)

/-- SCHEDULED_SAMPLE (R25): the next time is set, then the sample is formed. -/
def State.scheduledSample (s : State) : State :=
  if s.sampleDue then
    ((s.setNextSample (nextSampleAfter s.interval s.backup.clock.toNat)).sampleTaken).formSample false
  else s

/-- STATION_CLOCK_ADVANCE (R20). A sample that fell due at this second fires first (R25; log 7). A queued one advances the
clock whatever its sub-second phase, the model's choice and the exception to log 2. -/
def State.clockTick (s : State) : State := s.scheduledSample.advanceClock

/-- The effects of an accepted SET_TIME (R27 to R29). A sample that fell due at this second fires first, since the clock's
advance was taken before the step (R25, R28; log 7). -/
def State.setTime (s : State) (new : Word32) : State := s.scheduledSample.stepClock new

/-! ### The requests -/

/-- SET_TIME (R27). -/
def setTime (payload : List Byte) (s : State) : State × Option Answer :=
  match parseFour payload with
  | none => refuse s .badArgument
  | some new => ok (s.setTime (BitVec.ofNat 32 new)) (timePayload (s.timeStep (BitVec.ofNat 32 new)))

/-- Whether a sample was taken less than 10 s ago (R31). -/
def State.sampleRecent (s : State) : Bool :=
  match s.sched.lastUptime with
  | none => false
  | some u => decide (s.uptime < u + 10)

/-- REQUEST_SAMPLE (R31). -/
def requestSample (payload : List Byte) (s : State) : State × Option Answer :=
  match parseEmpty payload with
  | none => refuse s .badArgument
  | some _ =>
    if s.sampleRecent then refuse s .busy
    else ok (s.sampleTaken.formSample true) (leWord s.backup.clock ++ le32 s.uptime)

/-- The source code of SELECT_SOURCE's reply (R33). -/
def Selector.sourceByte (x : Selector) : Nat :=
  match x.current with
  | none => 0xFF
  | some c => c.code

/-- SELECT_SOURCE (R33). -/
def selectSource (payload : List Byte) (s : State) : State × Option Answer :=
  match parseByte payload with
  | none => refuse s .badArgument
  | some m =>
    if 2 < m then refuse s .badArgument
    else ok { s with cfg := s.cfg.set .sourceMode m } (le8 m ++ le8 s.sel.sourceByte)

/-- GET_STAGE's 28 bytes (R45). -/
def ComposedSample.bytes (c : ComposedSample) : List Byte :=
  leWord c.sample.time ++ le32 c.sample.uptime ++
  flagsByte [present c.sample.stage, present c.sample.rate, present c.discharge, c.sample.extra, c.sample.disagree,
    c.sample.unset, c.fault] ++
  le8 c.sample.source.code ++ sle16 (orZero c.sample.stage) ++ sle16 c.sample.floatStage ++
  le8 c.sample.floatQuality.code ++ sle16 c.sample.pressStage ++ le8 c.sample.pressQuality.code ++
  sle16 (orZero c.sample.rate) ++ le32 (c.discharge.getD 0) ++ flagsByte c.ratingFlags.bits ++ le16 c.ratingId ++
  le8 c.level.rank

/-- GET_STAGE (R45). -/
def getStage (payload : List Byte) (s : State) : State × Option Answer :=
  match parseEmpty payload with
  | none => refuse s .badArgument
  | some _ =>
    match s.sel.newest with
    | none => refuse s .notReady
    | some c => ok s c.bytes

/-! ### The meanings -/

/-- SCHEDULED_SAMPLE (R25). -/
def execScheduledSample (s : State) : Host.Outcome State Fault Refusal := .next s.scheduledSample

/-- STATION_CLOCK_ADVANCE (R20). -/
def execStationClockAdvance (s : State) : Host.Outcome State Fault Refusal := .next s.clockTick

/-- SET_TIME (R27). -/
def execSetTime (p : Port) (payload : List Byte) (s : State) : Host.Outcome State Fault Refusal :=
  .next (s.serve p 0x03#8 payload (setTime payload))

/-- REQUEST_SAMPLE (R31). -/
def execRequestSample (p : Port) (payload : List Byte) (s : State) : Host.Outcome State Fault Refusal :=
  .next (s.serve p 0x14#8 payload (requestSample payload))

/-- SELECT_SOURCE (R33). -/
def execSelectSource (p : Port) (payload : List Byte) (s : State) : Host.Outcome State Fault Refusal :=
  .next (s.serve p 0x13#8 payload (selectSource payload))

/-- GET_STAGE (R45). -/
def execGetStage (p : Port) (payload : List Byte) (s : State) : Host.Outcome State Fault Refusal :=
  .next (s.serve p 0x10#8 payload (getStage payload))

end Sys2Proof.Machine
end

