-- ==== Sys2Proof/Machine/Startup.lean ====
section
/-! DEFINITION. Resets and start-up (spec/11): supply, the RESET pin, STATION_RESET's effect, STARTING, the
start-up scan (R162) and the entry to READY (R193). -/

namespace Sys2Proof.Machine

/-! ### A program or erase cut short (R138; log 5, log 20) -/

/-- A unit whose program was cut short, by what it reads as (R138). -/
def Flash.torn (f : Flash) (a : Nat) (u : FlashUnit) : Torn → Flash
  | .erased => f
  | .garbled => f.write a .garbled
  | .whole => f.write a u

/-- The header of a program job, if it has one, cut short. -/
def Flash.tornHeader (f : Flash) (j : ProgramJob) (x : Torn) : Flash :=
  match j.header with
  | none => f
  | some h => f.torn (unitAddr (blockOf j.addr) 0) h x

/-- A block whose erase was cut short, by what it reads as (R138). -/
def Flash.tornErase (f old : Flash) : Torn → Flash
  | .erased => f
  | .garbled => f.restore (old.map fun e => (e.1, .garbled))
  | .whole => f.restore old

/-- What a block reads as when its erase was cut short: block 1 does not come back as it was, since a reset between the
erase of a configuration save and its commit leaves no valid configuration (R160, R188). -/
def EraseJob.tornAs (j : EraseJob) (x : Torn) : Torn :=
  if j.request.purpose = .save ∧ x = .whole then .garbled else x

/-- The array as a reset or a loss of supply finds it, with the free values of the given number and the next
deciding what was under way (log 5). A save that still waits for its erase leaves block 1 as it is: the model's choice
between R160 and R188 (log 60). -/
def Store.cutShort (st : Store) (n : Nat) : Flash :=
  match st.channel with
  | .free => st.flash
  | .searched _ => st.flash
  | .programming j _ => (st.flash.tornHeader j (Config.tornUnit n)).torn j.addr j.content (Config.tornUnit (n + 1))
  | .erasing j => st.flash.tornErase j.old (j.tornAs (Config.tornUnit n))

/-! ### What every reset loses (R191; the chapters' tables of state after resets) -/

/-- The state with everything the three resets clear at its value after a reset; the flash array, the backup
domain, uptime, capture ticks and the pins stay (log 32). -/
def State.cleared (s : State) : State :=
  { s with
    startTicks := 0
    sched := { nextSample := 0, lastSample := none, lastUptime := none }
    cfg := defaultConfig, limits := defaultConfig.timerLimits, floatCh := .fresh, pressCh := .fresh, sel := .fresh, window := []
    rating := { active := none, draft := .empty, inFlight := none }
    warn := .fresh, run := none, newestRunId := 0, meter := .fresh, gaugings := []
    store := .fresh (s.store.cutShort s.freeIndex), identRead := false, ports := .fresh, lineC := .fresh
    resetReq := none, freeIndex := s.freeIndex + 2 }

/-- The copies in force loaded from the live configuration (R14, R34, R72, R172, R192). -/
def State.loadCopies (s : State) : State :=
  { ((((s.mapSel fun x => x.loaded s.cfg).loadChannels).loadWarnItems).loadDivider) with limits := s.cfg.timerLimits }

/-- STARTING is entered: block 0's trim goes to the backup domain, and block 1's configuration, or the
defaults, becomes the live one with every copy in force (R185, R189, R192; log 13). -/
def State.enterStarting (s : State) : State :=
  { s with
    phase := .starting
    cfg := s.store.flash.savedConfig.getD defaultConfig
    backup := { s.backup with trim := s.factoryTrim } }.loadCopies

/-! ### Supply and RESET pin -/

/-- The backup domain as power-on finds it: with the mark lost, the clock is held at 0, UNSET (R20, R21). -/
def BackupDomain.powered (b : BackupDomain) : BackupDomain :=
  if b.valid then b
  else { b with clock := 0, subSecond := 0, unset := true, lastStep := none, held := true }

/-- Where a powered part goes: into STARTING, or held while RESET is low (R191). -/
def State.leaveReset (s : State) : State := if s.resetLow then { s with phase := .held } else s.enterStarting

/-- POWER_ON (R191): uptime and capture ticks restart, and the validity mark is examined (R20, R22, R23). -/
def State.powerOn (s : State) : State :=
  if s.phase = .off then
    { s with uptime := 0, uptimeSub := 0, ticks := 0, backup := s.backup.powered }.leaveReset
  else s

/-- RESET_PIN_RELEASE (R191): a part held in reset enters STARTING. -/
def State.resetRelease (s : State) : State :=
  if s.phase = .held then { s with resetLow := false }.enterStarting else { s with resetLow := false }

/-- The ticks after which a STATION_RESET takes effect although its reply has not left (R191). -/
def resetTicks : Nat := 10000

/-- Whether the reset arranged by STATION_RESET takes effect (R191). -/
def State.resetDue (s : State) : Bool :=
  match s.resetReq with
  | none => false
  | some r => s.running && (r.due || decide (resetTicks ≤ r.age))

/-- STATION_RESET_TAKES_EFFECT (R191). -/
def State.stationResetEffect (s : State) : State := if s.resetDue then s.cleared.enterStarting else s

/-! ### The scan: log (R162) -/

/-- The blocks whose header says BAD, in rising number (R162). -/
def Flash.badBlocks (f : Flash) : List Nat :=
  (f.filter fun e => decide (e.1 % 256 = 0) && decide (f.headerOf (blockOf e.1) = .bad)).map fun e => blockOf e.1

/-- A region's current block as the scan finds it (R162). -/
def Flash.scanned (f : Flash) (r : Region) : Option CurrentBlock :=
  (f.currentBlock r).map fun b => { block := b, next := f.firstErased b 255 1, failures := 0, headerDue := false }

/-- first_seq as the scan finds it: the first item of the oldest IN_USE block, in circular order after the
current one (R162). -/
def Flash.scanFirst (f : Flash) (cur : Nat) : Word32 :=
  match (Region.log.after cur ++ [cur]).find? f.inUse with
  | none => 0
  | some b => (f.firstOf b).getD 0

/-- The newer of two records, counting from first_seq, the later unit winning (R162). -/
def Flash.newer (f : Flash) (first : Word32) (best : Option (Nat × LogRecord)) (e : Nat × LogRecord) :
    Option (Nat × LogRecord) :=
  match best with
  | none => some e
  | some b =>
    if distance first b.2.seq < distance first e.2.seq ∨ (b.2.seq = e.2.seq ∧ f.later b.1 e.1) then some e else some b

/-- The newest of some records (R162). -/
def Flash.newestOf (f : Flash) (first : Word32) (es : List (Nat × LogRecord)) : Option LogRecord :=
  (es.foldl (f.newer first) none).map Prod.snd

/-- What the scan of the LOG region finds (R162). -/
structure LogScan where
  current : Option CurrentBlock
  firstSeq : Word32
  nextSeq : Word32
  newest : Option LogRecord
  newestSample : Option LogRecord
  deriving DecidableEq, Repr

/-- next_seq as the scan finds it: one above the newest record, or the first item of a current block without a
record (R162). -/
def Flash.scanNext (f : Flash) (cur : Nat) (newest : Option LogRecord) : Word32 :=
  if f.records.any fun e => decide (blockOf e.1 = cur) then
    match newest with
    | some r => r.seq + 1
    | none => (f.firstOf cur).getD 0
  else (f.firstOf cur).getD 0

/-- The scan of the LOG region (R162). -/
def Flash.scanLog (f : Flash) : LogScan :=
  match f.scanned .log with
  | none => ⟨none, 0, 0, none, none⟩
  | some c =>
    let first := f.scanFirst c.block
    let newest := f.newestOf first f.records
    { current := some c, firstSeq := first, nextSeq := f.scanNext c.block newest, newest := newest,
      newestSample := f.newestOf first (f.records.filter fun e => e.2.floatStage?.isSome) }

/-! ### The scan: journal (R113, R134, R162) -/

/-- The newest run id: that of the newest header, 0 on a journal without one (R89, R162). -/
def newestHeaderId (es : List JournalEntry) : Nat :=
  es.foldl (fun id e =>
    match e with
    | .header h => h.runId
    | _ => id) 0

/-- Whether an entry is a trailer of a run. -/
def isTrailerOf (id : Nat) : JournalEntry → Bool
  | .trailer t => decide (t.runId = id)
  | _ => false

/-- The run ids of the headers with no trailer after them (R113). -/
def unclosedRuns : List JournalEntry → List Nat
  | [] => []
  | .header h :: rest => if rest.any (isTrailerOf h.runId) then unclosedRuns rest else h.runId :: unclosedRuns rest
  | _ :: rest => unclosedRuns rest

/-- The trailer the scan appends for a run: ABANDONED, no totals, a close time the manual does not state
(R113; log 11, log 29). -/
def scanTrailer (id : Nat) : QueuedEntry :=
  ⟨.trailer (abandonedRecord id (Config.scanCloseTime id) 0 0 false false false), 0⟩

/-- The next outcome of a program or erase of the scan, good where the list ends (log 14). -/
def takeOutcome : List Bool → Bool × List Bool
  | [] => (true, [])
  | b :: bs => (b, bs)

/-- The erase of a block that the scan needs for the journal's next unit; an erase of it that was asked for is this one. -/
def State.scanErase (s : State) (b : Nat) : State :=
  (s.setStore { s.store with erases := s.store.erases.filter fun q => decide (q.block ≠ b) }).startJournalErase
    ⟨b, .journalAhead⟩

/-- The scan starts its next program or erase: the next unit of the oldest trailer waiting, or the block it goes into. The
channel stays free when there is nothing left to do, or no place for it. -/
def State.scanStart (s : State) : State :=
  if s.store.journalQueue.isEmpty then s
  else if s.store.journalPlace.isSome then s.journalProgram
  else
    match Region.journal.next s.store.bad (s.store.journalCur.map CurrentBlock.block) with
    | none => s
    | some b => s.scanErase b

/-- What the scan has started ends, with the next outcomes: for a unit its header's, if one goes in, then its own; for an
erase its own, and that of the BAD header if it failed (log 14). -/
def State.scanEnd (s : State) (outs : List Bool) : State × List Bool :=
  match s.store.channel with
  | .free => (s, outs)
  | .searched _ => (s, outs)
  | .programming j _ =>
    let h := if j.header.isSome then takeOutcome outs else (true, outs)
    let u := takeOutcome h.2
    (s.programComplete h.1 u.1, u.2)
  | .erasing _ =>
    let e := takeOutcome outs
    let h := if e.1 then (true, e.2) else takeOutcome e.2
    (s.eraseComplete e.1 h.1, h.2)

/-- The trailers waiting are programmed, unit by unit; the first argument bounds the programs and erases. -/
def State.scanTrailers : Nat → State → List Bool → State
  | 0, s, _ => s
  | fuel + 1, s, outs =>
    if s.scanStart.store.channel.isFree then s
    else State.scanTrailers fuel (s.scanStart.scanEnd outs).1 (s.scanStart.scanEnd outs).2

/-- The trailers waiting are programmed as far as the outcomes go; the first argument bounds the programs and erases. -/
def State.scanSome : Nat → State → List Bool → State
  | 0, s, _ => s
  | fuel + 1, s, outs =>
    if outs.isEmpty || s.scanStart.store.channel.isFree then s
    else State.scanSome fuel (s.scanStart.scanEnd outs).1 (s.scanStart.scanEnd outs).2

/-- The runs the scan finds unclosed. -/
def State.unclosed (s : State) : List Nat := unclosedRuns (s.store.flash.entries s.store.givenUp)

/-- The trailers of the unclosed runs are set out to be programmed (R113). -/
def State.queueTrailers (s : State) : State :=
  s.setStore { s.store with journalQueue := s.unclosed.map scanTrailer }

/-- Unclosed runs receive their ABANDONED trailers while the store is not DEGRADED (R113, R162). -/
def State.closeRuns (s : State) (outs : List Bool) : State :=
  if s.store.degraded then s
  else
    let s' := State.scanTrailers (8 * (s.unclosed.length + outs.length + 1)) s.queueTrailers outs
    s'.setStore { s'.store with journalQueue := [] }

/-- The comparison list rebuilt from the trailers, oldest first (R134). -/
def rebuildList (es : List JournalEntry) : List CloseRecord :=
  es.foldl (fun l e =>
    match e with
    | .trailer t => if t.result = .abandoned then l else joinList l { t with notStored := false }
    | _ => l) []

/-! ### The scan in order (R162, R192) -/

/-- Headers, LOG and RATING regions, and the journal's bounds (R162). -/
def State.scanStore (s : State) : State :=
  let f := s.store.flash
  let log := f.scanLog
  let bad := f.badBlocks
  s.setStore { s.store with
    bad := bad, degraded := degradedBy bad
    logCur := log.current, nextSeq := log.nextSeq
    firstSeq := if degradedBy bad then log.nextSeq else log.firstSeq
    journalCur := f.scanned .journal, ratingCur := f.scanned .rating }

/-- The clock loaded from the newest record when the mark was lost (R21). -/
def BackupDomain.restored (b : BackupDomain) (newest : Option LogRecord) : BackupDomain :=
  if b.held then
    { b with clock := match newest with
               | none => 0
               | some r => r.time + 1
             subSecond := 0, valid := true, held := false }
  else b

/-- The float reference pair restored from the newest SAMPLE record (R5). -/
def FloatChannel.restored (x : FloatChannel) (newestSample : Option LogRecord) : FloatChannel :=
  { x with refCount := 0, refStage := (newestSample.bind LogRecord.floatStage?).getD 0, origin := .restored }

/-- The level restored from the newest record, NORMAL when there is none (R88). -/
def restoredLevel (newest : Option LogRecord) : Level :=
  match newest with
  | none => .normal
  | some r => r.level

/-- What the scan hands to the other blocks (R5, R21, R50, R88, R89): `runId` is the newest run id it found. -/
def State.handOver (s : State) (log : LogScan) (runId : Nat) : State :=
  { s with
    backup := s.backup.restored log.newest
    floatCh := s.floatCh.restored log.newestSample
    warn := { s.warn with level := restoredLevel log.newest }
    rating := { s.rating with active := s.store.flash.newestImage }
    newestRunId := runId
    gaugings := rebuildList (s.store.flash.entries s.store.givenUp) }

/-- The newest run id in the journal as the scan finds it, before it appends a trailer (R113, R162). -/
def State.foundRunId (s : State) : Nat := newestHeaderId (s.store.flash.entries s.store.givenUp)

/-- The start-up scan (R162, R192). The newest run id is found first, so that it is that of the lost run also where a
trailer's place costs the block that held its header (R113). -/
def State.scan (s : State) (outs : List Bool) : State :=
  (s.scanStore.closeRuns outs).handOver s.store.flash.scanLog s.foundRunId

/-! ### A scan broken off (R192) -/

/-- The part as a scan of given outcomes has it: the programs and erases they belong to have ended, and the next one is under
way if `cut` says so (R192). -/
def State.scannedSoFar (s : State) (outs : List Bool) (cut : Bool) : State :=
  let s := State.scanSome outs.length s.scanStore.queueTrailers outs
  if cut then s.scanStart else s

/-- The part as the scan has it when STARTING is broken off; how far the scan had come is a free value (R192; log 14). A part
outside STARTING scans nothing, and a scan that finds the store DEGRADED programs nothing. -/
def State.scanBroken (s : State) : State :=
  if s.phase ≠ .starting ∨ s.scanStore.store.degraded then s
  else s.scannedSoFar (Config.scanEnded s.freeIndex) (Config.scanUnderWay s.freeIndex)

/-- POWER_LOSS (R138): RAM is lost, and a unit or block under way is left unknown; in STARTING flash is left as the scan
had it (R192). -/
def State.powerLoss (s : State) : State := if s.phase = .off then s else { s.scanBroken.cleared with phase := .off }

/-- RESET_PIN_ASSERT (R191): a powered part is held in reset; a scan in progress is broken off. -/
def State.resetAssert (s : State) : State :=
  if s.resetLow then s
  else if s.phase = .off then { s with resetLow := true }
  else { s.scanBroken.cleared with phase := .held, resetLow := true }

/-! ### Entry to READY (R193) -/

/-- A port's cursor and lost count at READY (R163). -/
def PortState.atReady (x : PortState) (next : Word32) : PortState := { x with cursor := next, lost := 0 }

/-- The cursors of the three ports set to next_seq (R163, R193). -/
def State.setCursors (s : State) : State :=
  let n := s.store.nextSeq
  { s with ports := { l := s.ports.l.atReady n, t := s.ports.t.atReady n, c := s.ports.c.atReady n } }

/-- The siren at READY: SOUNDING when the restored level is DANGER (R88). -/
def WarningUnit.atReady (w : WarningUnit) (now : Nat) : WarningUnit :=
  if w.level = .danger then { w with siren := .sounding, sirenStart := some now } else w

/-- The schedule at READY: the first sample time after the clock (R25). -/
def State.alignSchedule (s : State) : State :=
  { s with sched := { nextSample := nextSampleAfter s.interval s.backup.clock.toNat, lastSample := none,
                      lastUptime := none } }

/-- The erase-ahead of a region that the scan left due; on a region with no current block, that of its lowest
block when it is not ERASED (R162; log 23). -/
def State.askAhead (s : State) (r : Region) (cur : Option CurrentBlock) (purpose : ErasePurpose) : State :=
  match cur with
  | some c => s.nameTarget r c.block purpose
  | none =>
    match r.next s.store.bad none with
    | none => s
    | some b => if s.store.flash.headerOf b = .erased then s else s.requestErase ⟨b, purpose⟩

/-- The erases the scan left due are asked for, unless the store is DEGRADED (R151, R162). That LOG asks before JOURNAL
is the model's choice (log 54). -/
def State.askDue (s : State) : State :=
  if s.store.degraded then s
  else (s.askAhead .log s.store.logCur .logAhead).askAhead .journal s.store.journalCur .journalAhead

/-- STORE_FAULT follows STATION_RESTARTED when the store is DEGRADED (R184). -/
def State.raiseFault (s : State) : State := if s.store.degraded then s.raiseAll .storeFault else s

/-- The requests for the identity still waiting are replied once block 0 has been read (R189). -/
def State.replyIdents (s : State) : State := ((s.identDeferred .l).identDeferred .t).identDeferred .c

/-- What the entry to READY sets, after the scan (R193). -/
def State.enterReady (s : State) : State :=
  let s := { s.setCursors with phase := .ready, warn := s.warn.atReady s.uptime, identRead := true, startTicks := 0 }
  ((s.alignSchedule.askDue).raiseAll .stationRestarted).raiseFault

/-- READY_ENTRY (R193), ending STARTING: the scan, then the entry. -/
def State.readyEntry (s : State) (outs : List Bool) : State :=
  if s.phase = .starting then (s.replyIdents.scan outs).enterReady else s

/-! ### The meanings -/

/-- POWER_ON (R191). -/
def execPowerOn (s : State) : Host.Outcome State Fault Refusal := .next s.powerOn

/-- POWER_LOSS (R138). -/
def execPowerLoss (s : State) : Host.Outcome State Fault Refusal := .next s.powerLoss

/-- RESET_PIN_ASSERT (R191). -/
def execResetPinAssert (s : State) : Host.Outcome State Fault Refusal := .next s.resetAssert

/-- RESET_PIN_RELEASE (R191). -/
def execResetPinRelease (s : State) : Host.Outcome State Fault Refusal := .next s.resetRelease

/-- STATION_RESET_TAKES_EFFECT (R191). -/
def execStationResetTakesEffect (s : State) : Host.Outcome State Fault Refusal := .next s.stationResetEffect

/-- READY_ENTRY (R193). -/
def execReadyEntry (verifies : List Bool) (s : State) : Host.Outcome State Fault Refusal := .next (s.readyEntry verifies)

end Sys2Proof.Machine
end

