-- ==== Sys2Proof/Machine/Dispatch.lean ====
section
/-! DEFINITION. One arm per command, each a direct call of its meaning. -/

namespace Sys2Proof.Machine

/-- The effect of a command on everything but the queue. -/
def exec (i : Instr) (s : State) : Host.Outcome State Fault Refusal :=
  match i with
  | .powerOn => Sys2Proof.Machine.execPowerOn s
  | .powerLoss => Sys2Proof.Machine.execPowerLoss s
  | .resetPinAssert => Sys2Proof.Machine.execResetPinAssert s
  | .resetPinRelease => Sys2Proof.Machine.execResetPinRelease s
  | .stationResetTakesEffect => Sys2Proof.Machine.execStationResetTakesEffect s
  | .readyEntry verifies => Sys2Proof.Machine.execReadyEntry verifies s
  | .getIdentDeferredReply p => Sys2Proof.Machine.execGetIdentDeferredReply p s
  | .encoderTransition fa fb => Sys2Proof.Machine.execEncoderTransition fa fb s
  | .measurementComplete periodTotal => Sys2Proof.Machine.execMeasurementComplete periodTotal s
  | .measurementAbandoned => Sys2Proof.Machine.execMeasurementAbandoned s
  | .pressureNoSignal => Sys2Proof.Machine.execPressureNoSignal s
  | .scheduledSample => Sys2Proof.Machine.execScheduledSample s
  | .sirenTimerExpiry => Sys2Proof.Machine.execSirenTimerExpiry s
  | .sirenTestExpiry => Sys2Proof.Machine.execSirenTestExpiry s
  | .silenceTimerExpiry => Sys2Proof.Machine.execSilenceTimerExpiry s
  | .parkTimerExpiry => Sys2Proof.Machine.execParkTimerExpiry s
  | .meterClosure => Sys2Proof.Machine.execMeterClosure s
  | .observationComplete => Sys2Proof.Machine.execObservationComplete s
  | .trailerHandover => Sys2Proof.Machine.execTrailerHandover s
  | .appendGrant => Sys2Proof.Machine.execAppendGrant s
  | .journalGrant => Sys2Proof.Machine.execJournalGrant s
  | .ratingImageGrant => Sys2Proof.Machine.execRatingImageGrant s
  | .configSaveGrant => Sys2Proof.Machine.execConfigSaveGrant s
  | .identWriteGrant => Sys2Proof.Machine.execIdentWriteGrant s
  | .unitProgramComplete headerOk unitOk => Sys2Proof.Machine.execUnitProgramComplete headerOk unitOk s
  | .eraseAheadStart => Sys2Proof.Machine.execEraseAheadStart s
  | .blockRetire => Sys2Proof.Machine.execBlockRetire s
  | .eraseLogBlockErase => Sys2Proof.Machine.execEraseLogBlockErase s
  | .eraseSuspend => Sys2Proof.Machine.execEraseSuspend s
  | .eraseComplete ok badHeaderOk => Sys2Proof.Machine.execEraseComplete ok badHeaderOk s
  | .readLogGrant => Sys2Proof.Machine.execReadLogGrant s
  | .seekLogStep => Sys2Proof.Machine.execSeekLogStep s
  | .readJournalGrant => Sys2Proof.Machine.execReadJournalGrant s
  | .frameDiscard p f => Sys2Proof.Machine.execFrameDiscard p f s
  | .frameGapTimeout bytes => Sys2Proof.Machine.execFrameGapTimeout bytes s
  | .requestOverrun p code payload => Sys2Proof.Machine.execRequestOverrun p code payload s
  | .unknownCommand p code payload => Sys2Proof.Machine.execUnknownCommand p code payload s
  | .fetch p bytes => Sys2Proof.Machine.execFetch p bytes s
  | .replyTransmitStart => Sys2Proof.Machine.execReplyTransmitStart s
  | .replyTransmitDone => Sys2Proof.Machine.execReplyTransmitDone s
  | .portCBreak => Sys2Proof.Machine.execPortCBreak s
  | .portcDividerLoad => Sys2Proof.Machine.execPortcDividerLoad s
  | .getIdent p payload => Sys2Proof.Machine.execGetIdent p payload s
  | .getTime p payload => Sys2Proof.Machine.execGetTime p payload s
  | .setTime p payload => Sys2Proof.Machine.execSetTime p payload s
  | .linkReset p payload => Sys2Proof.Machine.execLinkReset p payload s
  | .stationReset p payload => Sys2Proof.Machine.execStationReset p payload s
  | .fetchEvents p payload => Sys2Proof.Machine.execFetchEvents p payload s
  | .setEventGroups p payload => Sys2Proof.Machine.execSetEventGroups p payload s
  | .getStage p payload => Sys2Proof.Machine.execGetStage p payload s
  | .readSources p payload => Sys2Proof.Machine.execReadSources p payload s
  | .setReference p payload => Sys2Proof.Machine.execSetReference p payload s
  | .selectSource p payload => Sys2Proof.Machine.execSelectSource p payload s
  | .requestSample p payload => Sys2Proof.Machine.execRequestSample p payload s
  | .getRating p payload => Sys2Proof.Machine.execGetRating p payload s
  | .queryDischarge p payload => Sys2Proof.Machine.execQueryDischarge p payload s
  | .draftBegin p payload => Sys2Proof.Machine.execDraftBegin p payload s
  | .draftPutPoints p payload => Sys2Proof.Machine.execDraftPutPoints p payload s
  | .draftTruncate p payload => Sys2Proof.Machine.execDraftTruncate p payload s
  | .draftPutShift p payload => Sys2Proof.Machine.execDraftPutShift p payload s
  | .draftSetExtension p payload => Sys2Proof.Machine.execDraftSetExtension p payload s
  | .draftActivate p payload => Sys2Proof.Machine.execDraftActivate p payload s
  | .draftDiscard p payload => Sys2Proof.Machine.execDraftDiscard p payload s
  | .getWarning p payload => Sys2Proof.Machine.execGetWarning p payload s
  | .ackSiren p payload => Sys2Proof.Machine.execAckSiren p payload s
  | .testSiren p payload => Sys2Proof.Machine.execTestSiren p payload s
  | .runOpen p payload => Sys2Proof.Machine.execRunOpen p payload s
  | .verticalBegin p payload => Sys2Proof.Machine.execVerticalBegin p payload s
  | .pointStart p payload => Sys2Proof.Machine.execPointStart p payload s
  | .verticalEnd p payload => Sys2Proof.Machine.execVerticalEnd p payload s
  | .verticalCancel p payload => Sys2Proof.Machine.execVerticalCancel p payload s
  | .verticalRemove p payload => Sys2Proof.Machine.execVerticalRemove p payload s
  | .runClose p payload => Sys2Proof.Machine.execRunClose p payload s
  | .runAbandon p payload => Sys2Proof.Machine.execRunAbandon p payload s
  | .runResume p payload => Sys2Proof.Machine.execRunResume p payload s
  | .runStatus p payload => Sys2Proof.Machine.execRunStatus p payload s
  | .getVertical p payload => Sys2Proof.Machine.execGetVertical p payload s
  | .getGaugings p payload => Sys2Proof.Machine.execGetGaugings p payload s
  | .readLog p payload => Sys2Proof.Machine.execReadLog p payload s
  | .seekLog p payload => Sys2Proof.Machine.execSeekLog p payload s
  | .storeStatus p payload => Sys2Proof.Machine.execStoreStatus p payload s
  | .readJournal p payload => Sys2Proof.Machine.execReadJournal p payload s
  | .eraseLog p payload => Sys2Proof.Machine.execEraseLog p payload s
  | .getConfig p payload => Sys2Proof.Machine.execGetConfig p payload s
  | .setConfig p payload => Sys2Proof.Machine.execSetConfig p payload s
  | .saveConfig p payload => Sys2Proof.Machine.execSaveConfig p payload s
  | .setPermissions p payload maintClosed => Sys2Proof.Machine.execSetPermissions p payload maintClosed s
  | .writeIdent p payload maintClosed => Sys2Proof.Machine.execWriteIdent p payload maintClosed s
  | .stationClockAdvance => Sys2Proof.Machine.execStationClockAdvance s
  | .backupStoreExhausted => Sys2Proof.Machine.execBackupStoreExhausted s
  | .portCLineReturnsHigh => Sys2Proof.Machine.execPortCLineReturnsHigh s

end Sys2Proof.Machine
end

