-- ==== Sys2Proof/Machine/Idle.lean ====
section
/-! DEFINITION. What the part does when no command waits (log 1): the step that is due of itself, or one
capture tick of time. -/

namespace Sys2Proof.Machine

/-! ### What is due -/

/-- Whether the divider in force is other than the live items (R172). -/
def State.dividerStale (s : State) : Bool :=
  decide ((s.cfg.get .portcDiv).toNat ≠ s.lineC.div) || decide ((s.cfg.get .portcFrac).toNat ≠ s.lineC.frac)

/-- The grant of a waiting read, by its kind (R146). -/
def ReadKind.row : ReadKind → Instr
  | .readLog _ => .readLogGrant
  | .seekLog _ _ => .seekLogStep
  | .readJournal _ _ => .readJournalGrant

/-- The grant of class-4 work, by its kind (R146). -/
def Class4.row : Class4 → Instr
  | .image _ _ _ _ => .ratingImageGrant
  | .save _ _ _ _ _ => .configSaveGrant
  | .ident _ _ _ => .identWriteGrant

/-- The start of an erase, by its purpose (R146). -/
def ErasePurpose.row : ErasePurpose → Option Instr
  | .logAhead => some .eraseAheadStart
  | .journalAhead => some .eraseAheadStart
  | .retire => some .blockRetire
  | .eraseLog => some .eraseLogBlockErase
  | .image => none
  | .save => none

/-- The arbiter's grant as a command (R146). -/
def State.grantRow (s : State) : Option Instr :=
  match s.arbiter with
  | none => none
  | some .read => s.store.nextRead.map fun r => r.kind.row
  | some .append => some .appendGrant
  | some .journal => some .journalGrant
  | some .work => s.store.class4.head?.map Class4.row
  | some .erase => s.store.erases.head?.bind fun q => q.purpose.row

/-- The capture ticks STARTING lasts at most (R192). -/
def startLimit : Nat := 200000

/-- Whether STARTING has lasted its limit. -/
def State.startOver (s : State) : Bool := decide (s.phase = .starting) && decide (startLimit ≤ s.startTicks)

/-- Whether the station clock counts (R20, R21). -/
def State.clockCounts (s : State) : Bool := !(decide (s.phase = .off) && !s.backup.valid) && !s.backup.held

/-- Whether the station clock's second has run (R20). -/
def State.clockDue (s : State) : Bool := s.clockCounts && decide (s.backup.second ≤ s.backup.subSecond)

/-- The command of the first of some conditions that holds. -/
def firstDue : List (Bool × Instr) → Option Instr
  | [] => none
  | (b, i) :: rest => if b then some i else firstDue rest

/-- The steps due at this moment but those of the channel, in the order the model takes them (log 1). -/
def State.ownDue (s : State) : Option Instr :=
  firstDue
    [(s.resetDue, .stationResetTakesEffect), (s.identWaits .l, .getIdentDeferredReply .l),
     (s.identWaits .t, .getIdentDeferredReply .t), (s.identWaits .c, .getIdentDeferredReply .c),
     (s.sampleDue, .scheduledSample), (s.observationDue, .observationComplete), (s.sirenDue, .sirenTimerExpiry),
     (s.testDue, .sirenTestExpiry), (s.silenceDue, .silenceTimerExpiry), (s.parkDue, .parkTimerExpiry),
     (s.signalLost, .pressureNoSignal), (s.handoverDue, .trailerHandover),
     (s.lineIdle && s.dividerStale, .portcDividerLoad), (s.transmitted, .replyTransmitDone),
     (s.transmitDue, .replyTransmitStart), (s.suspendDue, .eraseSuspend)]

/-- The steps due after the channel's. -/
def State.lateDue (s : State) : Option Instr :=
  firstDue [(s.startOver && s.unclosed.isEmpty, .readyEntry []), (s.clockDue, .stationClockAdvance)]

/-- The step due of itself, if any (log 1). -/
def State.dueEvent (s : State) : Option Instr := (s.ownDue.or s.grantRow).or s.lateDue

/-! ### A capture tick (R22, R23) -/

/-- The most ticks a unit program takes (R138). -/
def programLimit : Nat := 200

/-- The most ticks a block erase runs (R138). -/
def eraseLimit : Nat := 40000

/-- Whether an operation of the channel has reached its limit, so that only its end can come next (log 6). A grant that
programs a header and a unit is bounded by 2 ms in all (log 50). -/
def Channel.atLimit : Channel → Bool
  | .free => false
  | .searched _ => false
  | .programming _ elapsed => decide (programLimit ≤ elapsed)
  | .erasing j => !j.suspended && decide (eraseLimit ≤ j.ran)

/-- Whether time waits for an end that is the world's to give (log 6). -/
def State.timeBlocked (s : State) : Bool := s.store.channel.atLimit || s.startOver

/-- The channel after a tick: an erase that is suspended does not run (R147). -/
def Channel.ticked : Channel → Channel
  | .free => .free
  | .searched ps => .searched ps
  | .programming j elapsed => .programming j (elapsed + 1)
  | .erasing j => .erasing (if j.suspended then j else { j with ran := j.ran + 1, since := j.since + 1 })

/-- The station clock's phase after a tick (R20). -/
def State.phaseTicked (s : State) : BackupDomain :=
  if s.clockCounts then { s.backup with subSecond := s.backup.subSecond + 10000000 } else s.backup

/-- The greatest uptime, where it holds (R22). -/
def uptimeLimit : Nat := 4294967295

/-- Uptime after a tick: a second is 100,000 ticks (R22). -/
def State.uptimeTicked (s : State) : Nat × Nat :=
  if s.uptimeSub + 1 < 100000 then (s.uptime, s.uptimeSub + 1) else (saturate uptimeLimit (s.uptime + 1), 0)

/-- One capture tick of a part without supply: the backup domain alone counts (R20). -/
def State.offTick (s : State) : State := { s with backup := s.phaseTicked }

/-- The timer limits after a tick: a new uptime second finds those of the live configuration (R81, R105, R108). -/
def State.limitsTicked (s : State) : TimerLimits :=
  if s.uptimeSub + 1 < 100000 then s.limits else s.cfg.timerLimits

/-- Port C's line after a tick: a reply being sent, or the last character of one broken off, goes on (R174, R175). -/
def LineC.ticked (x : LineC) : LineC :=
  { x with txTicks := if x.tx.isSome then x.txTicks + 1 else x.txTicks, charLeft := x.charLeft - 1 }

/-- One capture tick of a powered part (R22, R23), the port flags byte of port C apart. -/
def State.counted (s : State) : State :=
  { s with
    backup := s.phaseTicked
    uptime := s.uptimeTicked.1
    uptimeSub := s.uptimeTicked.2
    limits := s.limitsTicked
    ticks := s.ticks + 1
    startTicks := if s.phase = .starting then s.startTicks + 1 else s.startTicks
    lineC := s.lineC.ticked
    resetReq := s.resetReq.map fun r => { r with age := r.age + 1 }
    store := { s.store with channel := s.store.channel.ticked } }

/-- One capture tick of a powered part, in which port C may begin or end its port flags byte (R167, R174). -/
def State.onTick (s : State) : State := s.counted.lineTicked

/-- One capture tick. -/
def State.tick (s : State) : State := if s.phase = .off then s.offTick else s.onTick

/-- What passes on an empty queue when nothing is due: a tick, unless time waits (log 1, log 6). -/
def State.rest (s : State) : State := if s.timeBlocked then s else s.tick

end Sys2Proof.Machine
end

