-- ==== Sys2Proof/Machine/Step.lean ====
section
/-! DEFINITION. The step: the command at the front of the queue, or what passes while none waits. -/

namespace Sys2Proof.Machine

/-- What a step does on an empty queue: the step due of itself, or a capture tick (log 1). -/
def idle (s : State) : Host.Outcome State Fault Refusal :=
  match s.dueEvent with
  | some i => exec i s
  | none => .next s.rest

/-- One step: the front of the queue is taken and run with the rest of the queue. -/
def step (s : State) : Host.Outcome State Fault Refusal :=
  match s.pending with
  | i :: rest => exec i { s with pending := rest }
  | [] => idle s

/-- The state with the command a word spells put at the front of the queue (log 39). -/
def State.withFetchWord (s : State) (nbits w : Nat) : State :=
  match decodeTableWord nbits w with
  | some i => { s with pending := i :: s.pending }
  | none => s

end Sys2Proof.Machine
end

