-- ==== Sys2Proof/WellFormed.lean ====
section
/-! DEFINITION. Which commands the world can send: operands that a frame, a pin or an event can carry. `exec`
is total and gives the ill-formed ones a meaning too: most leave the state as it stands. -/

namespace Sys2Proof

/-- Whether a payload fits a frame (R164). -/
def payloadFits (payload : List Byte) : Bool := decide (payload.length ≤ Machine.maxPayload)

/-- Whether a command is one the world can send. -/
def Instr.wellFormed : Instr → Bool
  | .powerOn => true
  | .powerLoss => true
  | .resetPinAssert => true
  | .resetPinRelease => true
  | .stationResetTakesEffect => true
  | .readyEntry _ => true
  | .getIdentDeferredReply _ => true
  | .encoderTransition _ _ => true
  | .measurementComplete total => decide (1 ≤ total) && decide (total ≤ 16000000)
  | .measurementAbandoned => true
  | .pressureNoSignal => true
  | .scheduledSample => true
  | .sirenTimerExpiry => true
  | .sirenTestExpiry => true
  | .silenceTimerExpiry => true
  | .parkTimerExpiry => true
  | .meterClosure => true
  | .observationComplete => true
  | .trailerHandover => true
  | .appendGrant => true
  | .journalGrant => true
  | .ratingImageGrant => true
  | .configSaveGrant => true
  | .identWriteGrant => true
  | .unitProgramComplete _ _ => true
  | .eraseAheadStart => true
  | .blockRetire => true
  | .eraseLogBlockErase => true
  | .eraseSuspend => true
  | .eraseComplete _ _ => true
  | .readLogGrant => true
  | .seekLogStep => true
  | .readJournalGrant => true
  | .frameDiscard p f => f.isDiscarded p
  | .frameGapTimeout bytes => Machine.frameUnderWay bytes
  | .requestOverrun _ code payload => payloadFits payload && decide (code ≠ 0x04#8)
  | .unknownCommand _ code payload => payloadFits payload && decide (Machine.codeClass code.toNat = .unknown)
  | .fetch p _ => p.isSpi
  | .replyTransmitStart => true
  | .replyTransmitDone => true
  | .portCBreak => true
  | .portcDividerLoad => true
  | .getIdent _ payload => payloadFits payload
  | .getTime _ payload => payloadFits payload
  | .setTime _ payload => payloadFits payload
  | .linkReset _ payload => payloadFits payload
  | .stationReset _ payload => payloadFits payload
  | .fetchEvents _ payload => payloadFits payload
  | .setEventGroups _ payload => payloadFits payload
  | .getStage _ payload => payloadFits payload
  | .readSources _ payload => payloadFits payload
  | .setReference _ payload => payloadFits payload
  | .selectSource _ payload => payloadFits payload
  | .requestSample _ payload => payloadFits payload
  | .getRating _ payload => payloadFits payload
  | .queryDischarge _ payload => payloadFits payload
  | .draftBegin _ payload => payloadFits payload
  | .draftPutPoints _ payload => payloadFits payload
  | .draftTruncate _ payload => payloadFits payload
  | .draftPutShift _ payload => payloadFits payload
  | .draftSetExtension _ payload => payloadFits payload
  | .draftActivate _ payload => payloadFits payload
  | .draftDiscard _ payload => payloadFits payload
  | .getWarning _ payload => payloadFits payload
  | .ackSiren _ payload => payloadFits payload
  | .testSiren _ payload => payloadFits payload
  | .runOpen _ payload => payloadFits payload
  | .verticalBegin _ payload => payloadFits payload
  | .pointStart _ payload => payloadFits payload
  | .verticalEnd _ payload => payloadFits payload
  | .verticalCancel _ payload => payloadFits payload
  | .verticalRemove _ payload => payloadFits payload
  | .runClose _ payload => payloadFits payload
  | .runAbandon _ payload => payloadFits payload
  | .runResume _ payload => payloadFits payload
  | .runStatus _ payload => payloadFits payload
  | .getVertical _ payload => payloadFits payload
  | .getGaugings _ payload => payloadFits payload
  | .readLog _ payload => payloadFits payload
  | .seekLog _ payload => payloadFits payload
  | .storeStatus _ payload => payloadFits payload
  | .readJournal _ payload => payloadFits payload
  | .eraseLog _ payload => payloadFits payload
  | .getConfig _ payload => payloadFits payload
  | .setConfig _ payload => payloadFits payload
  | .saveConfig _ payload => payloadFits payload
  | .setPermissions _ payload _ => payloadFits payload
  | .writeIdent _ payload _ => payloadFits payload
  | .stationClockAdvance => true
  | .backupStoreExhausted => true
  | .portCLineReturnsHigh => true

end Sys2Proof
end

