-- ==== Sys2Proof/Safety.lean ====
section
/-! DEFINITION. What counts as a safe outcome, the words claims use for a request and its reply, and the
invariants of the machine. -/

namespace Sys2Proof.Machine

/-- An outcome in which the part goes on. -/
def goesOn (o : Host.Outcome State Fault Refusal) : Prop := ∃ t, o = .next t

/-! ### Requests and replies -/

/-- What a request command carries: the port it arrives on, its code (spec/09, Command codes), its payload. -/
structure Request where
  port : Port
  code : Byte
  payload : List Byte
  deriving DecidableEq, Repr

/-- The request a command is, if it is one of the 46 of the command table (spec/09, Command codes). -/
def requestOf : Instr → Option Request
  | .getIdent p pl => some ⟨p, 0x01#8, pl⟩
  | .getTime p pl => some ⟨p, 0x02#8, pl⟩
  | .setTime p pl => some ⟨p, 0x03#8, pl⟩
  | .linkReset p pl => some ⟨p, 0x04#8, pl⟩
  | .stationReset p pl => some ⟨p, 0x05#8, pl⟩
  | .fetchEvents p pl => some ⟨p, 0x06#8, pl⟩
  | .setEventGroups p pl => some ⟨p, 0x07#8, pl⟩
  | .getStage p pl => some ⟨p, 0x10#8, pl⟩
  | .readSources p pl => some ⟨p, 0x11#8, pl⟩
  | .setReference p pl => some ⟨p, 0x12#8, pl⟩
  | .selectSource p pl => some ⟨p, 0x13#8, pl⟩
  | .requestSample p pl => some ⟨p, 0x14#8, pl⟩
  | .getRating p pl => some ⟨p, 0x20#8, pl⟩
  | .queryDischarge p pl => some ⟨p, 0x21#8, pl⟩
  | .draftBegin p pl => some ⟨p, 0x22#8, pl⟩
  | .draftPutPoints p pl => some ⟨p, 0x23#8, pl⟩
  | .draftTruncate p pl => some ⟨p, 0x24#8, pl⟩
  | .draftPutShift p pl => some ⟨p, 0x25#8, pl⟩
  | .draftSetExtension p pl => some ⟨p, 0x26#8, pl⟩
  | .draftActivate p pl => some ⟨p, 0x27#8, pl⟩
  | .draftDiscard p pl => some ⟨p, 0x28#8, pl⟩
  | .getWarning p pl => some ⟨p, 0x30#8, pl⟩
  | .ackSiren p pl => some ⟨p, 0x31#8, pl⟩
  | .testSiren p pl => some ⟨p, 0x32#8, pl⟩
  | .runOpen p pl => some ⟨p, 0x40#8, pl⟩
  | .verticalBegin p pl => some ⟨p, 0x41#8, pl⟩
  | .pointStart p pl => some ⟨p, 0x42#8, pl⟩
  | .verticalEnd p pl => some ⟨p, 0x43#8, pl⟩
  | .verticalCancel p pl => some ⟨p, 0x44#8, pl⟩
  | .verticalRemove p pl => some ⟨p, 0x45#8, pl⟩
  | .runClose p pl => some ⟨p, 0x46#8, pl⟩
  | .runAbandon p pl => some ⟨p, 0x47#8, pl⟩
  | .runResume p pl => some ⟨p, 0x48#8, pl⟩
  | .runStatus p pl => some ⟨p, 0x49#8, pl⟩
  | .getVertical p pl => some ⟨p, 0x4A#8, pl⟩
  | .getGaugings p pl => some ⟨p, 0x4B#8, pl⟩
  | .readLog p pl => some ⟨p, 0x50#8, pl⟩
  | .seekLog p pl => some ⟨p, 0x51#8, pl⟩
  | .storeStatus p pl => some ⟨p, 0x52#8, pl⟩
  | .readJournal p pl => some ⟨p, 0x53#8, pl⟩
  | .eraseLog p pl => some ⟨p, 0x54#8, pl⟩
  | .getConfig p pl => some ⟨p, 0x60#8, pl⟩
  | .setConfig p pl => some ⟨p, 0x61#8, pl⟩
  | .saveConfig p pl => some ⟨p, 0x62#8, pl⟩
  | .setPermissions p pl _ => some ⟨p, 0x63#8, pl⟩
  | .writeIdent p pl _ => some ⟨p, 0x64#8, pl⟩
  | _ => none

/-- The state with the MAINT contact at the level the command finds (R179, R190); the others do not sample it. -/
def sampledMaint : Instr → State → State
  | .setPermissions _ _ b, s => s.withMaint b
  | .writeIdent _ _ b, s => s.withMaint b
  | _, s => s

/-- A request of a code reaches the block that owns it: the port hears, its slot is free, the payload fits a
frame and R169's steps pass. -/
def State.takes (s : State) (p : Port) (code : Byte) (payload : List Byte) : Bool :=
  !s.deaf p && payloadFits payload && !s.slotBusy p && (s.admission p code).isNone

/-- Whether a payload has the length the command of a code defines (the rules of chapters 1 to 11). -/
def payloadLengthFits (code : Byte) (n : Nat) : Bool :=
  match code.toNat with
  | 0x03 => n == 4
  | 0x07 => n == 1
  | 0x12 => n == 3
  | 0x13 => n == 1
  | 0x20 => n == 2
  | 0x21 => n == 6
  | 0x22 => n == 1
  | 0x23 => n % 6 == 1 && decide (7 ≤ n) && decide (n ≤ 121)
  | 0x24 => n == 1
  | 0x25 => n == 7
  | 0x26 => n == 2
  | 0x40 => n == 34
  | 0x41 => n == 9
  | 0x42 => n == 2
  | 0x45 => n == 4
  | 0x4A => n == 4
  | 0x4B => n == 1
  | 0x50 => n == 1
  | 0x51 => n == 4
  | 0x53 => n == 3
  | 0x60 => n == 1
  | 0x61 => n == 5
  | 0x63 => n == 2
  | 0x64 => n == 16
  | _ => n == 0

/-- The state with a reply of a status and payload in a port's reply slot and its request slot empty (R168). -/
def State.answered (s : State) (p : Port) (code : Byte) (status : Status) (payload : List Byte) : State :=
  s.setPort p { s.port p with request := none, reply := some ⟨status, code, payload, false⟩ }

/-- The state with a request in a port's slot and its reply still to come (R168). -/
def State.serving (s : State) (p : Port) (code : Byte) : State :=
  s.setPort p { s.port p with request := some code, reply := none }

/-- A kind is pending on every port whose group enable is set (R180). -/
def State.pendingWhereEnabled (s : State) (k : EventKind) : Prop :=
  ∀ p, (s.port p).enables.getLsbD k.group.bit = true → ∃ e ∈ (s.port p).events, e.kind = k

/-- What a composed sample carries of the channels and of the rating (R7, R13, R14, R35, R43, R67): stage and quality of both
channels under the configuration in force from this sample on, the stage of its source, no rate without a stage, and the
discharge, flags and id of the ACTIVE set. -/
def carriesStageAndDischarge (s t : State) (c : ComposedSample) : Prop :=
  c.sample.floatStage = s.loadChannels.floatCh.stage ∧
    c.sample.floatQuality = { s.loadChannels.floatCh with stallMark := t.floatCh.stallMark }.quality ∧
    c.sample.pressStage = s.loadChannels.pressCh.stage ∧
    c.sample.pressQuality = s.loadChannels.pressCh.quality s.uptime ∧
    c.sample.stage = (match c.sample.source with
      | .none => none
      | .float => some c.sample.floatStage
      | .pressure => some c.sample.pressStage) ∧
    (c.sample.stage = none → c.sample.rate = none ∧ c.discharge = none ∧ c.ratingFlags = noRatingFlags) ∧
    (s.rating.active = none → c.discharge = none ∧ c.ratingFlags = noRatingFlags ∧ c.ratingId = 0) ∧
    (∀ r, s.rating.active = some r → c.ratingId = r.id ∧ ∀ h, c.sample.stage = some h →
      c.discharge = some (r.rate h s.backup.clock).1 ∧ c.ratingFlags = (r.rate h s.backup.clock).2)

/-- A run has the accumulators of another (R109). -/
def Run.keepsStages (r r' : Run) : Prop :=
  r'.stageSum = r.stageSum ∧ r'.stageCount = r.stageCount ∧ r'.stageLeast = r.stageLeast ∧
    r'.stageGreatest = r.stageGreatest

/-- A run has the accumulators of another with a stage joined (R109). -/
def Run.joinsStage (r r' : Run) (h : Int) : Prop :=
  r'.stageSum = r.stageSum + h ∧ r'.stageCount = r.stageCount + 1 ∧
    (r.stageCount = 0 → r'.stageLeast = h ∧ r'.stageGreatest = h) ∧
    (r.stageCount ≠ 0 → r'.stageLeast = min r.stageLeast h ∧ r'.stageGreatest = max r.stageGreatest h)

/-- What a sample does to the run (R42, R79, R104, R109): its stage joins the accumulators of a run that it leaves OPEN or
OBSERVING and of no other, but for one parked by this sample's own rise, whose park may come before or after (log 9); an
active run parks at a switch of source, if its mask says so, or at a rise above run_limit, and for no other reason. -/
def stageJoins (s t : State) (c : ComposedSample) : Prop :=
  (s.run = none → t.run = none) ∧
    ∀ r, s.run = some r → ∃ r', t.run = some r' ∧ r'.id = r.id ∧ r'.table = r.table ∧
      let rise := s.warn.level.rank < t.warn.level.rank ∧ s.cfg.get .runLimit < (t.warn.level.rank : Int)
      let switch := s.sel.current ≠ none ∧ s.sel.current ≠ some c.sample.source ∧ r.desc.sourceSwitch = true
      (r.active = false → r' = r) ∧
      (c.sample.stage = none → r.keepsStages r') ∧
      (r.active = true →
        (r'.active = false ↔ switch ∨ rise) ∧
        (switch → r.keepsStages r' ∧ r'.parkReason = some .sourceSwitch) ∧
        (¬switch → rise → r'.parkReason = some .level) ∧
        ∀ h, c.sample.stage = some h → ¬switch →
          (¬rise → r.joinsStage r' h) ∧ (rise → r.keepsStages r' ∨ r.joinsStage r' h))

/-- A sample reaches the warning unit (R44, R78): the unit is left as the evaluation of the composed sample leaves it, and
what it raises is pending. -/
def sampleIsEvaluated (s t : State) (c : ComposedSample) : Prop :=
  t.warn = (s.evaluate c.sample).warn ∧
    (t.warn.level ≠ s.warn.level → t.pendingWhereEnabled .levelChanged) ∧
    (s.warn.fault = false → t.warn.fault = true → t.pendingWhereEnabled .stageLost)

/-- What a sample leaves (R2, R25, R31, R43, R44, R78, R109, R141, R142, R151): the composed sample, the schedule's times, a
new phase-error interval, the warning unit after its evaluation, the run with its stage, and its record in the buffer, the
dropped count, or in DEGRADED the ring; flash, configuration, rating, clock and gaugings stay. -/
def sampleLeaves (s t : State) (c : ComposedSample) (extra : Bool) : Prop :=
  t.sel.newest = some c ∧ c.sample.time = s.backup.clock ∧ c.sample.uptime = s.uptime ∧ c.sample.extra = extra ∧
    c.sample.unset = s.backup.unset ∧ c.level = t.warn.level ∧ c.fault = t.warn.fault ∧
    t.sel.current = some c.sample.source ∧ carriesStageAndDischarge s t c ∧ t.floatCh.phaseErrors = 0 ∧
    sampleIsEvaluated s t c ∧ stageJoins s t c ∧
    t.sched.lastSample = some s.backup.clock ∧ t.sched.lastUptime = some s.uptime ∧
    (s.store.degraded = false → s.store.buffer.length < bufferLimit →
      t.store = { s.store with
        buffer := s.store.buffer ++ [⟨s.store.nextSeq, s.store.dropped, .sample c⟩]
        nextSeq := s.store.nextSeq + 1
        dropped := 0 }) ∧
    (s.store.degraded = false → bufferLimit ≤ s.store.buffer.length →
      t.store = { s.store with dropped := saturate 255 (s.store.dropped + 1) }) ∧
    (s.store.degraded = true → s.store.buffer.length < bufferLimit →
      t.store = { s.store with
        buffer := s.store.buffer ++ [⟨s.store.nextSeq, 0, .sample c⟩]
        nextSeq := s.store.nextSeq + 1 }) ∧
    (∀ r rest, s.store.degraded = true → s.store.buffer = r :: rest → bufferLimit ≤ s.store.buffer.length →
      t.store = { s.store with
        buffer := rest ++ [⟨s.store.nextSeq, 0, .sample c⟩]
        firstSeq := r.seq + 1
        nextSeq := s.store.nextSeq + 1 }) ∧
    t.store.flash = s.store.flash ∧ t.cfg = s.cfg ∧ t.rating = s.rating ∧ t.backup = s.backup ∧
    t.gaugings = s.gaugings ∧ t.uptime = s.uptime ∧ t.ticks = s.ticks ∧ t.phase = s.phase

/-- A port reset of port C finds a run to park (R107). -/
def State.parksAtReset (s : State) (p : Port) : Bool :=
  match s.run with
  | none => false
  | some r => decide (p = .c) && r.active

/-- What a port reset leaves, but for the port's request and reply (R64, R107, R177, R191): its flags, buffer and events are
gone and its groups all enabled, the cursor and lost count stay; on port C the park of an active run stands pending, the
transmission stops after the character on the line, which keeps the line for its whole ticks (log 41), and the divider in
force stays; the draft it owned is dropped or released, what it had in service runs on without it, and a reset it asked for
is due; the other ports keep all but the park's event, and all else in the state stays as it is. The field `sent` is the
model's own record of the bytes sent (log 16). -/
def portResetLeaves (p : Port) (s t : State) : Prop :=
  t = { s with
      run := t.run, meter := t.meter, rating := t.rating, store := t.store, ports := t.ports, lineC := t.lineC
      resetReq := t.resetReq } ∧
    (t.port p).frameError = false ∧ (t.port p).overrun = false ∧ (t.port p).frameAgain = false ∧
    (t.port p).overrunAgain = false ∧ (t.port p).rx = [] ∧ (t.port p).enables = 0x1F#5 ∧
    (t.port p).cursor = (s.port p).cursor ∧ (t.port p).lost = (s.port p).lost ∧
    (t.port p).events = (if s.parksAtReset p ∧ s.phase = .ready
      then [⟨.runParked, s.backup.clock, 1⟩, ⟨.recall, s.backup.clock, 1⟩] else []) ∧
    (∀ q, q ≠ p → t.port q = if s.parksAtReset p ∧ s.phase = .ready ∧ (s.port q).enables.getLsbD Group.run.bit = true
      then { s.port q with events := addEvent s.backup.clock .runParked (s.port q).events } else s.port q) ∧
    (p = .c → t.lineC.tx = none ∧ t.lineC.div = s.lineC.div ∧ t.lineC.frac = s.lineC.frac ∧
      t.ports.c.sent = (if s.lineC.tx = none then s.ports.c.sent else s.ports.c.sent.take s.lineC.charsBegun) ∧
      t.lineC.charLeft = (match s.lineC.tx with
        | none => s.lineC.charLeft
        | some r => s.lineC.charTicks (min s.lineC.charsBegun (r.payload.length + 7)) - s.lineC.txTicks)) ∧
    (p ≠ .c → t.lineC = s.lineC) ∧
    (∀ r, s.run = some r → s.parksAtReset p = true → t.run = some { r.leave p with
      state := .parked, obs := none, parkReason := some .linkReset, parkUptime := some s.uptime, silenceStart := none }) ∧
    (s.parksAtReset p = false → t.run = s.run.map (Run.leave p)) ∧
    t.meter = (if s.parksAtReset p then { s.meter with counting := false } else s.meter) ∧
    t.rating = { s.rating with
      draft := match s.rating.draft with
        | .editing q d => if q = p then .empty else .editing q d
        | .activating q => if q = p then .empty else .activating q
        | d => d
      inFlight := s.rating.inFlight.map fun f => { f with
        owner := if s.rating.draft = .activating p then none else f.owner
        replyTo := if f.replyTo = some p then none else f.replyTo } } ∧
    t.store = { s.store with
      reads := s.store.reads.map (WaitingRead.leave p)
      class4 := s.store.class4.map (Class4.leave p) } ∧
    t.resetReq = s.resetReq.map (fun r => if r.port = p then { r with due := true } else r)

/-- What a reset or a loss of supply leaves of what RAM holds (R191 and the chapters' tables of state after resets), the
flash array, the pins, the backup domain, uptime, ticks, the live configuration and the copies in force apart; of a part
that is off or held in reset the model's choice (log 32). -/
def ramLost (s t : State) : Prop :=
  t.run = none ∧ t.gaugings = [] ∧ t.window = [] ∧ t.rating = ⟨none, .empty, none⟩ ∧ t.meter = .fresh ∧
    t.sel.newest = none ∧ t.sel.current = none ∧ t.sel.history = [] ∧ t.floatCh.count = 0 ∧
    t.floatCh.phaseErrors = 0 ∧ t.floatCh.stallMark = false ∧ t.floatCh.prevPair = none ∧
    t.pressCh.newest = none ∧ t.warn.siren = .off ∧ t.warn.clearSince = none ∧ t.warn.fault = false ∧
    t.warn.computed = none ∧ t.warn.lastChange = none ∧ t.store.buffer = [] ∧ t.store.dropped = 0 ∧
    t.store.journalQueue = [] ∧ t.store.class4 = [] ∧ t.store.erases = [] ∧ t.store.reads = [] ∧
    t.store.channel = .free ∧ t.store.robin = .l ∧ t.ports = .fresh ∧ t.resetReq = none ∧ t.lineC.tx = none ∧
    t.factorySerial = s.factorySerial ∧
    t.factoryTrim = s.factoryTrim ∧ t.pending = s.pending

/-- What a STATION_RESET leaves, STARTING entered (R185, R191, R192); that the configuration is loaded in the same step is
the model's choice (log 13). -/
def afterReset (s t : State) : Prop :=
  ramLost s t ∧ (s.store.channel.isFree = true → t.store.flash = s.store.flash) ∧
    t.cfg = t.store.flash.savedConfig.getD defaultConfig ∧ t.uptime = s.uptime ∧ t.ticks = s.ticks

/-! ### Invariants -/

/-- Stations strictly rising (R122). -/
def stationsRise : List Vertical → Bool
  | a :: b :: rest => decide (a.station < b.station) && stationsRise (b :: rest)
  | _ => true

/-- Every vertical holds the double width and partials of its place (R124, R125). -/
def widthsHold (t : List Vertical) : Bool :=
  (List.range t.length).all fun i =>
    match t[i]? with
    | none => true
    | some x =>
      decide (x.w2 = doubleWidth t i) && decide (x.q = partialQ x.v x.depth x.w2) &&
        decide (x.a = partialA x.depth x.w2)

/-- A run's table and totals as they must be (R122 to R127). -/
def Run.tableHolds (r : Run) : Bool :=
  decide (r.table.length ≤ tableLimit) && stationsRise r.table && widthsHold r.table &&
    decide (r.totalQ = sumQ r.table) && decide (r.totalA = sumA r.table)

/-- The vertical table of the run, if there is one, is as it must be (R122 to R127). -/
def State.tableHolds (s : State) : Bool :=
  match s.run with
  | none => true
  | some r => r.tableHolds

/-- Whether two pending entries are of different kinds. -/
def kindsDiffer (es : List EventEntry) : Bool :=
  match es with
  | [] => true
  | e :: rest => rest.all (fun x => decide (x.kind ≠ e.kind)) && kindsDiffer rest

/-- A port's pending set holds at most one entry of a kind, of enabled groups only, with counts of 1 to 255
(R180, R183). -/
def PortState.eventsHold (x : PortState) : Bool :=
  kindsDiffer x.events &&
    x.events.all fun e => x.enables.getLsbD e.kind.group.bit && decide (1 ≤ e.count) && decide (e.count ≤ 255)

/-- Whether a pending set holds RECALL. -/
def holdsRecall (x : PortState) : Bool := x.events.any fun e => decide (e.kind = .recall)

/-- The pending sets of the ports are as they must be; RECALL is raised on port C alone (R104, R180, R183). -/
def State.eventsHold (s : State) : Bool :=
  s.ports.l.eventsHold && s.ports.t.eventsHold && s.ports.c.eventsHold &&
    !holdsRecall s.ports.l && !holdsRecall s.ports.t

/-- The siren against the level, and the timers against the siren (R75, R80, R83, R84, R86). -/
def WarningUnit.sirenHolds (w : WarningUnit) : Bool :=
  (decide (w.siren = .off) || decide (w.siren = .test) || decide (w.level = .danger)) &&
    (decide (w.siren ≠ .test) || decide (w.level = .normal)) &&
    decide (w.sirenStart.isSome = decide (w.siren = .sounding)) &&
    decide (w.testStart.isSome = decide (w.siren = .test)) &&
    (decide (w.level ≠ .normal) || w.clearSince.isNone)

/-- The siren is as it must be, and off while the part is not in READY (R86, R88). -/
def State.sirenHolds (s : State) : Bool :=
  s.warn.sirenHolds &&
    (decide (s.phase = .ready) || (decide (s.warn.siren = .off) && s.warn.clearSince.isNone))

/-- No run is OPEN or OBSERVING above run_limit, and none exists outside READY (R90, R94). -/
def State.lockoutHolds (s : State) : Bool :=
  match s.run with
  | none => true
  | some r => decide (s.phase = .ready) && (!r.active || !s.lockedOut)

/-- Records of consecutive sequences that end below a sequence (R142). -/
def sequencesRun (next : Word32) (rs : List LogRecord) : Bool :=
  match rs with
  | [] => true
  | r :: rest => decide (r.seq + BitVec.ofNat 32 (rest.length + 1) = next) && sequencesRun next rest

/-- The append buffer and the journal queue within their places, the buffer's sequences consecutive and the
newest just below next_seq; the buffer is empty outside READY (R142, R151, R157). -/
def State.queuesHold (s : State) : Bool :=
  decide (s.store.buffer.length ≤ bufferLimit) && decide (s.store.journalQueue.length ≤ journalPlaces) &&
    decide (s.store.dropped ≤ 255) && sequencesRun s.store.nextSeq s.store.buffer &&
    (decide (s.phase = .ready) || s.store.buffer.isEmpty)

/-- Whether the draft is ACTIVATING for a port. -/
def RatingUnit.activatingFor (u : RatingUnit) (p : Port) : Bool :=
  match u.draft with
  | .activating owner => decide (owner = p)
  | _ => false

/-- Whether the activation in flight is attached to a port. -/
def RatingUnit.attachedTo (u : RatingUnit) (p : Port) : Bool :=
  match u.inFlight with
  | none => false
  | some f => decide (f.owner = some p)

/-- Whether the activation in flight holds a port's reply. -/
def RatingUnit.repliesTo (u : RatingUnit) (p : Port) : Bool :=
  match u.inFlight with
  | none => false
  | some f => decide (f.replyTo = some p)

/-- The DRAFT slot is ACTIVATING for a port exactly while the activation in flight is attached to it, and a
reply is held for that port alone (R51, R60, R64). -/
def State.draftHolds (s : State) : Bool :=
  [Port.l, Port.t, Port.c].all fun p =>
    decide (s.rating.activatingFor p = s.rating.attachedTo p) &&
      (!s.rating.repliesTo p || s.rating.attachedTo p)

/-- Every item of a configuration within its range, the intervals members of R24's set (R24, R185). -/
def LiveConfig.inRange (c : LiveConfig) : Bool :=
  allItems.all fun i =>
    decide (i.row.least ≤ c.get i) && decide (c.get i ≤ i.row.greatest) &&
      match i with
      | .interval _ => decide (c.get i ∈ intervalMembers)
      | _ => true

/-- A configuration a flash unit carries is within its ranges. -/
def FlashUnit.configHolds : FlashUnit → Bool
  | .config _ c => c.inRange
  | .configCommit _ c => c.inRange
  | _ => true

/-- A rating set a flash unit carries is valid. -/
def FlashUnit.imageHolds : FlashUnit → Bool
  | .image _ _ r => r.valid
  | .imageCommit _ r => r.valid
  | _ => true

/-- What a program job puts in as its block's header is a header (R139). -/
def ProgramJob.headerHolds (j : ProgramJob) : Bool :=
  match j.header with
  | none => true
  | some (.header _ _ _ _) => true
  | some _ => false

/-- Every unit the array holds, or may come to hold by what the channel is doing, satisfies a condition, and a header
going in is a header. -/
def Store.unitsHold (st : Store) (ok : FlashUnit → Bool) : Bool :=
  (st.flash.all fun e => ok e.2) &&
    match st.channel with
    | .free => true
    | .searched _ => true
    | .programming j _ => ok j.content && j.headerHolds
    | .erasing j => j.old.all fun e => ok e.2

/-- A configuration waiting to be saved is within its ranges. -/
def Class4.configHolds : Class4 → Bool
  | .save c _ _ _ _ => c.inRange
  | _ => true

/-- The live configuration, and every configuration saved or on its way to flash, is within its ranges
(R185, R187, R188). -/
def State.configHolds (s : State) : Bool :=
  s.cfg.inRange && s.store.class4.all Class4.configHolds && s.store.unitsHold FlashUnit.configHolds

/-- What a draft under construction keeps to: R49's ranges, in any order (R54 to R57). -/
def RatingSet.bounded (r : RatingSet) : Bool :=
  decide (r.points.length ≤ 64) && decide (r.shifts.length ≤ 8) && r.points.all RatingPoint.inRange &&
    Machine.inRange 0 5000 r.ext && r.shifts.all fun e => Machine.inRange (-2000) 2000 e.shift

/-- The DRAFT slot's set: bounded while it is edited, valid as PREVIOUS. -/
def Draft.setHolds : Draft → Bool
  | .empty => true
  | .editing _ d => d.bounded
  | .activating _ => true
  | .previous r => r.valid

/-- An image waiting to be programmed is of a valid set. -/
def Class4.imageHolds : Class4 → Bool
  | .image r _ _ _ => r.valid
  | _ => true

/-- ACTIVE, PREVIOUS, the activation in flight and every image are valid sets (R49, R50, R59). -/
def State.ratingHolds (s : State) : Bool :=
  (match s.rating.active with
   | none => true
   | some r => r.valid) &&
    s.rating.draft.setHolds &&
    (match s.rating.inFlight with
     | none => true
     | some f => f.set.valid) &&
    s.store.class4.all Class4.imageHolds && s.store.unitsHold FlashUnit.imageHolds

/-! ### The schedule after a sample -/

/-- The next sample time after a sample: the pending one, or, where the level changed and the new level's interval gives an
earlier one, that (R26, R78; log 45, log 46). -/
def sampleSchedules (s t : State) (pending : Word32) : Prop :=
  (s.configHolds = true → t.warn.level = s.warn.level → t.sched.nextSample = pending) ∧
    (t.warn.level ≠ s.warn.level →
      let candidate := nextSampleAfter (s.cfg.intervalOf t.warn.level) s.backup.clock.toNat
      t.sched.nextSample = if candidate < pending then candidate else pending)

end Sys2Proof.Machine
end

