-- ==== Sys2Proof/Certificates/Slice0/Obligations.lean ====
section
/-! DEFINITION. The statements for the provers: what the commands of the HS-3 do, and what every step keeps.
The docstring of each names the rules it comes from, and says where it rests on a choice of the model. -/

open Sys2Proof Sys2Proof.Machine

/-! ### The machine as a whole -/

/-- The command at the front of the queue is taken and run with the rest of the queue. -/
def Obligations.StepRunsFrontCommand : Prop :=
  ∀ (c : Instr) (rest : List Instr) (s : State),
    step { s with pending := c :: rest } = exec c { s with pending := rest }

/-- On an empty queue the step that is due of itself runs, or a capture tick passes unless an operation of the
flash has reached its bound: the model's choice, log 1 and log 6. -/
def Obligations.EmptyQueueRunsWhatIsDue : Prop :=
  ∀ s : State, s.pending = [] →
    (∀ i, s.dueEvent = some i → step s = exec i s) ∧
    (s.dueEvent = none → s.timeBlocked = true → step s = .next s) ∧
    (s.dueEvent = none → s.timeBlocked = false → s.phase = .off → step s = .next { s with backup := s.phaseTicked }) ∧
    (s.dueEvent = none → s.timeBlocked = false → s.phase ≠ .off →
      ∃ t, step s = .next t ∧ t.ticks = s.ticks + 1 ∧ t.backup.clock = s.backup.clock ∧
        (t.uptime = s.uptime ∨ t.uptime = s.uptime + 1 ∨ t.uptime = uptimeLimit))

/-- The part right after reset: on entry to STARTING, its clock held at 0 with UNSET (R21), the configuration the defaults
of R185, and the fields named at their values after a reset. That the part is fresh, its serial and trim 0, RESET high
and MAINT open are the model's choices (log 3, log 17). -/
def Obligations.ResetLeavesFreshPartStarting : Prop :=
  let s := State.reset
  s.phase = .starting ∧ s.backup.clock = 0 ∧ s.backup.unset = true ∧ s.backup.held = true ∧
    s.backup.lastStep = none ∧ s.uptime = 0 ∧ s.ticks = 0 ∧
    (∀ i : Item, s.cfg.get i = i.row.default) ∧
    s.floatCh.count = 0 ∧ s.floatCh.phaseErrors = 0 ∧ s.floatCh.origin = .restored ∧ s.floatCh.stallMark = false ∧
    s.pressCh.newest = none ∧ s.sel.newest = none ∧ s.window = [] ∧
    s.rating.active = none ∧ s.rating.draft = .empty ∧ s.warn.siren = .off ∧ s.warn.level = .normal ∧
    s.run = none ∧ s.gaugings = [] ∧ s.store.flash = [] ∧ s.store.buffer = [] ∧ s.store.degraded = false ∧
    s.store.robin = .l ∧
    (∀ p : Port, (s.port p).request = none ∧ (s.port p).reply = none ∧ (s.port p).events = [] ∧
      (s.port p).enables = 0x1F#5) ∧
    s.beacon = false ∧ s.sirenOut = false ∧ s.warnOut = false ∧ s.pending = []

/-- The invariants stated below hold of the part right after reset. -/
def Obligations.InvariantsHoldAtReset : Prop :=
  State.reset.store.flash.wf = true ∧ State.reset.tableHolds = true ∧ State.reset.eventsHold = true ∧
    State.reset.sirenHolds = true ∧ State.reset.lockoutHolds = true ∧ State.reset.queuesHold = true ∧
    State.reset.draftHolds = true ∧ State.reset.configHolds = true ∧ State.reset.ratingHolds = true

/-- No command stops the part: each answers a next state, and none touches the queue. That a command which is ill formed,
or finds no occasion, goes on as well is the model's choice (log 34; with log 2 and log 33). -/
def Obligations.EveryCommandGoesOnAndKeepsTheQueue : Prop :=
  ∀ (i : Instr) (s : State), ∃ t, exec i s = .next t ∧ t.pending = s.pending

/-! ### Invariants that every step keeps -/

/-- The flash array keeps its canonical form: addresses rising and within the 1024 blocks of R138 (log 4). -/
def Obligations.FlashArrayStaysCanonical : Prop :=
  ∀ s t : State, s.store.flash.wf = true → step s = .next t → t.store.flash.wf = true

/-- The vertical table keeps at most 40 verticals of rising station, each with the width and partials of its
place, and totals that are the sums of the partials (R122 to R127). -/
def Obligations.VerticalTableStaysConsistent : Prop :=
  ∀ s t : State, s.tableHolds = true → step s = .next t → t.tableHolds = true

/-- A port's pending set keeps at most one entry of a kind, of enabled groups, with counts from 1 to 255, and
RECALL stands on port C alone (R104, R180, R183). -/
def Obligations.PendingSetsStayWellFormed : Prop :=
  ∀ s t : State, s.eventsHold = true → step s = .next t → t.eventsHold = true

/-- The siren is SOUNDING or SILENCED only at DANGER and in TEST only at NORMAL, and its timers run exactly in
SOUNDING and TEST (R80 to R84, R86). -/
def Obligations.SirenStaysWithinItsLevel : Prop :=
  ∀ s t : State, s.sirenHolds = true → step s = .next t → t.sirenHolds = true

/-- No run is OPEN or OBSERVING while the level is above run_limit, and there is a run only in READY (R94). -/
def Obligations.NoActiveRunAboveRunLimit : Prop :=
  ∀ s t : State, s.lockoutHolds = true → step s = .next t → t.lockoutHolds = true

/-- The append buffer keeps at most 32 records of consecutive sequences ending below next_seq, and the journal
queue at most 4 entries (R142, R151, R157). -/
def Obligations.BufferAndJournalQueueStayInBounds : Prop :=
  ∀ s t : State, s.queuesHold = true → step s = .next t → t.queuesHold = true

/-- The DRAFT slot is ACTIVATING for a port exactly while the activation in flight is attached to that port
(R51, R60 to R64). -/
def Obligations.DraftSlotMatchesActivationInFlight : Prop :=
  ∀ s t : State, s.draftHolds = true → step s = .next t → t.draftHolds = true

/-- Every configuration item stays in its range, in the live configuration and in every saved one, and the
intervals stay members of R24's set (R24, R185, R187); ACTIVE, PREVIOUS, the set in flight and every image in flash stay
valid sets (R49, R50, R59). Each of the two is kept by itself. -/
def Obligations.ConfigurationAndRatingSetsStayValid : Prop :=
  ∀ s t : State, step s = .next t →
    (s.configHolds = true → t.configHolds = true) ∧ (s.ratingHolds = true → t.ratingHolds = true)

/-! ### The governing selector -/

/-- A scheduled sample judges a stall from the newest stall_samples entries of its history, takes the governing source
by the mode in force and the preferences of AUTO, holds the float back after AUTO left it until three GOOD samples,
judges disagreement, raises SOURCE_SWITCHED, purges the window and marks an active run at a switch, admits the stage
to the rise window once a rank is 60 s old, and carries the rate between the newest rank and the oldest within
rate_window (R34, R36 to R42, R46, R48). -/
def Obligations.GoverningSourceIsChosenAndSwitched : Prop :=
  ∀ s : State, s.phase = .ready → s.backup.clock = s.sched.nextSample → s.cfg.inRange = true →
    let mode := sourceModeOf (s.cfg.get .sourceMode)
    let entry : StallEntry := ⟨s.floatCh.count, s.loadChannels.pressCh.stage,
      decide (s.loadChannels.pressCh.quality s.uptime = .good)⟩
    let history := (if s.sel.history.length < 20 then s.sel.history else s.sel.history.drop 1) ++ [entry]
    let judged := history.drop (history.length - (s.cfg.get .stallSamples).toNat)
    let found := s.cfg.get .stallSamples ≤ (history.length : Int) ∧
      (∀ e ∈ judged, e.good = true ∧ e.count = s.floatCh.count) ∧
      ∃ a ∈ judged, ∃ b ∈ judged, s.cfg.get .stallLimit < a.stage - b.stage
    let changed := s.sel.current ≠ none ∧ mode ≠ s.sel.mode
    ∃ (t : State) (c : ComposedSample), exec .scheduledSample s = .next t ∧ t.sel.newest = some c ∧
      let x := c.sample
      let fit := x.floatQuality = .good ∨ x.floatQuality = .restored
      let away := ¬changed ∧ s.sel.away = true
      let before := if changed then 0 else s.sel.returnCount
      let count := if mode = .auto ∧ away then (if x.floatQuality = .good then min 3 (before + 1) else 0) else before
      let heldBack := away ∧ count < 3
      let both := (fit ∨ x.floatQuality = .suspect) ∧ x.pressQuality = .good
      let apart := s.cfg.get .disagreeLimit < ((x.floatStage - x.pressStage).natAbs : Int)
      let switch := s.sel.current ≠ none ∧ s.sel.current ≠ some x.source
      let window := if switch then [] else s.window
      t.sel.history = history ∧
      (t.floatCh.stallMark = true ↔ s.floatCh.stallMark = true ∨ found) ∧
      (s.floatCh.stallMark = false → found → t.pendingWhereEnabled .floatStalled) ∧
      (mode = .float → (fit → x.source = .float) ∧ (¬fit → x.source = .none)) ∧
      (mode = .pressure → (x.pressQuality = .good → x.source = .pressure) ∧
        (x.pressQuality ≠ .good → x.source = .none)) ∧
      (mode ≠ .auto → t.sel.away = false ∧ t.sel.returnCount = 0) ∧
      (mode = .auto → fit → ¬heldBack → x.source = .float ∧ t.sel.away = false ∧ t.sel.returnCount = 0) ∧
      (mode = .auto → ¬fit ∨ heldBack →
        (x.pressQuality = .good → x.source = .pressure) ∧
        (x.pressQuality ≠ .good → fit ∨ x.floatQuality = .suspect → x.source = .float) ∧
        (x.pressQuality ≠ .good → ¬fit → x.floatQuality ≠ .suspect → x.source = .none) ∧
        (t.sel.away = true ↔ away ∨ (s.sel.current = some .float ∧ x.source ≠ .float)) ∧
        t.sel.returnCount = count) ∧
      (¬both → t.sel.disagreeCount = s.sel.disagreeCount ∧ t.sel.disagree = s.sel.disagree ∧ x.disagree = false) ∧
      (both → ¬apart → t.sel.disagreeCount = 0 ∧ t.sel.disagree = false ∧ x.disagree = false) ∧
      (both → apart → t.sel.disagreeCount = min 3 (s.sel.disagreeCount + 1) ∧
        (t.sel.disagree = true ↔ s.sel.disagree = true ∨ 2 ≤ s.sel.disagreeCount) ∧ x.disagree = t.sel.disagree) ∧
      (s.sel.disagree = false → t.sel.disagree = true → t.pendingWhereEnabled .sourcesDisagree) ∧
      t.sel.current = some x.source ∧
      (switch → t.pendingWhereEnabled .sourceSwitched ∧
        ∀ r, s.run = some r → r.active = true → ∃ r', t.run = some r' ∧ r'.sourceChanged = true ∧
          (r.desc.sourceSwitch = true → r'.state = .parked ∧ r'.parkReason = some .sourceSwitch)) ∧
      (x.stage = none → t.window = window ∧ x.rate = none) ∧
      (∀ h, x.stage = some h →
        ((∀ n, window.getLast? = some n → n.uptime + 60 ≤ s.uptime) →
          t.window = (if window.length < 12 then window else window.drop 1) ++ [⟨s.uptime, h⟩]) ∧
        (∀ n, window.getLast? = some n → s.uptime < n.uptime + 60 → t.window = window) ∧
        ∀ n o, t.window.getLast? = some n →
          t.window.find? (fun r => decide ((n.uptime : Int) - s.cfg.get .rateWindow ≤ r.uptime)) = some o →
          x.rate = if s.cfg.get .minSpan ≤ ((n.uptime - o.uptime : Nat) : Int)
            then some (max (-32767) (min 32767
              (roundHalfAway ((n.stage - o.stage) * 3600) (n.uptime - o.uptime)))) else none)

/-! ### Requests at the port -/

/-- What a port does with a request before any block sees it: lost on a port that does not listen (R175, R191),
discarded with FRAME_ERROR above 240 bytes (R164), dropped with OVERRUN and REQUEST_OVERRUN while the slot is busy
(R168), refused NOT_READY before READY unless it is GET_IDENT or GET_TIME, and DENIED when the port's set lacks its
family (R169, R178). Nothing else changes but what an SPI port sent (R170), the watchers of the link and the MAINT level
sampled. On port C a reply that finds the line free has begun to be sent first, so that only one that waits for the line
makes the slot busy (R174; log 51 for that order). -/
def Obligations.PortJudgesEveryRequestFirst : Prop :=
  ∀ (i : Instr) (r : Request) (s : State), requestOf i = some r →
    let x := sampledMaint i s
    let z := x.lineServed r.port
    (x.deaf r.port = true → exec i s = .next x) ∧
    (x.deaf r.port = false → r.payload.length ≤ maxPayload → exec i s = exec i (s.lineServed r.port)) ∧
    (x.deaf r.port = false → maxPayload < r.payload.length →
      let y := x.clocked r.port (frameBytes r.payload)
      exec i s = .next (y.setPort r.port { y.port r.port with frameError := true, frameAgain := true, rx := [] })) ∧
    (x.deaf r.port = false → r.payload.length ≤ maxPayload → z.slotBusy r.port = true → r.code ≠ linkResetCode →
      let y := z.arrived r.port r.payload
      exec i s = .next ((y.setPort r.port
        { y.port r.port with overrun := true, overrunAgain := true }).raiseOn r.port .requestOverrun)) ∧
    (x.deaf r.port = false → r.payload.length ≤ maxPayload → z.slotBusy r.port = false → s.phase ≠ .ready →
      r.code ≠ 0x01#8 → r.code ≠ 0x02#8 →
      exec i s = .next ((z.arrived r.port r.payload).answered r.port r.code .notReady [])) ∧
    (∀ f, x.deaf r.port = false → r.payload.length ≤ maxPayload → z.slotBusy r.port = false → s.phase = .ready →
      codeClass r.code.toNat = .family f → s.cfg.permits r.port f = false →
      exec i s = .next ((z.arrived r.port r.payload).answered r.port r.code .denied []))

/-- A request whose payload has not the length its command defines is refused BAD_ARGUMENT and changes nothing else
(the rule of each command). -/
def Obligations.WrongPayloadLengthIsBadArgument : Prop :=
  ∀ (i : Instr) (r : Request) (s : State), requestOf i = some r →
    (sampledMaint i s).takes r.port r.code r.payload = true → payloadLengthFits r.code r.payload.length = false →
    exec i s = .next (((sampledMaint i s).arrived r.port r.payload).answered r.port r.code .badArgument [])

/-- A request its port takes ends with exactly one reply in the port's reply slot, echoing its code, or stays in
service with the reply slot empty (R168). -/
def Obligations.TakenRequestIsAnsweredOrInService : Prop :=
  ∀ (i : Instr) (r : Request) (s t : State), requestOf i = some r →
    (sampledMaint i s).takes r.port r.code r.payload = true → exec i s = .next t →
    ((t.port r.port).request = none ∧ ∃ a, (t.port r.port).reply = some a ∧ a.echo = r.code) ∨
      ((t.port r.port).request = some r.code ∧ (t.port r.port).reply = none)

/-- FRAME_DISCARD and FRAME_GAP_TIMEOUT set FRAME_ERROR and empty the receive buffer of their port alone (R164,
R170, R173); REQUEST_OVERRUN drops the request (R168); UNKNOWN_COMMAND is refused by the port (R169). A transaction that
is no FETCH returns 0xFF for each byte on an SPI port, and a frame on port C restarts the silence timer of an active run
that has one (R105, R170; log 16 for `sent`). On port C a reply that finds the line free has begun to be sent first (R174;
log 51). A gap counts from the start byte on (log 56). -/
def Obligations.BadFramesChangeOnlyTheirPort : Prop :=
  (∀ (p : Port) (f : BadFrame) (s : State), s.deaf p = false → f.isDiscarded p = true →
    let y := s.clocked p f.clocks
    exec (.frameDiscard p f) s =
      .next (y.setPort p { y.port p with frameError := true, frameAgain := true, rx := [] })) ∧
  (∀ (bytes : List Byte) (s : State), s.deaf .c = false → frameUnderWay bytes = true →
    exec (.frameGapTimeout bytes) s =
      .next (s.setPort .c { s.port .c with frameError := true, frameAgain := true, rx := [] })) ∧
  (∀ (p : Port) (code : Byte) (payload : List Byte) (s : State), s.deaf p = false →
    payload.length ≤ maxPayload → (s.lineServed p).slotBusy p = true → code ≠ linkResetCode →
    let y := (s.lineServed p).arrived p payload
    exec (.requestOverrun p code payload) s =
      .next ((y.setPort p { y.port p with overrun := true, overrunAgain := true }).raiseOn p .requestOverrun)) ∧
  (∀ (p : Port) (code : Byte) (payload : List Byte) (s : State), s.deaf p = false →
    payload.length ≤ maxPayload → (s.lineServed p).slotBusy p = false → codeClass code.toNat = .unknown →
    exec (.unknownCommand p code payload) s =
      .next (((s.lineServed p).arrived p payload).answered p code .unknownCommand [])) ∧
  (∀ (p : Port) (n : Nat) (s : State), s.clocked p n = if p = .c then s
    else s.setPort p { s.port p with sent := List.replicate n 0xFF#8 }) ∧
  (∀ (p : Port) (payload : List Byte) (s : State),
    s.arrived p payload = if p = .c then { s with run := s.run.map fun r =>
        if r.active = true ∧ r.silenceStart ≠ none then { r with silenceStart := some s.uptime } else r }
      else s.clocked p (payload.length + 5))

/-- A raising adds one entry to, or counts one more in, the pending set of every port whose group enable is set,
and changes nothing else (R180). -/
def Obligations.RaisingReachesEveryEnabledPort : Prop :=
  ∀ (s : State) (k : EventKind) (p : Port), s.phase = .ready → ((s.port p).eventsHold = true) →
    s.raiseAll k = { s with ports := (s.raiseAll k).ports } ∧
    ((s.raiseAll k).port p = { s.port p with events := ((s.raiseAll k).port p).events }) ∧
    ((s.port p).enables.getLsbD k.group.bit = false → ((s.raiseAll k).port p).events = (s.port p).events) ∧
    ((s.port p).enables.getLsbD k.group.bit = true →
      (∀ e ∈ (s.port p).events, e.kind = k →
        { e with count := saturate 255 (e.count + 1) } ∈ ((s.raiseAll k).port p).events) ∧
      ((∀ e ∈ (s.port p).events, e.kind ≠ k) →
        ((s.raiseAll k).port p).events = (s.port p).events ++ [⟨k, s.backup.clock, 1⟩]) ∧
      (∀ e, e.kind ≠ k → (e ∈ ((s.raiseAll k).port p).events ↔ e ∈ (s.port p).events)))

/-! ### Links -/

/-- A FETCH on an SPI port sends 0xFF, then the port flags byte alone or the whole reply frame, then 0xFF fill.
One long enough empties the reply slot, any that clocks the flags byte out clears FRAME_ERROR and OVERRUN, and
nothing else changes (R165, R167, R171), but that the reply of a STATION_RESET leaving makes the reset due (R191).
`sent` is the model's own record of what was sent (log 16). -/
def Obligations.FetchSendsFlagsOrReply : Prop :=
  ∀ (p : Port) (n : Nat) (s : State), s.running = true → p ≠ .c →
    ((s.port p).reply = none → n ≠ 0 →
      exec (.fetch p n) s = .next (s.setPort p { s.port p with
        frameError := false, overrun := false, frameAgain := false, overrunAgain := false,
        sent := 0xFF#8 :: s.portFlags p :: List.replicate (n - 1) 0xFF#8 })) ∧
    (∀ r, (s.port p).reply = some r → (replyFrame (s.portFlags p) r).length ≤ n →
      exec (.fetch p n) s = .next { s.setPort p { s.port p with
          reply := none, frameError := false, overrun := false, frameAgain := false, overrunAgain := false,
          sent := 0xFF#8 :: replyFrame (s.portFlags p) r ++
            List.replicate (n - (replyFrame (s.portFlags p) r).length) 0xFF#8 } with
        resetReq := if r.resets then s.resetReq.map (fun q => { q with due := true }) else s.resetReq }) ∧
    (∀ r, (s.port p).reply = some r → n < (replyFrame (s.portFlags p) r).length → n ≠ 0 →
      exec (.fetch p n) s = .next (s.setPort p { s.port p with
        frameError := false, overrun := false, frameAgain := false, overrunAgain := false,
        sent := 0xFF#8 :: (replyFrame (s.portFlags p) r).take n })) ∧
    exec (.fetch p 0) s = .next (s.setPort p { s.port p with sent := [0xFF#8] })

/-- A request frame built as R164 sets out is received whole, with its code and payload, and one with another CRC is not
received; a reply frame is the port
flags byte, the status, the echo of the command, the length, the payload and the CRC over all of them, low byte first,
n + 6 bytes in all (R164 to R166). -/
def Obligations.FramesAreBuiltAndReceivedWhole : Prop :=
  (∀ (code : Byte) (payload : List Byte), payload.length ≤ maxPayload →
    frameWhole (requestFrame code payload) = some (code, payload) ∧
    ∀ lo hi : Byte, code :: BitVec.ofNat 8 payload.length :: (payload ++ [lo, hi]) ≠ requestFrame code payload →
      frameWhole (code :: BitVec.ofNat 8 payload.length :: (payload ++ [lo, hi])) = none) ∧
  (∀ (flags : Byte) (r : Reply), ∃ lo hi : Byte,
    replyFrame flags r =
      flags :: r.status.code :: r.echo :: BitVec.ofNat 8 r.payload.length :: (r.payload ++ [lo, hi]) ∧
    lo.toNat + 256 * hi.toNat =
      (crc16 (flags :: r.status.code :: r.echo :: BitVec.ofNat 8 r.payload.length :: r.payload)).toNat ∧
    (replyFrame flags r).length = r.payload.length + 6)

/-- On port C a reply in the slot passes into the free transmit register and the start byte is sent; one character
later the reply frame begins, formed with the port flags of that moment, REPLY_READY, IN_SERVICE, FRAME_ERROR, OVERRUN
and ATTN from bit 0 up, and one character after that the flags byte is out and FRAME_ERROR and OVERRUN clear, but for
what was set since (R167, R174; log 41 for the whole ticks and for `sent`). The register empties once the last CRC
byte has gone, and not before. While a reply is being sent, or the last character of one broken off, a reply in the slot
waits; where the last CRC byte has gone the next begins, the end of the one before it included (R174, R175). The
divider is loaded only while the port neither receives nor sends (R172). -/
def Obligations.PortCTransmitsAndLoadsItsDivider : Prop :=
  (∀ (r : Reply) (s : State), s.running = true → s.lineC.tx = none → s.lineC.charLeft = 0 → s.ports.c.reply = some r →
    exec .replyTransmitStart s = .next { s with
      ports := { s.ports with c := { s.ports.c with reply := none, sent := [0x7E#8] } }
      lineC := { s.lineC with tx := some r, txTicks := 0 } }) ∧
  (∀ (q r : Reply) (s : State), s.running = true → s.lineC.tx = some q →
    s.lineC.charTicks (q.payload.length + 7) ≤ s.lineC.txTicks → s.ports.c.reply = some r →
    exec .replyTransmitStart s = .next { s with
      ports := { s.ports with c := { s.ports.c with reply := none, sent := [0x7E#8] } }
      lineC := { s.lineC with tx := some r, txTicks := 0 }
      resetReq := if q.resets then s.resetReq.map (fun x => { x with due := true }) else s.resetReq }) ∧
  (∀ (q : Reply) (s : State),
    (s.lineC.tx = some q ∧ s.lineC.txTicks < s.lineC.charTicks (q.payload.length + 7)) ∨
      (s.lineC.tx = none ∧ s.lineC.charLeft ≠ 0) → exec .replyTransmitStart s = .next s) ∧
  (∀ s : State, s.pending = [] → s.dueEvent = none → s.timeBlocked = false → s.phase ≠ .off → s.lineC.tx = none →
    ∃ t, step s = .next t ∧ t.lineC = { s.lineC with charLeft := s.lineC.charLeft - 1 } ∧ t.ports = s.ports) ∧
  (∀ (r : Reply) (s : State), s.pending = [] → s.dueEvent = none → s.timeBlocked = false → s.phase ≠ .off →
    s.lineC.tx = some r →
    ∃ t, step s = .next t ∧ t.lineC = { s.lineC with txTicks := s.lineC.txTicks + 1, charLeft := s.lineC.charLeft - 1 } ∧
      t.ports.l = s.ports.l ∧ t.ports.t = s.ports.t ∧
      t.ports.c = (if s.lineC.txTicks + 1 = s.lineC.charTicks 1 then { s.ports.c with
          frameAgain := false, overrunAgain := false, sent := 0x7E#8 :: replyFrame (s.portFlags .c) r }
        else if s.lineC.txTicks + 1 = s.lineC.charTicks 2 then { s.ports.c with
          frameError := s.ports.c.frameAgain, overrun := s.ports.c.overrunAgain }
        else s.ports.c)) ∧
  (∀ (p : Port) (s : State),
    ((s.portFlags p).getLsbD 0 = true ↔ (s.port p).reply ≠ none ∨ (p = .c ∧ s.lineC.tx ≠ none)) ∧
    ((s.portFlags p).getLsbD 1 = true ↔ (s.port p).request ≠ none) ∧
    (s.portFlags p).getLsbD 2 = (s.port p).frameError ∧ (s.portFlags p).getLsbD 3 = (s.port p).overrun ∧
    (s.phase = .ready → ((s.portFlags p).getLsbD 4 = true ↔ (s.port p).events ≠ [])) ∧
    (∀ i, 5 ≤ i → (s.portFlags p).getLsbD i = false)) ∧
  (∀ (n : Nat) (x : LineC), x.charTicks n = (n * 160 * (256 * x.div + x.frac) + 25599) / 25600) ∧
  (∀ (r : Reply) (s : State), s.lineC.tx = some r →
    (s.lineC.charTicks (r.payload.length + 7) ≤ s.lineC.txTicks →
      exec .replyTransmitDone s = .next { s with
        lineC := { s.lineC with tx := none, txTicks := 0 }
        resetReq := if r.resets then s.resetReq.map (fun q => { q with due := true }) else s.resetReq }) ∧
    (s.lineC.txTicks < s.lineC.charTicks (r.payload.length + 7) → exec .replyTransmitDone s = .next s)) ∧
  (∀ s : State, s.running = true → s.ports.c.rx = [] → s.lineC.tx = none → s.lineC.charLeft = 0 →
    s.ports.c.reply = none →
    exec .portcDividerLoad s = .next { s with
      lineC := { s.lineC with div := (s.cfg.get .portcDiv).toNat, frac := (s.cfg.get .portcFrac).toNat } }) ∧
  (∀ s : State, s.lineIdle = false → exec .portcDividerLoad s = .next s)

/-- A port reset, by LINK_RESET on any port, its slot free or busy, or by a break on port C: the port's request,
reply, flags, frame buffer and events are gone and its groups all enabled, its cursor and lost count stay, a draft it
owned is dropped or released, its request runs on without it, and the other ports keep all but what port C's park
raises. On port C an active run is parked with the reason LINK_RESET and exactly RUN_PARKED and RECALL stand pending;
a reply being sent stops, and its last character keeps the line until it has gone, counted in whole ticks: the model's
reading (log 41). A reset that the port's STATION_RESET arranged is due at once. All else in the state stays as it is.
LINK_RESET is replied OK; a break holds the line low until it returns high, and in STARTING, where no event is raised,
resets the port alike (R64, R107, R175 to R177, R191; log 16 for `sent`, the model's own record of the bytes sent, log 28
for a break in STARTING, log 51 for a reply that finds the line free and is being sent by then). -/
def Obligations.PortResetClearsItsPortAlone : Prop :=
  (∀ (p : Port) (s : State), s.phase = .ready → s.deaf p = false →
    ∃ t, exec (.linkReset p []) s = .next t ∧ portResetLeaves p (s.lineServed p) t ∧ (t.port p).request = none ∧
      (t.port p).reply = some ⟨.ok, 0x04#8, [], false⟩ ∧ t.lineC.low = s.lineC.low ∧
      (p ≠ .c → (t.port p).sent = List.replicate 5 0xFF#8)) ∧
  (∀ s : State, s.running = true → s.lineC.low = false →
    ∃ t, exec .portCBreak s = .next t ∧ portResetLeaves .c (s.lineServed .c) t ∧ t.ports.c.request = none ∧ t.ports.c.reply = none ∧
      t.lineC.low = true) ∧
  (∀ s : State, s.running = false ∨ s.lineC.low = true → exec .portCBreak s = .next s) ∧
  (∀ s : State, exec .portCLineReturnsHigh s = .next { s with lineC := { s.lineC with low := false } })

/-- FETCH_EVENTS hands out and removes up to eight entries of the port's pending set, in group priority and within a
group by first time, before any it leaves, and leaves the rest in their order (R182; log 46 for two times on the two
sides of the clock's wrap). SET_EVENT_GROUPS sets the enables and removes the entries of disabled groups (R183).
Neither touches another port. -/
def Obligations.EventsAreFetchedAndGroupsSet : Prop :=
  (∀ (p : Port) (s : State), s.takes p 0x06#8 [] = true →
    exec (.fetchEvents p []) s = .next
      (((s.arrived p []).setPort p { (s.arrived p []).port p with events := unfetched (s.port p).events }).answered p 0x06#8 .ok
        (le8 (fetched (s.port p).events).length ++ le8 (unfetched (s.port p).events).length ++
          (fetched (s.port p).events).flatMap EventEntry.bytes))) ∧
  (∀ es : List EventEntry, (fetched es).length = min 8 es.length ∧ (fetched es).Pairwise (fun a b => fetchesBefore a b) ∧
    (∀ e ∈ fetched es, e ∈ es) ∧ (kindsDiffer es = true → ∀ e ∈ es, e ∈ fetched es ∨ e ∈ unfetched es) ∧
    (∀ e ∈ fetched es, e ∉ unfetched es) ∧ (unfetched es).Sublist es ∧
    (∀ a ∈ fetched es, ∀ b ∈ unfetched es, fetchesBefore a b = true)) ∧
  (∀ (p : Port) (b : Byte) (s : State), s.takes p 0x07#8 [b] = true → b.toNat < 32 →
    exec (.setEventGroups p [b]) s = .next
      (((s.arrived p [b]).setPort p { (s.arrived p [b]).port p with
        enables := b.setWidth 5
        events := (s.port p).events.filter fun e => b.getLsbD e.kind.group.bit }).answered p 0x07#8 .ok
        (le8 b.toNat ++ le8 ((s.port p).events.filter fun e => b.getLsbD e.kind.group.bit).length))) ∧
  (∀ (p : Port) (b : Byte) (s : State), s.takes p 0x07#8 [b] = true → 32 ≤ b.toNat →
    exec (.setEventGroups p [b]) s = .next ((s.arrived p [b]).answered p 0x07#8 .badArgument []))

/-! ### Requests that read -/

/-- The requests that read reply OK at once and change nothing else: GET_IDENT, GET_TIME, GET_STAGE (NOT_READY before
the first composed sample), READ_SOURCES, GET_WARNING, RUN_STATUS, STORE_STATUS, and those that read one thing of many,
GET_RATING, GET_VERTICAL, GET_GAUGINGS and GET_CONFIG, refused when there is none such (R19, R32, R45, R71, R87, R111,
R112, R135, R154, R186, R189). -/
def Obligations.ReadsReplyAndChangeNothing : Prop :=
  ∀ (p : Port) (s : State),
    (s.takes p 0x01#8 [] = true → (s.phase = .ready ∨ s.identRead = true) →
      exec (.getIdent p []) s = .next ((s.arrived p []).answered p 0x01#8 .ok s.identPayload)) ∧
    (s.takes p 0x02#8 [] = true →
      exec (.getTime p []) s = .next ((s.arrived p []).answered p 0x02#8 .ok s.timeStatePayload)) ∧
    (∀ c, s.takes p 0x10#8 [] = true → s.sel.newest = some c →
      exec (.getStage p []) s = .next ((s.arrived p []).answered p 0x10#8 .ok c.bytes)) ∧
    (s.takes p 0x10#8 [] = true → s.sel.newest = none →
      exec (.getStage p []) s = .next ((s.arrived p []).answered p 0x10#8 .notReady [])) ∧
    (s.takes p 0x11#8 [] = true →
      exec (.readSources p []) s = .next ((s.arrived p []).answered p 0x11#8 .ok s.sourcesPayload)) ∧
    (s.takes p 0x30#8 [] = true →
      exec (.getWarning p []) s = .next ((s.arrived p []).answered p 0x30#8 .ok s.warningPayload)) ∧
    (s.takes p 0x49#8 [] = true →
      exec (.runStatus p []) s =
        .next ((s.arrived p []).answered p 0x49#8 .ok (s.arrived p []).runStatusPayload)) ∧
    (s.takes p 0x52#8 [] = true →
      exec (.storeStatus p []) s = .next ((s.arrived p []).answered p 0x52#8 .ok (s.storePayload p))) ∧
    (∀ slot i : Byte, s.takes p 0x20#8 [slot, i] = true →
      exec (.getRating p [slot, i]) s = .next (match s.rating.view slot.toNat with
        | none => (s.arrived p [slot, i]).answered p 0x20#8 .badArgument []
        | some v => if v.set.points.length < i.toNat then (s.arrived p [slot, i]).answered p 0x20#8 .badArgument []
          else (s.arrived p [slot, i]).answered p 0x20#8 .ok (v.payload slot.toNat i.toNat))) ∧
    (∀ a b c d : Byte, s.takes p 0x4A#8 [a, b, c, d] = true →
      exec (.getVertical p [a, b, c, d]) s = .next (match s.run with
        | none => (s.arrived p [a, b, c, d]).answered p 0x4A#8 .wrongState []
        | some r =>
          if u32 a b c d = openStation then
            match r.openVertical with
            | none => (s.arrived p [a, b, c, d]).answered p 0x4A#8 .badArgument []
            | some o => (s.arrived p [a, b, c, d]).answered p 0x4A#8 .ok o.bytes
          else
            match r.table.find? fun x => x.station = u32 a b c d with
            | none => (s.arrived p [a, b, c, d]).answered p 0x4A#8 .badArgument []
            | some x => (s.arrived p [a, b, c, d]).answered p 0x4A#8 .ok x.bytes)) ∧
    (∀ i : Byte, s.takes p 0x4B#8 [i] = true →
      exec (.getGaugings p [i]) s = .next (
        if s.gaugings.length < i.toNat then (s.arrived p [i]).answered p 0x4B#8 .badArgument []
        else (s.arrived p [i]).answered p 0x4B#8 .ok (gaugingsPayload s.gaugings i.toNat))) ∧
    (∀ i : Byte, s.takes p 0x60#8 [i] = true →
      exec (.getConfig p [i]) s = .next (match itemOfCode i.toNat with
        | none => (s.arrived p [i]).answered p 0x60#8 .badArgument []
        | some x => (s.arrived p [i]).answered p 0x60#8 .ok
          (le8 x.row.code ++ sle32 (s.cfg.get x) ++ sle32 x.row.least ++ sle32 x.row.greatest ++
            sle32 x.row.default)))

/-- QUERY_DISCHARGE, of family READ, replies with the ACTIVE id, the shift entry in force, the rated stage, the
discharge and its flags at the stage and time asked and changes nothing; a payload of another length or a stage out of
range is refused BAD_ARGUMENT, and any while ACTIVE is EMPTY WRONG_STATE (R70). -/
def Obligations.QueryDischargeRatesAnyStageAndTime : Prop :=
  codeClass 0x21 = .family .read ∧
  (∀ (p : Port) (s : State) (pl : List Byte), s.takes p 0x21#8 pl = true → pl.length ≠ 6 →
    exec (.queryDischarge p pl) s = .next ((s.arrived p pl).answered p 0x21#8 .badArgument [])) ∧
  ∀ (p : Port) (s : State) (a b t0 t1 t2 t3 : Byte), s.takes p 0x21#8 [a, b, t0, t1, t2, t3] = true →
    let x := s16 a b
    let t := word32 t0 t1 t2 t3
    (x < -9999 ∨ 29999 < x →
      exec (.queryDischarge p [a, b, t0, t1, t2, t3]) s =
        .next ((s.arrived p [a, b, t0, t1, t2, t3]).answered p 0x21#8 .badArgument [])) ∧
    (-9999 ≤ x → x ≤ 29999 → s.rating.active = none →
      exec (.queryDischarge p [a, b, t0, t1, t2, t3]) s =
        .next ((s.arrived p [a, b, t0, t1, t2, t3]).answered p 0x21#8 .wrongState [])) ∧
    (∀ r, -9999 ≤ x → x ≤ 29999 → s.rating.active = some r →
      exec (.queryDischarge p [a, b, t0, t1, t2, t3]) s = .next ((s.arrived p [a, b, t0, t1, t2, t3]).answered p 0x21#8 .ok
        (le16 r.id ++ le8 (((r.shiftEntry t).map Prod.fst).getD 0xFF) ++ sle16 (r.shiftAt t) ++
          sle16 (x + r.shiftAt t) ++ le32 (r.atRated (x + r.shiftAt t)).1 ++
          flagsByte (r.atRated (x + r.shiftAt t)).2.bits)))

/-! ### Stage sensors -/

/-- A change of one encoder input moves the count by one, up when the new pair is the next of the cycle 00, 10, 11,
01, and clears the stall mark; a change of both counts a phase error, up to 255; no change counts nothing, nor, the
model's choice, the first pair after a reset (R1, R2, R6; log 44). The float stage is formed from the count and the
reference pair, within the stage range, and its quality is the first condition of the table that holds (R3, R4). -/
def Obligations.EncoderCountsLegalTransitions : Prop :=
  (∀ f : FloatChannel,
    let stage := f.refStage + roundHalfAway ((f.count - f.refCount).toInt * f.scaleUm) 1000
    f.stage = max (-9999) (min 29999 stage) ∧
    (stage < -9999 ∨ 29999 < stage → f.quality = .outOfRange) ∧
    (-9999 ≤ stage → stage ≤ 29999 →
      (f.floatTop ≤ stage → f.quality = .overtopped) ∧
      (stage < f.floatTop → f.stallMark = true → f.quality = .stalled) ∧
      (stage < f.floatTop → f.stallMark = false → 8 ≤ f.phaseErrors → f.quality = .suspect) ∧
      (stage < f.floatTop → f.stallMark = false → f.phaseErrors < 8 →
        f.quality = if f.origin = .restored then .restored else .good))) ∧
  ∀ (fa fb : Bool) (s : State), s.running = true →
    (s.floatCh.prevPair = none →
      exec (.encoderTransition fa fb) s =
        .next { s with floatCh := { s.floatCh with prevPair := some (fa, fb) } }) ∧
    (s.floatCh.prevPair = some (fa, fb) → exec (.encoderTransition fa fb) s = .next s) ∧
    (∀ a b, s.floatCh.prevPair = some (a, b) → a ≠ fa → b ≠ fb →
      exec (.encoderTransition fa fb) s = .next { s with floatCh := { s.floatCh with
        prevPair := some (fa, fb), phaseErrors := min 255 (s.floatCh.phaseErrors + 1) } }) ∧
    (∀ a b, s.floatCh.prevPair = some (a, b) → (a ≠ fa ↔ b = fb) → fa = !b ∧ fb = a →
      exec (.encoderTransition fa fb) s = .next { s with floatCh := { s.floatCh with
        prevPair := some (fa, fb), count := s.floatCh.count + 1, stallMark := false } }) ∧
    (∀ a b, s.floatCh.prevPair = some (a, b) → (a ≠ fa ↔ b = fb) → ¬(fa = !b ∧ fb = a) →
      exec (.encoderTransition fa fb) s = .next { s with floatCh := { s.floatCh with
        prevPair := some (fa, fb), count := s.floatCh.count - 1, stallMark := false } })

/-- A measurement that completes within 16,000,000 ticks holds its frequency, rounded half up and saturated, with the
uptime second; a longer one is abandoned without a result (R8, R9; log 33 for the flag that one is in progress).
PRESSURE_NO_SIGNAL is raised once, when the newest measurement has become more than 2 s old (R12). The pressure stage is
formed from the newest measurement, within the stage range, and its quality is the first condition of the table that holds
(R10, R11). -/
def Obligations.MeasurementHoldsItsFrequency : Prop :=
  (∀ (c : PressureChannel) (m : Measurement) (now : Nat), c.newest = some m →
    let used := max 400000 (min 6000000 m.freq)
    let reading : Nat := used * used / 1000000
    let stage := c.datum + roundHalfAway (c.gaugeFactor * (c.zeroReading - (reading : Int))) 1000000
    let valid := 400000 ≤ m.freq ∧ m.freq ≤ 6000000
    c.stage = max (-9999) (min 29999 stage) ∧
    (m.completedAt + 2 < now → c.quality now = .noSignal) ∧
    (now ≤ m.completedAt + 2 → ¬valid ∨ stage < -9999 ∨ 29999 < stage → c.quality now = .outOfRange) ∧
    (now ≤ m.completedAt + 2 → valid → -9999 ≤ stage → stage ≤ 29999 → c.quality now = .good)) ∧
  (∀ (c : PressureChannel) (now : Nat), c.newest = none → c.stage = 0 ∧ c.quality now = .noSignal) ∧
  (∀ (total : Nat) (s : State), s.running = true → 1 ≤ total → total ≤ 16000000 →
    exec (.measurementComplete total) s = .next { s with pressCh := { s.pressCh with
      measuring := true, signalSeen := true,
      newest := some ⟨min 4294967295 ((2 * (256 * 10 ^ 10) + total) / (2 * total)), s.uptime⟩ } }) ∧
  (∀ (total : Nat) (s : State), s.running = true → 16000000 < total →
    exec (.measurementComplete total) s = .next { s with pressCh := { s.pressCh with measuring := false } }) ∧
  (∀ s : State, s.running = true →
    exec .measurementAbandoned s = .next { s with pressCh := { s.pressCh with measuring := false } }) ∧
  (∀ (m : Measurement) (s : State), s.running = true → s.pressCh.signalSeen = true → s.pressCh.newest = some m →
    m.completedAt + 2 < s.uptime →
    exec .pressureNoSignal s =
      .next ({ s with pressCh := { s.pressCh with signalSeen := false } }.raiseAll .pressureNoSignal)) ∧
  (∀ s : State, s.pressCh.signalSeen = false → exec .pressureNoSignal s = .next s) ∧
  (∀ (m : Measurement) (s : State), s.pressCh.newest = some m → s.uptime ≤ m.completedAt + 2 →
    exec .pressureNoSignal s = .next s)

/-- SET_REFERENCE ties the channels its target names to the staff reading, so that their live stage is that reading,
purges the rise window when the target governs, marks an active run and replies with what is in force, or is refused
by the first check that fails and changes nothing (R15 to R18; log 30). The other ports, selector, warning, rating,
store, schedule, clock, capture and comparison list stay. -/
def Obligations.SetReferenceTiesChannelsToTheStaff : Prop :=
  ∀ (p : Port) (a b t : Byte) (s : State), s.takes p 0x12#8 [a, b, t] = true →
    let staff := s16 a b
    let toFloat := t.getLsbD 0
    let toPress := t.getLsbD 1
    let refused st := exec (.setReference p [a, b, t]) s = .next ((s.arrived p [a, b, t]).answered p 0x12#8 st [])
    let fits := 1 ≤ t.toNat ∧ t.toNat ≤ 3 ∧ -9999 ≤ staff ∧ staff ≤ 29999
    let floatFit := toFloat = true → s.floatCh.quality ≠ .outOfRange
    let pressFit := toPress = true → s.pressCh.quality s.uptime = .good
    let datumFits := toPress = true → -100000 ≤ staff - s.pressCh.head ∧ staff - s.pressCh.head ≤ 100000
    (¬fits → refused .badArgument) ∧
    (fits → ¬floatFit → refused .wrongState) ∧
    (fits → floatFit → ¬pressFit → refused .wrongState) ∧
    (fits → floatFit → pressFit → ¬datumFits → refused .badArgument) ∧
    (fits → floatFit → pressFit → datumFits → ∃ u, exec (.setReference p [a, b, t]) s = .next u ∧
      u.floatCh = (if toFloat then { s.floatCh with refCount := s.floatCh.count, refStage := staff, origin := .set }
        else s.floatCh) ∧
      u.pressCh = (if toPress then { s.pressCh with datum := staff - s.pressCh.head } else s.pressCh) ∧
      u.cfg = (if toPress then s.cfg.set .datum (staff - s.pressCh.head) else s.cfg) ∧
      (toFloat = true → u.floatCh.stage = staff) ∧ (toPress = true → u.pressCh.stage = staff) ∧
      u.window = (if (toFloat = true ∧ s.sel.current = some .float) ∨ (toPress = true ∧ s.sel.current = some .pressure)
        then [] else s.window) ∧
      u.run = (s.arrived p [a, b, t]).run.map (fun r => if r.active then { r with referenceChanged := true } else r) ∧
      u.port p = { (s.arrived p [a, b, t]).port p with request := none, reply := some ⟨.ok, 0x12#8,
        le8 t.toNat ++ leWord u.floatCh.refCount ++ sle16 u.floatCh.refStage ++ sle32 u.pressCh.datum ++
          sle32 s.pressCh.head, false⟩ } ∧
      (∀ q, q ≠ p → u.port q = s.port q) ∧ u.sel = s.sel ∧ u.warn = s.warn ∧ u.store = s.store ∧
      u.rating = s.rating ∧ u.sched = s.sched ∧ u.backup = s.backup ∧ u.meter = s.meter ∧ u.gaugings = s.gaugings)

/-! ### Station time and samples -/

/-- Where a multiple of the interval is left below 2^32, the next sample time is the smallest one greater than the
given second (R25). A change of level realigns the schedule: the pending time is replaced by the smallest multiple of the
new interval after the clock when it lies later than that, and kept otherwise (R26; log 45 for an equal interval,
log 46 for times beyond the clock's wrap). -/
def Obligations.NextSampleIsTheSmallestLaterMultiple : Prop :=
  (∀ interval t m : Nat, 1 ≤ interval → t < m → interval ∣ m → m < 2 ^ 32 →
    interval ∣ (nextSampleAfter interval t).toNat ∧ t < (nextSampleAfter interval t).toNat ∧
      (nextSampleAfter interval t).toNat ≤ m) ∧
  (∀ (rise : Bool) (new : Level) (time : Word32) (now : Nat) (s : State),
    let candidate := nextSampleAfter (s.cfg.intervalOf new) s.backup.clock.toNat
    (s.changeLevel rise new time now).warn.level = new ∧
    (s.changeLevel rise new time now).sched = (if candidate < s.sched.nextSample
      then { s.sched with nextSample := candidate } else s.sched))

/-- SET_TIME loads the clock, restarts its second and clears UNSET. A step of 60 s or less realigns past the later of
the clock and the last sample; a larger one appends a TIME_STEP mark, keeps the last-step record, raises CLOCK_STEPPED and
realigns past the new time. The mark enters the append buffer as a sample's record does: it carries the dropped count, is
itself dropped and counted when 32 records wait, and in DEGRADED takes the place of the oldest record of a full ring, which
drags the cursors behind it (R27 to R29, R142, R145, R151; log 46 for which of two times is the later, log 37 for a dropped
count in DEGRADED). The payload carries Δ, saturated. A sample the clock has advanced to fires first, at the old time: the
model's choice of order (log 7). -/
def Obligations.SetTimeStepsTheClock : Prop :=
  ∀ (p : Port) (a b c d : Byte) (s : State), s.takes p 0x03#8 [a, b, c, d] = true →
    let new := word32 a b c d
    let delta := (new.toNat : Int) - s.backup.clock.toNat
    let base := max new.toNat ((s.sched.lastSample.map BitVec.toNat).getD 0)
    let small : BackupDomain := { s.backup with clock := new, subSecond := 0, unset := false }
    let large : BackupDomain := { small with lastStep := some ⟨s.backup.clock, new, s.uptime⟩ }
    let mark : LogRecord :=
      ⟨s.store.nextSeq, s.store.dropped, .mark s.backup.clock new s.backup.unset s.warn.level⟩
    let marked : Store :=
      if s.store.degraded then
        { s.store with buffer := s.store.buffer ++ [{ mark with dropped := 0 }], nextSeq := s.store.nextSeq + 1 }
      else if s.store.buffer.length < 32 then
        { s.store with buffer := s.store.buffer ++ [mark], dropped := 0, nextSeq := s.store.nextSeq + 1 }
      else { s.store with dropped := min 255 (s.store.dropped + 1) }
    let realigned : Schedule :=
      { s.sched with nextSample := nextSampleAfter s.interval new.toNat, lastSample := none }
    let sent := le8 1 ++ sle32 (max (-2147483648) (min 2147483647 delta))
    (s.sampleDue = false → delta.natAbs ≤ 60 →
      exec (.setTime p [a, b, c, d]) s = .next ({ s.arrived p [a, b, c, d] with
        backup := small
        sched := { s.sched with nextSample := nextSampleAfter s.interval base } }.answered p 0x03#8 .ok
          (le8 0 ++ sle32 delta))) ∧
    (s.sampleDue = false → 60 < delta.natAbs → s.store.degraded = false ∨ s.store.buffer.length < 32 →
      exec (.setTime p [a, b, c, d]) s = .next (({ s.arrived p [a, b, c, d] with
        backup := large, store := marked, sched := realigned }.raiseAll .clockStepped).answered p 0x03#8 .ok sent)) ∧
    (∀ r rest, s.sampleDue = false → 60 < delta.natAbs → s.store.degraded = true → s.store.buffer = r :: rest →
      32 ≤ s.store.buffer.length →
      ∃ t : State, exec (.setTime p [a, b, c, d]) s = .next t ∧
        t = { s.arrived p [a, b, c, d] with
          backup := large
          store := { s.store with
            buffer := rest ++ [{ mark with dropped := 0 }]
            firstSeq := r.seq + 1
            nextSeq := s.store.nextSeq + 1 }
          sched := realigned
          ports := t.ports } ∧
        ∀ q,
          let x := (s.arrived p [a, b, c, d]).port q
          let pushed := behind s.store.firstSeq (r.seq + 1) x.cursor
          let noted (k : EventKind) (es : List EventEntry) :=
            if x.enables.getLsbD k.group.bit = true then addEvent new k es else es
          let kept : PortState := { x with
            cursor := if pushed then r.seq + 1 else x.cursor
            lost := if pushed then min 4294967295 (x.lost + (r.seq + 1 - x.cursor).toNat) else x.lost
            events := noted .clockStepped (if pushed then noted .logLost x.events else x.events) }
          t.port q = if q = p then { kept with request := none, reply := some ⟨.ok, 0x03#8, sent, false⟩ } else kept) ∧
    (s.sampleDue = true → ∃ (t : State) (x : ComposedSample), exec (.setTime p [a, b, c, d]) s = .next t ∧
      t.sel.newest = some x ∧ x.sample.time = s.backup.clock ∧ x.sample.uptime = s.uptime ∧ x.sample.extra = false ∧
      t.backup.clock = new ∧ t.backup.subSecond = 0 ∧ t.backup.unset = false ∧
      (delta.natAbs ≤ 60 → t.backup.lastStep = s.backup.lastStep ∧ t.sched.lastSample = some s.backup.clock ∧
        t.sched.nextSample = nextSampleAfter t.interval (max new.toNat s.backup.clock.toNat) ∧
        (t.port p).reply = some ⟨.ok, 0x03#8, le8 0 ++ sle32 delta, false⟩) ∧
      (60 < delta.natAbs → t.backup.lastStep = some ⟨s.backup.clock, new, s.uptime⟩ ∧ t.sched.lastSample = none ∧
        t.sched.nextSample = nextSampleAfter t.interval new.toNat ∧
        (t.port p).reply = some ⟨.ok, 0x03#8, sent, false⟩ ∧
        (s.store.degraded = false → s.store.buffer.length ≤ 32 →
          let made : List LogRecord := [⟨s.store.nextSeq, s.store.dropped, .sample x⟩,
            ⟨s.store.nextSeq + 1, 0, .mark s.backup.clock new s.backup.unset t.warn.level⟩]
          t.store.buffer = (s.store.buffer ++ made).take 32)))

/-- The station clock advances by one, wrapping, unless it is held at 0 for the scan or its store has run out without
supply; a sample due at that second fires first, the model's choice of order (R20, R21, R25; log 7). It is due once its
phase, which grows by 10^7 at each capture tick while the clock counts, has reached the second trimmed by the reference
trim, and the advance takes just that second out of the phase (R189; log 8 for the unit). That the command advances the
clock whatever its sub-second phase, which then starts again from 0, is the model's choice as well (log 2). The backup store
is lost only without supply (R20). -/
def Obligations.StationClockAdvances : Prop :=
  (∀ s : State, s.backup.held = false → (s.phase ≠ .off ∨ s.backup.valid = true) →
    let second := (100000 * (10000000 + s.backup.trim)).toNat
    (s.clockDue = true ↔ second ≤ s.backup.subSecond) ∧
    s.phaseTicked = { s.backup with subSecond := s.backup.subSecond + 10000000 } ∧
    (s.sampleDue = false → ∃ left : Nat,
      exec .stationClockAdvance s =
        .next { s with backup := { s.backup with clock := s.backup.clock + 1, subSecond := left } } ∧
      (second ≤ s.backup.subSecond → left + second = s.backup.subSecond) ∧
      (s.backup.subSecond < second → left = 0))) ∧
  (∀ s : State, s.backup.held = true ∨ (s.phase = .off ∧ s.backup.valid = false) →
    s.clockDue = false ∧ s.phaseTicked = s.backup) ∧
  (∀ s : State, s.sampleDue = false → s.backup.held = true → s.phase ≠ .off →
    exec .stationClockAdvance s = .next { s with backup := { s.backup with subSecond := 0 } }) ∧
  (∀ s : State, s.phase = .off → s.backup.valid = false → exec .stationClockAdvance s = .next s) ∧
  (∀ s : State, s.configHolds = true → s.sampleDue = true → ∃ u, exec .scheduledSample s = .next u ∧
    exec .stationClockAdvance s = exec .stationClockAdvance u) ∧
  (∀ s : State, s.phase = .off →
    exec .backupStoreExhausted s = .next { s with backup := { s.backup with valid := false } }) ∧
  (∀ s : State, s.phase ≠ .off → exec .backupStoreExhausted s = .next s)

/-- A sample, scheduled or requested, is composed with the station time and uptime of its firing and the verdict it
leaves, restarts the phase-error interval, and enters the append buffer, or is dropped and counted when 32 records
wait, or the ring in DEGRADED; a scheduled sample sets the next sample time, a requested one leaves it, but where the
level changes and the new interval gives an earlier one. It carries what both channels hand over, the stage of its source,
and the discharge of the ACTIVE set. The warning unit evaluates it, and its stage joins the accumulators of an active run
(R2, R25, R26, R31, R35, R43, R44, R67, R78, R109, R141, R142, R151). That a dropped count held at the entry to DEGRADED
stays and joins no record of the ring is the model's reading (log 37), which of two times is the later across the wrap and
at equal intervals its choice (log 46, log 45); whether a run parked by the sample's own rise still takes its stage is left
open, as R109 leaves it (log 9). -/
def Obligations.SampleIsComposedAndLogged : Prop :=
  (∀ s : State, s.phase = .ready → s.backup.clock = s.sched.nextSample →
    ∃ (t : State) (c : ComposedSample), exec .scheduledSample s = .next t ∧ sampleLeaves s t c false ∧
      t.ports.l.request = s.ports.l.request ∧
      sampleSchedules s t (nextSampleAfter s.interval s.backup.clock.toNat)) ∧
  (∀ (p : Port) (s : State), s.takes p 0x14#8 [] = true →
    (∀ u, s.sched.lastUptime = some u → u + 10 ≤ s.uptime) →
    ∃ (t : State) (c : ComposedSample), exec (.requestSample p []) s = .next t ∧ sampleLeaves s t c true ∧
      (t.port p).request = none ∧
      (t.port p).reply = some ⟨.ok, 0x14#8, leWord s.backup.clock ++ le32 s.uptime, false⟩ ∧
      sampleSchedules s t s.sched.nextSample) ∧
  (∀ (p : Port) (u : Nat) (s : State), s.takes p 0x14#8 [] = true → s.sched.lastUptime = some u →
    s.uptime < u + 10 →
    exec (.requestSample p []) s = .next ((s.arrived p []).answered p 0x14#8 .busy []))

/-! ### Rating sets -/

/-- What the DRAFT slot's table refuses (R52): a draft another port edits or any that activates HELD, an edit without a
draft WRONG_STATE, an activation while a released one is in flight BUSY. A refused command changes nothing. -/
def Obligations.DraftCommandsFollowTheSlot : Prop :=
  ∀ (i : Instr) (r : Request) (s : State), requestOf i = some r → s.takes r.port r.code r.payload = true →
    0x22 ≤ r.code.toNat → r.code.toNat ≤ 0x28 → payloadLengthFits r.code r.payload.length = true →
    let refused st := exec i s = .next ((s.arrived r.port r.payload).answered r.port r.code st [])
    (∀ owner d, s.rating.draft = .editing owner d → owner ≠ r.port → refused .held) ∧
    (∀ owner, s.rating.draft = .activating owner → refused .held) ∧
    (s.rating.draft = .empty → r.code ≠ 0x22#8 → refused .wrongState) ∧
    (∀ d, s.rating.draft = .previous d → 0x23 ≤ r.code.toNat → r.code.toNat ≤ 0x26 → refused .wrongState) ∧
    (∀ f, s.rating.inFlight = some f → f.owner = none → r.code = 0x27#8 →
      ((∃ d, s.rating.draft = .editing r.port d) ∨ ∃ d, s.rating.draft = .previous d) → refused .busy)

/-- DRAFT_BEGIN opens a draft for its port, empty or a copy of ACTIVE without its id, and DRAFT_DISCARD empties the
slot (R53, R58). -/
def Obligations.DraftBeginsAndIsDiscarded : Prop :=
  (∀ (p : Port) (b : Byte) (s : State), s.takes p 0x22#8 [b] = true →
    (s.rating.draft = .empty ∨ (∃ d, s.rating.draft = .editing p d) ∨ ∃ d, s.rating.draft = .previous d) →
    (b.toNat = 0 ∨ (b.toNat = 1 ∧ s.rating.active = none) →
      exec (.draftBegin p [b]) s = .next (((s.arrived p [b]).setDraft
        (.editing p { id := 0, points := [], shifts := [], ext := 500 })).answered p 0x22#8 .ok [0#8, 0#8])) ∧
    (∀ r, b.toNat = 1 → s.rating.active = some r →
      exec (.draftBegin p [b]) s = .next (((s.arrived p [b]).setDraft
        (.editing p { id := 0, points := r.points, shifts := r.shifts, ext := r.ext })).answered p 0x22#8 .ok
          [BitVec.ofNat 8 r.points.length, BitVec.ofNat 8 r.shifts.length])) ∧
    (1 < b.toNat → exec (.draftBegin p [b]) s = .next ((s.arrived p [b]).answered p 0x22#8 .badArgument []))) ∧
  (∀ (p : Port) (s : State), s.takes p 0x28#8 [] = true →
    ((∃ d, s.rating.draft = .editing p d) ∨ ∃ d, s.rating.draft = .previous d) →
    exec (.draftDiscard p []) s = .next (((s.arrived p []).setDraft .empty).answered p 0x28#8 .ok []))

/-- DRAFT_PUT_POINTS writes its points in order at the first index, overwriting and extending, without leaving a gap,
passing 64 points or leaving R49's ranges; a payload that is not 1 byte and 1 to 20 points is refused (R54). -/
def Obligations.DraftPutPointsWritesInOrder : Prop :=
  (∀ (p : Port) (pl : List Byte) (s : State), s.takes p 0x23#8 pl = true →
    pl.length % 6 ≠ 1 ∨ pl.length < 7 ∨ 121 < pl.length →
    exec (.draftPutPoints p pl) s = .next ((s.arrived p pl).answered p 0x23#8 .badArgument [])) ∧
  ∀ (p : Port) (first : Byte) (ps : List RatingPoint) (d : RatingSet) (s : State),
    let pl := first :: ps.flatMap (fun x => sle16 x.stage ++ le32 x.q)
    s.takes p 0x23#8 pl = true → s.rating.draft = .editing p d → 1 ≤ ps.length → ps.length ≤ 20 →
    (∀ x ∈ ps, -32768 ≤ x.stage ∧ x.stage ≤ 32767 ∧ x.q < 2 ^ 32) →
    let fits := first.toNat ≤ d.points.length ∧ first.toNat + ps.length ≤ 64 ∧
      ∀ x ∈ ps, -9999 ≤ x.stage ∧ x.stage ≤ 29999 ∧ x.q ≤ 100000000
    let points := d.points.take first.toNat ++ ps ++ d.points.drop (first.toNat + ps.length)
    (fits → exec (.draftPutPoints p pl) s = .next (((s.arrived p pl).setDraft
        (.editing p { d with points := points })).answered p 0x23#8 .ok
          [BitVec.ofNat 8 (max d.points.length (first.toNat + ps.length)), BitVec.ofNat 8 d.shifts.length])) ∧
    (¬fits → exec (.draftPutPoints p pl) s = .next ((s.arrived p pl).answered p 0x23#8 .badArgument []))

/-- DRAFT_TRUNCATE drops the points at its count and above, and refuses a count above the present one (R55);
DRAFT_SET_EXTENSION stores its value within 0 to 5,000, CLAMPED when it lay outside, and replies with it (R57). -/
def Obligations.DraftIsTruncatedAndExtended : Prop :=
  (∀ (p : Port) (b : Byte) (d : RatingSet) (s : State), s.takes p 0x24#8 [b] = true →
    s.rating.draft = .editing p d →
    (b.toNat ≤ d.points.length →
      exec (.draftTruncate p [b]) s = .next (((s.arrived p [b]).setDraft
        (.editing p { d with points := d.points.take b.toNat })).answered p 0x24#8 .ok
          [b, BitVec.ofNat 8 d.shifts.length])) ∧
    (d.points.length < b.toNat →
      exec (.draftTruncate p [b]) s = .next ((s.arrived p [b]).answered p 0x24#8 .badArgument []))) ∧
  (∀ d : RatingSet, d.points.take 0 = [] ∧ d.points.take d.points.length = d.points) ∧
  (∀ (p : Port) (x : Int) (d : RatingSet) (s : State), s.takes p 0x26#8 (sle16 x) = true →
    s.rating.draft = .editing p d → -32768 ≤ x → x ≤ 32767 →
    let stored := max 0 (min 5000 x)
    exec (.draftSetExtension p (sle16 x)) s = .next (((s.arrived p (sle16 x)).setDraft
      (.editing p { d with ext := stored })).answered p 0x26#8
        (if 0 ≤ x ∧ x ≤ 5000 then .ok else .clamped) (sle16 stored)))

/-- DRAFT_PUT_SHIFT writes or extends at its index, and an entry of time 0 and shift 0 removes the highest one
(R56). -/
def Obligations.DraftPutShiftWritesOrRemoves : Prop :=
  ∀ (p : Port) (i : Byte) (t : Word32) (x : Int) (d : RatingSet) (s : State),
    let pl := i :: (leWord t ++ sle16 x)
    s.takes p 0x25#8 pl = true → s.rating.draft = .editing p d → -32768 ≤ x → x ≤ 32767 →
    let fits := i.toNat ≤ 7 ∧ i.toNat ≤ d.shifts.length ∧ -2000 ≤ x ∧ x ≤ 2000
    let removal := t = 0 ∧ x = 0
    let badly := exec (.draftPutShift p pl) s = .next ((s.arrived p pl).answered p 0x25#8 .badArgument [])
    let well shifts := exec (.draftPutShift p pl) s = .next (((s.arrived p pl).setDraft
      (.editing p { d with shifts := shifts })).answered p 0x25#8 .ok
        [BitVec.ofNat 8 d.points.length, BitVec.ofNat 8 shifts.length])
    (¬fits → badly) ∧
    (fits → removal → i.toNat + 1 = d.shifts.length → well d.shifts.dropLast) ∧
    (fits → removal → i.toNat + 1 ≠ d.shifts.length → badly) ∧
    (fits → ¬removal → i.toNat < d.shifts.length → well (d.shifts.set i.toNat ⟨t, x⟩)) ∧
    (fits → ¬removal → i.toNat = d.shifts.length → well (d.shifts ++ [⟨t, x⟩]))

/-- DRAFT_ACTIVATE checks an edited draft, gives it or the PREVIOUS set the id above ACTIVE's, and holds its reply while
the image is programmed; while the store is DEGRADED it is refused (R59, R60, R62, R63). -/
def Obligations.DraftActivateStartsTheActivation : Prop :=
  ∀ (p : Port) (s : State), s.takes p 0x27#8 [] = true → s.rating.releasedInFlight = false →
    let begun (set : RatingSet) (old : Option Nat) := { (s.arrived p []).serving p 0x27#8 with
      rating := { s.rating with
        draft := .activating p
        inFlight := some ⟨{ set with id := nextId s.rating.activeId }, old, some p, some p⟩ }
      store := { s.store with class4 := s.store.class4 ++
        [.image { set with id := nextId s.rating.activeId } s.store.flash.nextImage 0 false] } }
    (∀ d kind index, s.rating.draft = .editing p d → d.activationFault = some (kind, index) →
      exec (.draftActivate p []) s =
        .next ((s.arrived p []).answered p 0x27#8 .checkFailed (le8 kind ++ le8 index))) ∧
    (∀ d, s.rating.draft = .editing p d → d.activationFault = none → s.store.degraded = false →
      exec (.draftActivate p []) s = .next (begun d none)) ∧
    (∀ d, s.rating.draft = .previous d → s.store.degraded = false →
      exec (.draftActivate p []) s = .next (begun d (some d.id))) ∧
    (∀ d, s.rating.draft = .editing p d → d.activationFault = none → s.store.degraded = true →
      exec (.draftActivate p []) s = .next ((s.arrived p []).answered p 0x27#8 .storeFault [])) ∧
    (∀ d, s.rating.draft = .previous d → s.store.degraded = true →
      exec (.draftActivate p []) s = .next ((s.arrived p []).answered p 0x27#8 .storeFault []))

/-- The shift in force is that of the entry with the greatest effective time not after t, 0 when there is none
(R65). -/
def Obligations.ShiftInForceIsTheLatestEffective : Prop :=
  ∀ (r : RatingSet) (t : Word32), r.shifts.Pairwise (fun a b => a.effective < b.effective) →
    (∀ e ∈ r.shifts, e.effective ≤ t → (∀ x ∈ r.shifts, x.effective ≤ t → x.effective ≤ e.effective) →
      r.shiftAt t = e.shift) ∧
    ((∀ e ∈ r.shifts, t < e.effective) → r.shiftAt t = 0)

/-- The discharge at a stage and time under a valid set, case by case, with its flags and its bounds (R66). -/
def Obligations.DischargeFollowsTheSegments : Prop :=
  ∀ (r : RatingSet) (stage : Int) (t : Word32) (first last before : RatingPoint), r.valid = true →
    r.points.head? = some first → r.points.getLast? = some last →
    r.points[r.points.length - 2]? = some before →
    let h := stage + r.shiftAt t
    let segment (a b : RatingPoint) (x : Int) : Nat :=
      a.q + (2 * ((b.q - a.q) * (x - a.stage).toNat) + (b.stage - a.stage).toNat) / (2 * (b.stage - a.stage).toNat)
    let atLimit := segment before last (last.stage + r.ext)
    let capped (q : Nat) (below extrapolated beyond : Bool) : Nat × RatingFlags :=
      (min 4000000000 q, ⟨below, extrapolated, beyond, decide (4000000000 < q)⟩)
    (h ≤ first.stage → r.rate stage t = capped first.q true false false) ∧
    (∀ (j : Nat) (a b : RatingPoint), r.points[j]? = some a → r.points[j + 1]? = some b → first.stage < h →
      a.stage ≤ h → h < b.stage →
      r.rate stage t = capped (segment a b h) false false false) ∧
    (last.stage ≤ h → h ≤ last.stage + r.ext →
      r.rate stage t = capped (segment before last h) false (decide (last.stage < h)) false) ∧
    (last.stage + r.ext < h → r.rate stage t = capped atLimit false false true) ∧
    first.q ≤ (r.rate stage t).1 ∧ (r.rate stage t).1 ≤ min 4000000000 atLimit

/-! ### Flood warning -/

/-- The computed level of a sample with a stage is the highest that qualifies under the configured items, NORMAL when
none does, and GET_WARNING shows it; an absent rate qualifies no level, nor does a negative one within the items'
ranges (R72, R73). -/
def Obligations.ComputedLevelIsTheHighestThatQualifies : Prop :=
  ∀ (s : State) (x : StageSample) (stage : Int), x.stage = some stage →
    let qualifies (a : Above) := s.cfg.get (.stageEnter a) ≤ stage ∨
      ∃ rate, x.rate = some rate ∧ s.cfg.get (.rateEnter a) ≤ rate ∧ s.cfg.get (.rateFloor a) ≤ stage
    let holds (c : Level) := (s.evaluate x).warn.computed = some c ∧
      (s.evaluate x).warningPayload[1]? = some (BitVec.ofNat 8 c.rank)
    (qualifies .danger → holds .danger) ∧
    (¬qualifies .danger → qualifies .warning → holds .warning) ∧
    (¬qualifies .danger → ¬qualifies .warning → qualifies .watch → holds .watch) ∧
    (¬qualifies .danger → ¬qualifies .warning → ¬qualifies .watch → holds .normal) ∧
    (x.rate = none → ∀ a, qualifies a ↔ s.cfg.get (.stageEnter a) ≤ stage) ∧
    (s.cfg.inRange = true → (∃ rate, x.rate = some rate ∧ rate < 0) →
      ∀ a, qualifies a ↔ s.cfg.get (.stageEnter a) ≤ stage)

/-- A sample's level: a rise at once, a fall to the computed level once the clear condition of the current level has
held for hold_time, and otherwise the level it found, with nothing raised; a change raises LEVEL_CHANGED on all ports and
realigns the schedule, a rise above run_limit parks an active run, a fall parks none; a rise to DANGER sounds the siren, and
a fall from DANGER stops it (R26, R74 to R76, R78 to R80, R83; log 45 and log 46 for the realignment at equal intervals and
across the wrap). A sample without a stage leaves level and siren, counts towards stage_lost_samples, and at that count sets
FAULT and raises STAGE_LOST once; a sample with a stage ends both (R77). -/
def Obligations.LevelRisesAtOnceAndFallsAfterTheHold : Prop :=
  (∀ (s : State) (x : StageSample),
    let t := s.evaluate x
    let count := min 255 (s.warn.stageLost + 1)
    let lost := s.cfg.get .stageLostSamples ≤ (count : Int)
    (x.stage = none → t.warn.level = s.warn.level ∧ t.warn.siren = s.warn.siren ∧ t.warn.sirenStart = s.warn.sirenStart ∧
      t.warn.lastChange = s.warn.lastChange ∧ t.warn.clearSince = none ∧ t.warn.computed = none ∧
      t.warn.stageLost = count ∧ (t.warn.fault = true ↔ s.warn.fault = true ∨ lost) ∧
      t.ports = (if lost ∧ s.warn.fault = false then (s.raiseAll .stageLost).ports else s.ports) ∧ t.run = s.run ∧
      t.sched = s.sched ∧ t.store = s.store) ∧
    (x.stage ≠ none → t.warn.stageLost = 0 ∧ t.warn.fault = false)) ∧
  ∀ (s : State) (x : StageSample) (stage : Int) (items : LevelItems) (c : Level), x.stage = some stage →
    c = s.cfg.warnItems.computed stage x.rate →
    let t := s.evaluate x
    let candidate := nextSampleAfter (s.cfg.intervalOf c) s.backup.clock.toNat
    let changes := t.warn.level = c ∧ t.warn.clearSince = none ∧
      t.warn.lastChange = some ⟨x.time, x.uptime, s.warn.level⟩ ∧ t.store = s.store ∧
      t.sched = (if candidate < s.sched.nextSample then { s.sched with nextSample := candidate } else s.sched)
    let stays := t.warn.level = s.warn.level ∧ t.warn.lastChange = s.warn.lastChange ∧
      t.warn.siren = s.warn.siren ∧ t.warn.sirenStart = s.warn.sirenStart ∧ t.ports = s.ports ∧ t.run = s.run ∧
      t.sched = s.sched ∧ t.store = s.store
    (s.warn.level.rank < c.rank →
      changes ∧
      (c = .danger → t.warn.siren = .sounding ∧ t.warn.sirenStart = some x.uptime) ∧
      (c ≠ .danger → s.warn.siren = .test → t.warn.siren = .off) ∧
      (∀ r, s.run = some r → r.active = true → s.cfg.get .runLimit < (c.rank : Int) →
        t.run = some { r with
          state := .parked, obs := none, parkReason := some .level, parkUptime := some s.uptime,
          silenceStart := none } ∧
        t.meter = { s.meter with counting := false } ∧
        t.ports = (((s.raiseAll .levelChanged).raiseAll .runParked).raiseOn .c .recall).ports) ∧
      ((∀ r, s.run = some r → r.active = false) ∨ (c.rank : Int) ≤ s.cfg.get .runLimit →
        t.run = s.run ∧ t.meter = s.meter ∧ t.ports = (s.raiseAll .levelChanged).ports)) ∧
    (s.warn.level = .normal → c = .normal → stays ∧ t.warn.clearSince = none) ∧
    (c.rank ≤ s.warn.level.rank → s.cfg.warnItems.of s.warn.level = some items →
      items.clear stage x.rate = false → stays ∧ t.warn.clearSince = none) ∧
    (c.rank ≤ s.warn.level.rank → s.cfg.warnItems.of s.warn.level = some items →
      items.clear stage x.rate = true →
      let since := s.warn.clearSince.getD x.uptime
      ((x.uptime : Int) - since < s.cfg.get .holdTime → stays ∧ t.warn.clearSince = some since) ∧
      (s.cfg.get .holdTime ≤ (x.uptime : Int) - since →
        changes ∧ t.run = s.run ∧ t.meter = s.meter ∧ t.ports = (s.raiseAll .levelChanged).ports ∧
        (s.warn.level = .danger → s.warn.siren = .sounding ∨ s.warn.siren = .silenced →
          t.warn.siren = .off ∧ t.warn.sirenStart = none)))

/-- ACK_SIREN silences a SOUNDING siren and is refused otherwise, both with the siren state; TEST_SIREN starts a test
at NORMAL with the siren OFF; the timers end the sounding at siren_max and the test at 5 s. A siren_max stored within
a second acts at the next one: the timer has also to reach the limit that the second began with, which a new uptime
second takes from the live configuration (R81, R82, R84; log 35). In READY the outputs follow level and siren state: BEACON
is on at WARNING, at DANGER and in TEST, SIREN in SOUNDING and TEST, so only at DANGER or at NORMAL, WARN_OUT at WARNING
and DANGER; outside READY all three are off (R86). -/
def Obligations.SirenIsSilencedTestedAndTimed : Prop :=
  (∀ (p : Port) (s : State), s.takes p 0x31#8 [] = true → s.warn.siren = .sounding →
    exec (.ackSiren p []) s = .next (({ s.arrived p [] with
      warn := { s.warn with siren := .silenced, sirenStart := none } }.raiseAll .sirenAcked).answered p 0x31#8 .ok
        [2#8])) ∧
  (∀ (p : Port) (s : State), s.takes p 0x31#8 [] = true → s.warn.siren ≠ .sounding →
    exec (.ackSiren p []) s = .next ((s.arrived p []).answered p 0x31#8 .wrongState (le8 s.warn.siren.code))) ∧
  (∀ (p : Port) (s : State), s.takes p 0x32#8 [] = true → s.warn.level = .normal → s.warn.siren = .off →
    exec (.testSiren p []) s = .next ({ s.arrived p [] with
      warn := { s.warn with siren := .test, testStart := some s.uptime } }.answered p 0x32#8 .ok [])) ∧
  (∀ (p : Port) (s : State), s.takes p 0x32#8 [] = true → (s.warn.level ≠ .normal ∨ s.warn.siren ≠ .off) →
    exec (.testSiren p []) s = .next ((s.arrived p []).answered p 0x32#8 .wrongState [])) ∧
  (∀ (start : Nat) (s : State), s.warn.siren = .sounding → s.warn.sirenStart = some start →
    (s.cfg.get .sirenMax ≤ (s.uptime : Int) - start → s.limits.sirenMax ≤ (s.uptime : Int) - start →
      exec .sirenTimerExpiry s = .next ({ s with
        warn := { s.warn with siren := .silenced, sirenStart := none } }.raiseAll .sirenTimedOut)) ∧
    ((s.uptime : Int) - start < s.cfg.get .sirenMax ∨ (s.uptime : Int) - start < s.limits.sirenMax →
      exec .sirenTimerExpiry s = .next s)) ∧
  (∀ s : State, s.pending = [] → s.dueEvent = none → s.timeBlocked = false → s.phase ≠ .off →
    ∃ t, step s = .next t ∧ t.limits = (if s.uptimeSub + 1 < 100000 then s.limits
      else ⟨s.cfg.get .sirenMax, s.cfg.get .silenceLimit, s.cfg.get .parkLifetime⟩)) ∧
  (∀ (start : Nat) (s : State), s.warn.siren = .test → s.warn.testStart = some start →
    (start + 5 ≤ s.uptime → exec .sirenTestExpiry s = .next { s with
      warn := { s.warn with siren := .off, testStart := none } }) ∧
    (s.uptime < start + 5 → exec .sirenTestExpiry s = .next s)) ∧
  (∀ s : State, s.phase = .ready →
    (s.beacon = true ↔ s.warn.level = .warning ∨ s.warn.level = .danger ∨ s.warn.siren = .test) ∧
    (s.sirenOut = true ↔ s.warn.siren = .sounding ∨ s.warn.siren = .test) ∧
    (s.warnOut = true ↔ s.warn.level = .warning ∨ s.warn.level = .danger) ∧
    (s.sirenHolds = true → s.sirenOut = true →
      (s.warn.level = .danger ∧ s.warn.siren = .sounding) ∨ (s.warn.level = .normal ∧ s.warn.siren = .test))) ∧
  (∀ s : State, s.phase ≠ .ready → s.beacon = false ∧ s.sirenOut = false ∧ s.warnOut = false)

/-! ### Cableway gauging runs -/

/-- RUN_OPEN, judged step by step: in IDLE it opens a run with the next id, an empty table and the description sent, and
hands the header to the journal queue; over a PARKED run it first ends that run, its own reply held, or one that is
NOT_STORED at once; in the other states, out of range, above run_limit, in DEGRADED or without queue places it is refused
and changes nothing (R90 to R94, R102, R105, R110). That the trailer of a run so ended takes the station clock as its close
time, also without a close computation, is the model's choice (log 29). -/
def Obligations.RunOpensOrIsRefusedInOrder : Prop :=
  ∀ (p : Port) (pl : List Byte) (d : RunDescription) (mask : Nat) (s : State), s.takes p 0x40#8 pl = true →
    parseRunOpen pl = some (d, mask) →
    let refused st := exec (.runOpen p pl) s = .next ((s.arrived p pl).answered p 0x40#8 st [])
    let idle := s.run = none
    let parked := ∃ r, s.run = some r ∧ r.state = .parked
    let places := s.store.journalQueue.length
    (∀ r, s.run = some r → r.state = .opened ∨ r.state = .observing → refused .wrongState) ∧
    (∀ r, s.run = some r → r.state = .closing → refused .busy) ∧
    (idle ∨ parked → runOpenFits d mask = false → refused .badArgument) ∧
    (idle ∨ parked → runOpenFits d mask = true → s.lockedOut = true → refused .lockout) ∧
    (idle ∨ parked → runOpenFits d mask = true → s.lockedOut = false → s.store.degraded = true →
      refused .storeFault) ∧
    (runOpenFits d mask = true → s.lockedOut = false → s.store.degraded = false →
      (idle ∧ 4 ≤ places) ∨ (parked ∧ 3 ≤ places) → refused .busy) ∧
    (runOpenFits d mask = true → s.lockedOut = false → s.store.degraded = false → idle → places < 4 →
      ∃ (t : State) (r : Run), exec (.runOpen p pl) s = .next t ∧
        t = { s with run := some r, newestRunId := r.id, store := t.store, ports := t.ports } ∧
        r.state = .opened ∧ r.id = (if s.newestRunId = 65535 then 1 else s.newestRunId + 1) ∧
        r.openTime = s.backup.clock ∧
        r.desc = { d with coef := if d.coef = 0 then (s.cfg.get .surfaceCoef).toNat else d.coef } ∧
        r.stageAtOpen = s.newestStage ∧ r.table = [] ∧ r.totalQ = 0 ∧ r.totalA = 0 ∧ r.openVertical = none ∧
        r.obs = none ∧ r.stageCount = 0 ∧ r.referenceChanged = false ∧ r.sourceChanged = false ∧
        r.notStored = false ∧ r.silenceStart = (if d.linkSilent then some s.uptime else none) ∧
        t.store = { s.store with journalQueue := s.store.journalQueue ++
          [⟨.header ⟨r.id, r.openTime, r.desc, r.stageAtOpen⟩, 0⟩] } ∧
        (∀ q, q ≠ p → t.port q = s.port q) ∧
        t.port p = { (s.arrived p pl).port p with request := none, reply := some ⟨.ok, 0x40#8,
          le16 r.id ++ sle16 (r.stageAtOpen.getD 0) ++ flagsByte [r.stageAtOpen.isSome, false] ++ le16 0 ++ le8 0,
          false⟩ }) ∧
    (∀ r, runOpenFits d mask = true → s.lockedOut = false → s.store.degraded = false → s.run = some r →
      r.state = .parked → r.notStored = false → places < 3 →
      ∃ (t : State) (r' : Run) (c : CloseRecord), exec (.runOpen p pl) s = .next t ∧ t.run = some r' ∧
        r'.state = .closing ∧ r'.id = r.id ∧ r'.openVertical = none ∧ r'.ending = some (.supersede d) ∧
        r'.replyTo = some p ∧ r'.closeRec = some c ∧ c.runId = r.id ∧ c.closeTime = s.backup.clock ∧
        c.result = (if 3 ≤ r.table.length then .incomplete else .abandoned) ∧ c.totalQ = r.totalQ ∧
        t.store = { s.store with journalQueue := s.store.journalQueue ++ [⟨.trailer c, 0⟩] } ∧
        t.port p = { (s.arrived p pl).port p with request := some 0x40#8, reply := none } ∧ t.gaugings = s.gaugings) ∧
    (∀ r, runOpenFits d mask = true → s.lockedOut = false → s.store.degraded = false → s.run = some r →
      r.state = .parked → r.notStored = true → places < 3 →
      ∃ (t : State) (r' : Run) (c : CloseRecord), exec (.runOpen p pl) s = .next t ∧ t.run = some r' ∧
        r'.state = .opened ∧ r'.id = nextId s.newestRunId ∧ r'.table = [] ∧ r'.notStored = false ∧
        c.runId = r.id ∧ c.result = (if 3 ≤ r.table.length then .incomplete else .abandoned) ∧ c.notStored = true ∧
        t.gaugings = (if 3 ≤ r.table.length then joinList s.gaugings c else s.gaugings) ∧
        t.pendingWhereEnabled .runClosed ∧
        t.store = { s.store with journalQueue := s.store.journalQueue ++
          [⟨.header ⟨r'.id, r'.openTime, r'.desc, r'.stageAtOpen⟩, 0⟩] } ∧
        (t.port p).request = none ∧ (t.port p).reply = some ⟨.ok, 0x40#8,
          le16 r'.id ++ sle16 (r'.stageAtOpen.getD 0) ++ flagsByte [r'.stageAtOpen.isSome, true] ++ le16 r.id ++
            le8 c.result.code, false⟩)

/-- The verticals and points of an OPEN run: VERTICAL_BEGIN opens a vertical within the section, POINT_START starts an
observation of a fraction the method requires, a contact closure is counted unless it is a bounce, the observation's
end stores its point result and raises POINT_DONE, and VERTICAL_CANCEL drops the open vertical. In the other states of
R90's table each request is refused WRONG_STATE, a POINT_START during an observation BUSY (R90, R95 to R97, R99, R114,
R115). -/
def Obligations.VerticalIsBegunMeasuredAndCancelled : Prop :=
  (∀ (p : Port) (station depth cosine : Nat) (m : Byte) (r : Run) (s : State),
    let pl := le32 station ++ le16 depth ++ [m] ++ le16 cosine
    s.takes p 0x41#8 pl = true → station < 2 ^ 32 → depth < 2 ^ 16 → cosine < 2 ^ 16 → s.run = some r →
    r.state = .opened → r.openVertical = none →
    let fits := r.desc.initial ≤ station ∧ station ≤ r.desc.farBank ∧ depth ≤ 30000 ∧
      (0 < depth → m.toNat ≤ 3 ∧ (m.toNat = 1 ∨ m.toNat = 2 → 600 ≤ depth)) ∧
      (cosine = 0 ∨ (500 ≤ cosine ∧ cosine ≤ 1000))
    let method : Method := if depth = 0 then .edge else if m.toNat = 0 then .onePoint else if m.toNat = 1 then .twoPoint
      else if m.toNat = 2 then .threePoint else .surface
    (fits → exec (.verticalBegin p pl) s = .next (((s.arrived p pl).mapRun fun x =>
      { x with openVertical := some ⟨station, depth, method, cosine, []⟩ }).answered p 0x41#8 .ok
        [if holdsStation r.table station then 1#8 else 0#8, BitVec.ofNat 8 r.table.length])) ∧
    (¬fits → exec (.verticalBegin p pl) s = .next ((s.arrived p pl).answered p 0x41#8 .badArgument []))) ∧
  (∀ (p : Port) (f : Fraction) (dur : Byte) (o : OpenVertical) (r : Run) (s : State),
    let pl := [BitVec.ofNat 8 f.code, dur]
    let used := max 20 (min 200 dur.toNat)
    s.takes p 0x42#8 pl = true → s.run = some r → r.state = .opened → r.openVertical = some o → o.depth ≠ 0 →
    (f ∈ o.method.fractions → exec (.pointStart p pl) s = .next ({ (s.arrived p pl).mapRun (fun x =>
        { x with state := .observing, obs := some ⟨f, used, s.ticks⟩ }) with
        meter := ⟨true, 0, none, none, none⟩ }.answered p 0x42#8 (if used = dur.toNat then .ok else .clamped)
        (le8 used ++ le16 s.ticks.toNat))) ∧
    (f ∉ o.method.fractions →
      exec (.pointStart p pl) s = .next ((s.arrived p pl).answered p 0x42#8 .badArgument []))) ∧
  (∀ s : State, s.running = true →
    (s.meter.counting = false → exec .meterClosure s = .next s) ∧
    (∀ last, s.meter.counting = true → s.meter.lastAccepted = some last → (s.ticks - last).toNat < 200 →
      exec .meterClosure s = .next s) ∧
    (s.meter.counting = true → (∀ last, s.meter.lastAccepted = some last → 200 ≤ (s.ticks - last).toNat) →
      exec .meterClosure s = .next { s with meter :=
        ⟨true, s.meter.k + 1, if s.meter.k = 0 then some s.ticks else s.meter.tFirst, some s.ticks, some s.ticks⟩ })) ∧
  (∀ (v : OpenVertical) (o : Observation) (r : Run) (s : State), s.run = some r → r.state = .observing →
    r.obs = some o → r.openVertical = some v →
    let result := pointResult r.desc o.fraction s.meter
    (o.duration * 100000 ≤ (s.ticks - o.start).toNat →
      exec .observationComplete s = .next ({ s with
        run := some { r with
          state := .opened, obs := none, openVertical := some { v with points := insertPoint result v.points } }
        meter := { s.meter with counting := false } }.raiseAll .pointDone)) ∧
    ((s.ticks - o.start).toNat < o.duration * 100000 → exec .observationComplete s = .next s)) ∧
  (∀ (x : PointResult) (ps : List PointResult), x ∈ insertPoint x ps ∧
    ∀ y, y.fraction ≠ x.fraction → (y ∈ insertPoint x ps ↔ y ∈ ps)) ∧
  (∀ (p : Port) (r : Run) (s : State), s.takes p 0x44#8 [] = true → s.run = some r →
    (r.state = .opened ∨ r.state = .parked → r.openVertical.isSome = true →
      exec (.verticalCancel p []) s = .next (((s.arrived p []).mapRun fun x =>
        { x with openVertical := none }).answered p 0x44#8 .ok [])) ∧
    (r.state = .observing →
      exec (.verticalCancel p []) s = .next ({ (s.arrived p []).mapRun (fun x =>
          { x with state := .opened, obs := none, openVertical := none }) with
        meter := { s.meter with counting := false } }.answered p 0x44#8 .ok [])) ∧
    (r.state = .closing ∨ (r.state ≠ .observing ∧ r.openVertical = none) →
      exec (.verticalCancel p []) s = .next ((s.arrived p []).answered p 0x44#8 .wrongState []))) ∧
  (∀ (p : Port) (s : State), s.takes p 0x44#8 [] = true → s.run = none →
    exec (.verticalCancel p []) s = .next ((s.arrived p []).answered p 0x44#8 .wrongState [])) ∧
  (∀ (p : Port) (pl : List Byte) (s : State), s.takes p 0x41#8 pl = true → pl.length = 9 →
    (∀ r, s.run = some r → r.state = .opened → r.openVertical.isSome = true) →
    exec (.verticalBegin p pl) s = .next ((s.arrived p pl).answered p 0x41#8 .wrongState [])) ∧
  (∀ (p : Port) (fr dur : Byte) (s : State), s.takes p 0x42#8 [fr, dur] = true →
    let refused st := exec (.pointStart p [fr, dur]) s = .next ((s.arrived p [fr, dur]).answered p 0x42#8 st [])
    (s.run = none → refused .wrongState) ∧
    ∀ r, s.run = some r →
      (r.state = .observing → refused .busy) ∧
      (r.state = .parked ∨ r.state = .closing → refused .wrongState) ∧
      (r.state = .opened → (∀ o, r.openVertical = some o → o.depth = 0) → refused .wrongState) ∧
      (∀ o, r.state = .opened → r.openVertical = some o → o.depth ≠ 0 → 4 ≤ fr.toNat → refused .badArgument))

/-- VERTICAL_END enters the open vertical in the table, replacing one at its station, and VERTICAL_REMOVE takes one out;
the other verticals keep what was measured, the totals become the sums of the table's partials, and an entry joins the
journal queue. They are refused for a missing point, a full table, a full queue, or an unknown station, and in the other
states of R90's table WRONG_STATE, during an observation BUSY. In DEGRADED no entry is handed and the run is marked
NOT_STORED; a NOT_STORED run hands none and is not refused for the queue (R90, R98, R100, R110, R122 to R127). -/
def Obligations.VerticalEntersAndLeavesTheTable : Prop :=
  (∀ (p : Port) (o : OpenVertical) (r : Run) (s : State), s.takes p 0x43#8 [] = true → s.run = some r →
    r.state = .opened → r.openVertical = some o → r.tableHolds = true →
    let held := holdsStation r.table o.station
    let allPoints := ∀ f ∈ o.method.fractions, ∃ x ∈ o.points, x.fraction = f
    let refused st := exec (.verticalEnd p []) s = .next ((s.arrived p []).answered p 0x43#8 st [])
    (¬allPoints → refused .wrongState) ∧
    (allPoints → held = false → r.table.length = 40 → refused .tableFull) ∧
    (allPoints → held = true ∨ r.table.length < 40 → r.notStored = false → s.store.degraded = false →
      4 ≤ s.store.journalQueue.length → refused .busy) ∧
    (allPoints → held = true ∨ r.table.length < 40 → r.notStored = true ∨ s.store.journalQueue.length < 4 →
      ∃ (t : State) (tab : List Vertical) (x : Vertical), exec (.verticalEnd p []) s = .next t ∧
        t = { s with run := t.run, store := t.store, ports := t.ports } ∧
        t.run = (s.arrived p []).run.map (fun y =>
          { y with table := tab, totalQ := sumQ tab, totalA := sumA tab, openVertical := none,
                   notStored := y.notStored || s.store.degraded }) ∧
        x ∈ tab ∧ x.station = o.station ∧ x.depth = o.depth ∧ x.method = o.method ∧ x.cosine = o.cosine ∧
        x.points = o.points ∧ x.v = o.meanVelocity r.desc.coef ∧ x.supersedes = held ∧
        (∀ n, (∃ y ∈ tab, y.station = n) ↔ n = o.station ∨ ∃ y ∈ r.table, y.station = n) ∧
        (∀ y ∈ r.table, y.station ≠ o.station → ∃ z ∈ tab, z.station = y.station ∧ z.depth = y.depth ∧
          z.method = y.method ∧ z.cosine = y.cosine ∧ z.points = y.points ∧ z.v = y.v ∧ z.supersedes = y.supersedes) ∧
        t.store = (if r.notStored = false ∧ s.store.degraded = false
          then { s.store with journalQueue := s.store.journalQueue ++ [⟨.vertical r.id x, 0⟩] } else s.store) ∧
        (∀ q, q ≠ p → t.port q = s.port q) ∧
        t.port p = { (s.arrived p []).port p with request := none, reply := some ⟨.ok, 0x43#8,
          le16 x.v ++ le32 x.q ++ le32 x.a ++ le8 tab.length ++ flagsByte [held] ++ le32 (sumQ tab) ++
            le32 (sumA tab), false⟩ })) ∧
  (∀ (p : Port) (station : Nat) (r : Run) (s : State), s.takes p 0x45#8 (le32 station) = true → station < 2 ^ 32 →
    s.run = some r → r.state = .opened → r.tableHolds = true →
    let refused st := exec (.verticalRemove p (le32 station)) s = .next ((s.arrived p (le32 station)).answered p 0x45#8 st [])
    (holdsStation r.table station = false → refused .badArgument) ∧
    (holdsStation r.table station = true → r.notStored = false → s.store.degraded = false →
      4 ≤ s.store.journalQueue.length → refused .busy) ∧
    (holdsStation r.table station = true → r.notStored = true ∨ s.store.journalQueue.length < 4 →
      ∃ (t : State) (tab : List Vertical), exec (.verticalRemove p (le32 station)) s = .next t ∧
        t = { s with run := t.run, store := t.store, ports := t.ports } ∧
        t.run = (s.arrived p (le32 station)).run.map (fun y =>
          { y with table := tab, totalQ := sumQ tab, totalA := sumA tab,
                   notStored := y.notStored || s.store.degraded }) ∧
        (∀ n, (∃ y ∈ tab, y.station = n) ↔ n ≠ station ∧ ∃ y ∈ r.table, y.station = n) ∧
        (∀ y ∈ r.table, y.station ≠ station → ∃ z ∈ tab, z.station = y.station ∧ z.depth = y.depth ∧
          z.method = y.method ∧ z.cosine = y.cosine ∧ z.points = y.points ∧ z.v = y.v ∧ z.supersedes = y.supersedes) ∧
        t.store = (if r.notStored = false ∧ s.store.degraded = false
          then { s.store with journalQueue := s.store.journalQueue ++ [⟨.removal r.id station, 0⟩] } else s.store) ∧
        (∀ q, q ≠ p → t.port q = s.port q) ∧
        t.port p = { (s.arrived p (le32 station)).port p with request := none, reply := some ⟨.ok, 0x45#8,
          le8 tab.length ++ le32 (sumQ tab) ++ le32 (sumA tab), false⟩ })) ∧
  (∀ (p : Port) (s : State), s.takes p 0x43#8 [] = true →
    let refused st := exec (.verticalEnd p []) s = .next ((s.arrived p []).answered p 0x43#8 st [])
    (s.run = none → refused .wrongState) ∧
    ∀ r, s.run = some r →
      (r.state = .observing → refused .busy) ∧
      (r.state = .parked ∨ r.state = .closing ∨ (r.state = .opened ∧ r.openVertical = none) → refused .wrongState)) ∧
  (∀ (p : Port) (pl : List Byte) (s : State), s.takes p 0x45#8 pl = true → pl.length = 4 →
    let refused st := exec (.verticalRemove p pl) s = .next ((s.arrived p pl).answered p 0x45#8 st [])
    (s.run = none → refused .wrongState) ∧
    ∀ r, s.run = some r →
      (r.state = .observing → refused .busy) ∧ (r.state = .parked ∨ r.state = .closing → refused .wrongState))

/-- RUN_CLOSE, RUN_ABANDON and RUN_RESUME: a close of an OPEN run with three verticals makes the close computation, an
abandonment none; both stop the capture, hand the trailer, which the run holds while the queue is full, and hold their
reply, but for a run that is NOT_STORED or a store in DEGRADED, where the run ends at once; a resume opens a PARKED run
again unless the level is above run_limit. In the other states of R90's table each is refused WRONG_STATE, a RUN_ABANDON
in CLOSING BUSY. The close record carries the flags, the deviation and the indicated shift, by the inverse of the point
list (R68, R90, R94, R101 to R103, R106, R110, R128 to R131). -/
def Obligations.RunIsClosedAbandonedAndResumed : Prop :=
  (∀ (p : Port) (r : Run) (s : State), s.takes p 0x46#8 [] = true → s.run = some r → r.state = .opened →
    r.openVertical = none → 3 ≤ r.table.length → r.notStored = false → s.store.degraded = false →
    ∃ (t : State) (r' : Run) (c : CloseRecord), exec (.runClose p []) s = .next t ∧ t.run = some r' ∧
      t = { s with run := t.run, meter := { s.meter with counting := false }, store := t.store, ports := t.ports } ∧
      r'.state = .closing ∧ r'.ending = some .close ∧ r'.replyTo = some p ∧ r'.closeRec = some c ∧
      r'.silenceStart = none ∧ c.runId = r.id ∧ c.closeTime = s.backup.clock ∧ c.result = .complete ∧
      c.totalQ = r.totalQ ∧ c.totalA = r.totalA ∧
      c.meanVelocity = (if r.totalA = 0 then none
        else some (min 65535 ((2 * (r.totalQ * 100) + r.totalA) / (2 * r.totalA)))) ∧
      (r.stageCount ≠ 0 → c.meanStage = roundHalfAway r.stageSum r.stageCount ∧ c.stageLeast = r.stageLeast ∧
        c.stageGreatest = r.stageGreatest ∧ c.noStage = false) ∧
      (r.stageCount = 0 → s.newestStage = none → r.stageAtOpen = none → c.noStage = true ∧ c.rated = none) ∧
      (s.rating.active = none → c.rated = none ∧ c.deviation = none ∧ c.shift = none ∧ c.ratingId = none) ∧
      (c.unsteady = true ↔ r.stageCount ≠ 0 ∧ s.cfg.get .unsteadyLimit < r.stageGreatest - r.stageLeast) ∧
      (c.concentrated = true ↔
        ∃ x ∈ r.table, (r.totalQ : Int) * s.cfg.get .concentrationLimit < (x.q : Int) * 1000) ∧
      (∀ set, s.rating.active = some set → c.noStage = false →
        c.rated = some (set.rate c.meanStage s.backup.clock) ∧ c.ratingId = some set.id ∧
        c.shift = (set.inverse r.totalQ).map (fun x => x - c.meanStage) ∧
        ((set.rate c.meanStage s.backup.clock).1 = 0 → c.deviation = none) ∧
        ((set.rate c.meanStage s.backup.clock).1 ≠ 0 → c.deviation = some (max (-32767) (min 32767 (roundHalfAway
          (((r.totalQ : Int) - (set.rate c.meanStage s.backup.clock).1) * 1000)
          (set.rate c.meanStage s.backup.clock).1))))) ∧
      t.store = (if s.store.journalQueue.length < 4
        then { s.store with journalQueue := s.store.journalQueue ++ [⟨.trailer c, 0⟩] } else s.store) ∧
      r'.trailerHeld = (if s.store.journalQueue.length < 4 then r.trailerHeld else true) ∧
      t.port p = { (s.arrived p []).port p with request := some 0x46#8, reply := none } ∧
      ∀ q, q ≠ p → t.port q = s.port q) ∧
  (∀ (p : Port) (r : Run) (s : State), s.takes p 0x46#8 [] = true → s.run = some r → r.state = .opened →
    r.openVertical = none → 3 ≤ r.table.length → r.notStored = true ∨ s.store.degraded = true →
    ∃ (t : State) (c : CloseRecord), exec (.runClose p []) s = .next t ∧ t.run = none ∧ t.store = s.store ∧
      t.meter = { s.meter with counting := false } ∧ c.runId = r.id ∧ c.result = .complete ∧ c.notStored = true ∧
      c.totalQ = r.totalQ ∧ c.totalA = r.totalA ∧ t.gaugings = joinList s.gaugings c ∧
      t.pendingWhereEnabled .runClosed ∧ (t.port p).request = none ∧
      (t.port p).reply = some ⟨.ok, 0x46#8, le16 r.id ++ le8 c.result.code ++ flagsByte [c.unsteady, c.concentrated,
        true, r.referenceChanged, r.sourceChanged, c.noStage] ++ le32 r.totalQ ++ le16 (min 65535 r.totalA), false⟩) ∧
  (∀ (p : Port) (r : Run) (s : State), s.takes p 0x46#8 [] = true → s.run = some r →
    (r.state ≠ .opened ∨ r.openVertical.isSome = true ∨ r.table.length < 3) →
    exec (.runClose p []) s = .next ((s.arrived p []).answered p 0x46#8 .wrongState [])) ∧
  (∀ (p : Port) (r : Run) (s : State), s.takes p 0x47#8 [] = true → s.run = some r →
    (r.state = .closing → exec (.runAbandon p []) s = .next ((s.arrived p []).answered p 0x47#8 .busy [])) ∧
    (r.state ≠ .closing → r.notStored = false → s.store.degraded = false →
      ∃ (t : State) (r' : Run) (c : CloseRecord), exec (.runAbandon p []) s = .next t ∧ t.run = some r' ∧
        t = { s with run := t.run, meter := { s.meter with counting := false }, store := t.store,
                     ports := t.ports } ∧
        r'.state = .closing ∧ r'.ending = some .abandon ∧ r'.replyTo = some p ∧ r'.closeRec = some c ∧
        r'.openVertical = none ∧ r'.obs = none ∧ c.runId = r.id ∧ c.result = .abandoned ∧ c.totalQ = r.totalQ ∧
        c.totalA = r.totalA ∧ c.rated = none ∧
        t.store = (if s.store.journalQueue.length < 4
          then { s.store with journalQueue := s.store.journalQueue ++ [⟨.trailer c, 0⟩] } else s.store) ∧
        r'.trailerHeld = (if s.store.journalQueue.length < 4 then r.trailerHeld else true) ∧
        t.port p = { (s.arrived p []).port p with request := some 0x47#8, reply := none } ∧
        ∀ q, q ≠ p → t.port q = s.port q) ∧
    (r.state ≠ .closing → r.notStored = true ∨ s.store.degraded = true →
      exec (.runAbandon p []) s = .next (({ s.arrived p [] with
        run := none
        meter := { s.meter with counting := false } }.raiseAll .runClosed).answered p 0x47#8 .ok
          (le16 r.id ++ le8 2)))) ∧
  (∀ (p : Port) (r : Run) (u : Nat) (s : State), s.takes p 0x48#8 [] = true → s.run = some r → r.state = .parked →
    r.parkUptime = some u →
    (s.lockedOut = true → exec (.runResume p []) s = .next ((s.arrived p []).answered p 0x48#8 .lockout [])) ∧
    (s.lockedOut = false → exec (.runResume p []) s = .next (({ s.arrived p [] with
        run := some { r with
          state := .opened, parkReason := none, parkUptime := none,
          silenceStart := if r.desc.linkSilent then some s.uptime else none } }.raiseAll .runResumed).answered p
      0x48#8 .ok (le32 (s.uptime - u) ++ le8 r.table.length)))) ∧
  (∀ (p : Port) (r : Run) (s : State), s.takes p 0x48#8 [] = true → s.run = some r → r.state ≠ .parked →
    exec (.runResume p []) s = .next ((s.arrived p []).answered p 0x48#8 .wrongState [])) ∧
  (∀ (p : Port) (s : State), s.run = none →
    (s.takes p 0x46#8 [] = true →
      exec (.runClose p []) s = .next ((s.arrived p []).answered p 0x46#8 .wrongState [])) ∧
    (s.takes p 0x47#8 [] = true →
      exec (.runAbandon p []) s = .next ((s.arrived p []).answered p 0x47#8 .wrongState [])) ∧
    (s.takes p 0x48#8 [] = true →
      exec (.runResume p []) s = .next ((s.arrived p []).answered p 0x48#8 .wrongState []))) ∧
  (∀ (set : RatingSet) (q : Nat), set.valid = true →
    (∀ (i : Nat) (a : RatingPoint), set.points[i]? = some a → a.q = q →
      (∀ (j : Nat) (b : RatingPoint), j < i → set.points[j]? = some b → b.q ≠ q) →
      set.inverse q = some a.stage) ∧
    (∀ (i : Nat) (a b : RatingPoint), set.points[i]? = some a → set.points[i + 1]? = some b → a.q < q → q < b.q →
      set.inverse q = some (a.stage +
        (((2 * ((q - a.q) * (b.stage - a.stage).toNat) + (b.q - a.q)) / (2 * (b.q - a.q)) : Nat) : Int))) ∧
    ((∀ a ∈ set.points, a.q < q) ∨ (∀ a ∈ set.points, q < a.q) → set.inverse q = none))

/-- The run's timers: the silence timer's expiry parks an active run, keeping its verticals and totals, raises
RUN_PARKED on all ports and RECALL on port C; the park timer's expiry ends a PARKED run, INCOMPLETE with three
verticals or more and ABANDONED otherwise, and at once when it is NOT_STORED; a trailer held for want of room joins
the queue when a place frees. A timer has to reach the limit as its second began with it and as it stands now (R102,
R104, R105, R108, R110; log 35). -/
def Obligations.RunTimersParkAndEndTheRun : Prop :=
  (∀ (u : Nat) (r : Run) (s : State), s.run = some r → r.active = true → r.silenceStart = some u →
    (s.cfg.get .silenceLimit ≤ (s.uptime : Int) - u → s.limits.silenceLimit ≤ (s.uptime : Int) - u →
      exec .silenceTimerExpiry s = .next (({ s with
        run := some { r with
          state := .parked, obs := none, parkReason := some .linkSilent, parkUptime := some s.uptime,
          silenceStart := none }
        meter := { s.meter with counting := false } }.raiseAll .runParked).raiseOn .c .recall)) ∧
    ((s.uptime : Int) - u < s.cfg.get .silenceLimit ∨ (s.uptime : Int) - u < s.limits.silenceLimit →
      exec .silenceTimerExpiry s = .next s)) ∧
  (∀ (u : Nat) (r : Run) (s : State), s.run = some r → r.state = .parked → r.parkUptime = some u →
    ((s.uptime : Int) - u < s.cfg.get .parkLifetime ∨ (s.uptime : Int) - u < s.limits.parkLifetime →
      exec .parkTimerExpiry s = .next s) ∧
    (s.cfg.get .parkLifetime ≤ (s.uptime : Int) - u → s.limits.parkLifetime ≤ (s.uptime : Int) - u →
      r.notStored = false → s.store.degraded = false →
      s.store.journalQueue.length < 4 →
      ∃ (t : State) (r' : Run) (c : CloseRecord), exec .parkTimerExpiry s = .next t ∧ t.run = some r' ∧
        t = { s with run := t.run, meter := { s.meter with counting := false }, store := t.store,
                     ports := (s.raiseAll .parkExpired).ports } ∧
        r'.state = .closing ∧ r'.ending = some .expiry ∧ r'.replyTo = none ∧ r'.closeRec = some c ∧
        r'.openVertical = none ∧ r'.parkUptime = none ∧ c.runId = r.id ∧
        c.result = (if 3 ≤ r.table.length then .incomplete else .abandoned) ∧ c.totalQ = r.totalQ ∧
        t.store = { s.store with journalQueue := s.store.journalQueue ++ [⟨.trailer c, 0⟩] }) ∧
    (s.cfg.get .parkLifetime ≤ (s.uptime : Int) - u → s.limits.parkLifetime ≤ (s.uptime : Int) - u →
      r.notStored = true ∨ s.store.degraded = true →
      ∃ (t : State) (c : CloseRecord), exec .parkTimerExpiry s = .next t ∧ t.run = none ∧ t.store = s.store ∧
        t = { s with run := none, meter := { s.meter with counting := false }, gaugings := t.gaugings,
                     ports := ((s.raiseAll .parkExpired).raiseAll .runClosed).ports } ∧
        c.runId = r.id ∧ c.result = (if 3 ≤ r.table.length then .incomplete else .abandoned) ∧ c.notStored = true ∧
        t.gaugings = (if 3 ≤ r.table.length then joinList s.gaugings c else s.gaugings))) ∧
  (∀ (c : CloseRecord) (r : Run) (s : State), s.run = some r → r.trailerHeld = true → r.closeRec = some c →
    s.store.degraded = false →
    (s.store.journalQueue.length < 4 → exec .trailerHandover s = .next { s with
      run := some { r with trailerHeld := false }
      store := { s.store with journalQueue := s.store.journalQueue ++ [⟨.trailer c, 0⟩] } }) ∧
    (4 ≤ s.store.journalQueue.length → exec .trailerHandover s = .next s))

/-- A point's rotor rate and velocity: 0 with STALL below two contacts, the floored rate saturated at 65,535, the
segment of the meter rating chosen by n_break, and the velocity within 0 to 8,000, CLAMPED by either clamp (R117,
R118; log 38 for the quotient of contacts that span no time). -/
def Obligations.PointVelocityFollowsTheMeterRating : Prop :=
  ∀ (d : RunDescription) (f : Fraction) (m : MeterCapture),
    let r := pointResult d f m
    let quotient := (m.k - 1) * 100000000 / (d.cpr * m.delta)
    let second := d.nBreak ≠ 0 ∧ d.nBreak ≤ r.n
    let a := if second then d.a2 else d.a1
    let b := if second then d.b2 else d.b1
    let sum : Int := ((2 * (a * r.n) + 1000000) / (2 * 1000000) : Nat) + b
    r.fraction = f ∧ r.k = m.k ∧ r.delta = m.delta ∧
    (m.k < 2 → r.n = 0 ∧ r.stall = true ∧ r.clamped = false) ∧
    (2 ≤ m.k → r.n = min 65535 quotient ∧ r.stall = false ∧
      (r.clamped = true ↔ 65535 < quotient ∨ (r.n ≠ 0 ∧ (sum < 0 ∨ 8000 < sum)))) ∧
    (r.n = 0 → r.v = 0) ∧ (r.n ≠ 0 → (r.v : Int) = max 0 (min 8000 sum))

/-- The double widths of a table of rising stations: by the place in the table, whatever else its verticals hold, and
in sum twice the distance between the first and the last station (R124). -/
def Obligations.DoubleWidthsSpanTheSection : Prop :=
  ∀ t : List Vertical, stationsRise t = true →
    (t.length = 1 → doubleWidth t 0 = 0) ∧
    (∀ x y, t[0]? = some x → t[1]? = some y → doubleWidth t 0 = y.station - x.station) ∧
    (∀ x y, 2 ≤ t.length → t[t.length - 2]? = some x → t[t.length - 1]? = some y →
      doubleWidth t (t.length - 1) = y.station - x.station) ∧
    (∀ i x y, t[i]? = some x → t[i + 2]? = some y → doubleWidth t (i + 1) = y.station - x.station) ∧
    (∀ x y, t.head? = some x → t.getLast? = some y →
      ((List.range t.length).map (doubleWidth t)).sum = 2 * (y.station - x.station)) ∧
    (t = [] → ((List.range t.length).map (doubleWidth t)).sum = 0) ∧
    (∀ u : List Vertical, u.map Vertical.station = t.map Vertical.station → ∀ i, doubleWidth u i = doubleWidth t i)

/-! ### The record memory -/

/-- The arbiter grants nothing outside READY, while a program runs, or while an erase runs; a read while an erase is
suspended; and on a free channel the first class with work ready: reads, the append buffer, the journal queue, the work
requested first, the erase requested first; a SEEK_LOG that has had a step lets one grant of other work go before its next,
if any is ready. The buffer and the queue are ready when the current block has the room, or the next block is erased with no
erase of it waiting, and has the room from its first erased unit on (R138, R143, R146, R147, R151, R153, R155, R156; log 48
for the steps of a SEEK_LOG, log 52 for a journal entry that fails late in its block, log 61 for a block whose header alone
reads erased). A grant starts one unit program in the next place of its region:
the buffer's oldest record, the next unit of the oldest journal entry, a unit of an image or of the saved configuration, or
the identifier in the lowest erased unit of its eight; without its grant nothing changes (R143, R146, R156, R157, R159 to
R161). -/
def Obligations.GrantsStartUnitPrograms : Prop :=
  (∀ s : State,
    let room (cur : Option CurrentBlock) (need : Nat) :=
      ∃ c, cur = some c ∧ c.block ∉ s.store.bad ∧ c.next + need ≤ 256
    let prepared (r : Region) (cur : Option CurrentBlock) (need : Nat) :=
      ∃ b u, r.next s.store.bad (cur.map CurrentBlock.block) = some b ∧ s.store.flash.headerOf b = .erased ∧
        (∀ q ∈ s.store.erases, q.block ≠ b) ∧ 1 ≤ u ∧ u + need ≤ 256 ∧ s.store.flash.read (256 * b + u) = none ∧
        ∀ x, 1 ≤ x → x < u → s.store.flash.read (256 * b + x) ≠ none
    let append := s.store.degraded = false ∧ s.store.eraseLogActive = false ∧ s.store.buffer ≠ [] ∧
      (room s.store.logCur 1 ∨ prepared .log s.store.logCur 1)
    let journal := ∃ q rest, s.store.journalQueue = q :: rest ∧
      (room s.store.journalCur (q.entry.units - q.done) ∨ prepared .journal s.store.journalCur q.entry.units)
    (s.phase ≠ .ready → s.arbiter = none) ∧
    (∀ j e, s.store.channel = .programming j e → s.arbiter = none) ∧
    (∀ j, s.phase = .ready → s.store.channel = .erasing j →
      s.arbiter = if j.suspended = true ∧ s.store.reads ≠ [] then some .read else none) ∧
    (∀ passed, s.phase = .ready →
      s.store.channel = .searched passed ∨ (s.store.channel = .free ∧ passed = []) →
      ((∃ w ∈ s.store.reads, w.port ∉ passed) → s.arbiter = some .read) ∧
      ((∀ w ∈ s.store.reads, w.port ∈ passed) →
        (append → s.arbiter = some .append) ∧
        (¬append → journal → s.arbiter = some .journal) ∧
        (¬append → ¬journal → s.store.class4 ≠ [] → s.arbiter = some .work) ∧
        (¬append → ¬journal → s.store.class4 = [] → s.store.erases ≠ [] → s.arbiter = some .erase) ∧
        (¬append → ¬journal → s.store.class4 = [] → s.store.erases = [] →
          s.arbiter = if s.store.reads = [] then none else some .read)))) ∧
  (∀ (r : LogRecord) (rest : List LogRecord) (c : CurrentBlock) (s : State), s.arbiter = some .append →
    s.store.buffer = r :: rest → s.store.logCur = some c → c.block ∉ s.store.bad → c.next ≤ 255 →
    c.headerDue = false →
    let job : ProgramJob := ⟨256 * c.block + c.next, .record r, none, .record r⟩
    exec .appendGrant s = .next { s with store := { s.store with
      channel := .programming job 0, logCur := some { c with next := c.next + 1 } } }) ∧
  (∀ (r : LogRecord) (rest : List LogRecord) (c : CurrentBlock) (b u : Nat) (s : State), s.arbiter = some .append →
    s.store.buffer = r :: rest → s.store.logCur = some c → c.next = 256 → c.block ∉ s.store.bad →
    Region.log.next s.store.bad (some c.block) = some b → s.store.flash.headerOf b = .erased →
    1 ≤ u → s.store.flash.read (256 * b + u) = none →
    (∀ x, 1 ≤ x → x < u → s.store.flash.read (256 * b + x) ≠ none) → u ≤ 255 →
    ∃ t : State, exec .appendGrant s = .next t ∧ t = { s with store := t.store } ∧
      t.store.channel = .programming ⟨256 * b + u, .record r,
        some (.header .log false (s.store.flash.nextUse .log) r.seq), .record r⟩ 0 ∧
      t.store.logCur.map (fun x => (x.block, x.next)) = some (b, u + 1) ∧ t.store.flash = s.store.flash ∧
      t.store.buffer = s.store.buffer ∧
      (∀ x, Region.log.next s.store.bad (some b) = some x → s.store.flash.headerOf x ≠ .erased →
        ∃ q ∈ t.store.erases, q.block = x)) ∧
  (∀ (q : QueuedEntry) (rest : List QueuedEntry) (c : CurrentBlock) (s : State), s.arbiter = some .journal →
    s.store.journalQueue = q :: rest → s.store.journalCur = some c → c.block ∉ s.store.bad →
    c.next + (q.entry.units - q.done) ≤ 256 → c.headerDue = false →
    let job : ProgramJob := ⟨256 * c.block + c.next, .entry q.entry q.done, none, .entry⟩
    exec .journalGrant s = .next { s with store := { s.store with
      channel := .programming job 0, journalCur := some { c with next := c.next + 1 } } }) ∧
  (∀ (set : RatingSet) (n k : Nat) (begun : Bool) (rest : List Class4) (c : CurrentBlock) (s : State),
    s.arbiter = some .work →
    s.store.class4 = .image set n k begun :: rest → s.store.ratingCur = some c → c.block ∉ s.store.bad →
    c.next + (if begun then 1 else 20) ≤ 256 → c.headerDue = false →
    let unit : FlashUnit := if k < 19 then .image n k set else .imageCommit n set
    exec .ratingImageGrant s = .next { s with store := { s.store with
      channel := .programming ⟨256 * c.block + c.next, unit, none, .image⟩ 0
      ratingCur := some { c with next := c.next + 1 }
      class4 := .image set n k true :: rest } }) ∧
  (∀ (cfg : LiveConfig) (place next fails : Nat) (rest : List Class4) (s : State), s.arbiter = some .work →
    s.store.class4 = .save cfg place true next fails :: rest → next ≠ 1 →
    let unit : FlashUnit := if place < saveUnits then .config place cfg else .configCommit saveUnits cfg
    exec .configSaveGrant s = .next { s with store := { s.store with
      channel := .programming ⟨256 + next, unit, none, .save⟩ 0
      class4 := .save cfg place true (next + 1) fails :: rest } }) ∧
  (∀ (cfg : LiveConfig) (place next fails : Nat) (rest : List Class4) (s : State), s.arbiter = some .work →
    s.store.class4 = .save cfg place false next fails :: rest →
    exec .configSaveGrant s = .next { s with store := { s.store with
      flash := s.store.flash.clear 1
      channel := .erasing ⟨⟨1, .save⟩, s.store.flash.block 1, 0, 0, false, []⟩ } }) ∧
  (∀ (chars : List Byte) (fails u : Nat) (toPort : Option Port) (rest : List Class4) (s : State),
    s.arbiter = some .work → s.store.class4 = .ident chars fails toPort :: rest → 2 ≤ u → u ≤ 9 →
    s.store.flash.read u = none → (∀ x, 2 ≤ x → x < u → s.store.flash.read x ≠ none) →
    exec .identWriteGrant s = .next { s with store := { s.store with
      channel := .programming ⟨u, .ident chars, none, .ident⟩ 0 } }) ∧
  (∀ s : State, s.arbiter ≠ some .append → exec .appendGrant s = .next s) ∧
  (∀ s : State, s.arbiter ≠ some .journal → exec .journalGrant s = .next s) ∧
  (∀ s : State, s.arbiter ≠ some .work → exec .ratingImageGrant s = .next s ∧ exec .configSaveGrant s = .next s ∧
    exec .identWriteGrant s = .next s)

/-- The end of a unit program: a verified record leaves the buffer; a first failed verify leaves it and counts against
the block, a second marks the block BAD; a header that failed marks the block BAD at once; a verified last unit of a
trailer ends CLOSING with RUN_CLOSED and what its ending holds, that of an image exchanges the rating slots, those of the
saved configuration and the identifier end their work; the BAD block that makes 20 puts the store in DEGRADED, its log the
ring alone, its queue and work ended, an activation abandoned (R61, R62, R92, R102, R138, R139, R143, R148, R150, R151,
R157, R160, R161). That a run opened over a parked one takes its open time and stage at open as it opens, and that an
ERASE_LOG and the erases waiting are cleared at the entry to DEGRADED, are the model's readings (log 43, log 42). -/
def Obligations.UnitProgramsEndInProgress : Prop :=
  (∀ (j : ProgramJob) (e : Nat) (r : LogRecord) (rest : List LogRecord) (h : Bool) (s : State),
    s.store.channel = .programming j e → j.header = none → j.purpose = .record r → s.store.buffer = r :: rest →
    exec (.unitProgramComplete h true) s = .next { s with store := { s.store with
      flash := s.store.flash.write j.addr j.content, channel := .free, buffer := rest } }) ∧
  (∀ (j : ProgramJob) (e : Nat) (r : LogRecord) (c : CurrentBlock) (h : Bool) (s : State),
    s.store.channel = .programming j e → j.header = none → j.purpose = .record r → s.store.logCur = some c →
    c.block = j.addr / 256 → c.failures = 0 →
    exec (.unitProgramComplete h false) s = .next { s with store := { s.store with
      flash := s.store.flash.write j.addr .garbled, channel := .free, logCur := some { c with failures := 1 } } }) ∧
  (∀ (j : ProgramJob) (e : Nat) (r : LogRecord) (c : CurrentBlock) (h : Bool) (s : State),
    s.store.channel = .programming j e → j.header = none → j.purpose = .record r → s.store.logCur = some c →
    c.block = j.addr / 256 → c.failures = 1 → 38 ≤ c.block → s.store.bad.length < 19 →
    (∀ b ∈ s.store.bad, 6 ≤ b) →
    ∃ t : State, exec (.unitProgramComplete h false) s = .next t ∧ t = { s with store := t.store } ∧
      c.block ∈ t.store.bad ∧ (∀ b ∈ s.store.bad, b ∈ t.store.bad) ∧ t.store.buffer = s.store.buffer ∧
      t.store.channel = .free ∧ t.store.degraded = s.store.degraded) ∧
  (∀ (j : ProgramJob) (e : Nat) (x : FlashUnit) (u : Bool) (s : State), s.store.channel = .programming j e →
    j.header = some x → 6 ≤ j.addr / 256 → s.store.bad.length < 19 → (∀ b ∈ s.store.bad, 6 ≤ b) →
    ∃ t : State, exec (.unitProgramComplete false u) s = .next t ∧ t = { s with store := t.store } ∧
      j.addr / 256 ∈ t.store.bad ∧ t.store.buffer = s.store.buffer ∧ t.store.journalQueue = s.store.journalQueue ∧
      t.store.channel = .free) ∧
  (∀ (j : ProgramJob) (e : Nat) (c : CloseRecord) (rest : List QueuedEntry) (r : Run) (p : Port) (h : Bool)
      (s : State),
    s.store.channel = .programming j e → j.header = none → j.purpose = .entry →
    s.store.journalQueue = ⟨.trailer c, 1⟩ :: rest → s.run = some r → r.closeRec = some c → r.ending = some .close →
    r.notStored = c.notStored → c.result ≠ .abandoned → r.replyTo = some p → (s.port p).request = some 0x46#8 →
    exec (.unitProgramComplete h true) s = .next (({ s with
      store := { s.store with
        flash := s.store.flash.write j.addr j.content, channel := .free, journalQueue := rest }
      run := none
      gaugings := joinList s.gaugings c }.raiseAll .runClosed).answered p 0x46#8 .ok
        (le16 c.runId ++ le8 c.result.code ++ flagsByte [c.unsteady, c.concentrated, c.notStored, c.referenceChanged,
          c.sourceChanged, c.noStage] ++ le32 c.totalQ ++ le16 (min 65535 c.totalA)))) ∧
  (∀ (j : ProgramJob) (e n : Nat) (set : RatingSet) (begun : Bool) (rest : List Class4) (f : InFlight) (p : Port)
      (h : Bool) (s : State),
    s.store.channel = .programming j e → j.header = none → j.purpose = .image →
    s.store.class4 = .image set n 19 begun :: rest → s.rating.inFlight = some f → f.replyTo = some p →
    (s.port p).request = some 0x27#8 →
    exec (.unitProgramComplete h true) s = .next (({ s with
      store := { s.store with flash := s.store.flash.write j.addr j.content, channel := .free, class4 := rest }
      rating := {
        active := some f.set
        inFlight := none
        draft := match s.rating.draft with
          | .editing owner d => .editing owner d
          | _ => match s.rating.active with
            | none => .empty
            | some old => .previous old } }.raiseAll .ratingActivated).answered p 0x27#8 .ok
        (le16 f.set.id ++ le8 f.set.points.length ++ le8 f.set.shifts.length))) ∧
  (∀ (j : ProgramJob) (e next fails : Nat) (cfg : LiveConfig) (rest : List Class4) (h : Bool) (s : State),
    s.store.channel = .programming j e → j.header = none → j.purpose = .save →
    s.store.class4 = .save cfg saveUnits true next fails :: rest →
    exec (.unitProgramComplete h true) s = .next ({ s with store := { s.store with
      flash := s.store.flash.write j.addr j.content, channel := .free, class4 := rest } }.raiseAll .configSaved)) ∧
  (∀ (j : ProgramJob) (e fails : Nat) (chars : List Byte) (rest : List Class4) (p : Port) (h : Bool) (s : State),
    s.store.channel = .programming j e → j.header = none → j.purpose = .ident →
    s.store.class4 = .ident chars fails (some p) :: rest → (s.port p).request = some 0x64#8 →
    let ended (u : FlashUnit) (work : List Class4) := { s with store := { s.store with
      flash := s.store.flash.write j.addr u, channel := .free, class4 := work } }
    exec (.unitProgramComplete h true) s = .next ((ended j.content rest).answered p 0x64#8 .ok []) ∧
    (fails = 0 → exec (.unitProgramComplete h false) s =
      .next (ended .garbled (.ident chars 1 (some p) :: rest))) ∧
    (1 ≤ fails → exec (.unitProgramComplete h false) s =
      .next ((ended .garbled rest).answered p 0x64#8 .storeFault []))) ∧
  (∀ (j : ProgramJob) (e : Nat) (c : CloseRecord) (rest : List QueuedEntry) (r : Run) (h : Bool) (s : State),
    s.store.channel = .programming j e → j.header = none → j.purpose = .entry →
    s.store.journalQueue = ⟨.trailer c, 1⟩ :: rest → s.run = some r → r.closeRec = some c → r.notStored = c.notStored →
    let ended := { s with
      store := { s.store with
        flash := s.store.flash.write j.addr j.content, channel := .free, journalQueue := rest }
      run := none
      gaugings := if c.result = RunResult.abandoned then s.gaugings else joinList s.gaugings c }.raiseAll .runClosed
    (∀ p, r.ending = some .abandon → r.replyTo = some p → (s.port p).request = some 0x47#8 →
      exec (.unitProgramComplete h true) s =
        .next (ended.answered p 0x47#8 .ok (le16 c.runId ++ le8 c.result.code))) ∧
    (r.ending = some .expiry → exec (.unitProgramComplete h true) s = .next ended) ∧
    (∀ d p, r.ending = some (.supersede d) → r.replyTo = some p → (s.port p).request = some 0x40#8 →
      (s.lockedOut = true → exec (.unitProgramComplete h true) s = .next (ended.answered p 0x40#8 .lockout [])) ∧
      (s.lockedOut = false → s.store.degraded = true →
        exec (.unitProgramComplete h true) s = .next (ended.answered p 0x40#8 .storeFault [])) ∧
      (s.lockedOut = false → s.store.degraded = false →
        ∃ (t : State) (r' : Run), exec (.unitProgramComplete h true) s = .next t ∧ t.run = some r' ∧
          r'.state = .opened ∧ r'.id = nextId s.newestRunId ∧ r'.table = [] ∧ r'.openTime = s.backup.clock ∧
          r'.stageAtOpen = s.newestStage ∧ t.newestRunId = r'.id ∧ t.gaugings = ended.gaugings ∧
          t.store.journalQueue = rest ++ [⟨.header ⟨r'.id, r'.openTime, r'.desc, r'.stageAtOpen⟩, 0⟩] ∧
          (t.port p).request = none ∧ (t.port p).reply = some ⟨.ok, 0x40#8,
            le16 r'.id ++ sle16 (r'.stageAtOpen.getD 0) ++ flagsByte [r'.stageAtOpen.isSome, true] ++ le16 c.runId ++
              le8 c.result.code, false⟩))) ∧
  (∀ (j : ProgramJob) (e : Nat) (r : LogRecord) (c : CurrentBlock) (h : Bool) (s : State),
    s.phase = .ready → s.store.channel = .programming j e → j.header = none → j.purpose = .record r →
    s.store.logCur = some c → c.block = j.addr / 256 → c.failures = 1 → c.block ∉ s.store.bad →
    s.store.bad.length = 19 → s.store.degraded = false →
    ∃ t : State, exec (.unitProgramComplete h false) s = .next t ∧ t.store.degraded = true ∧
      t.store.bad = s.store.bad ++ [c.block] ∧ t.store.erases = [] ∧ t.store.eraseLogActive = false ∧
      t.store.journalQueue = [] ∧ t.store.class4 = [] ∧ t.store.buffer = s.store.buffer ∧
      t.store.firstSeq = (s.store.buffer.head?.map LogRecord.seq).getD s.store.nextSeq ∧
      t.pendingWhereEnabled .storeFault ∧
      (∀ x, s.run = some x → x.state ≠ .closing → (∃ q ∈ s.store.journalQueue, ∀ y, q.entry ≠ .trailer y) →
        x.closeRec = none → ∃ y, t.run = some y ∧ y.notStored = true ∧ y.state = x.state ∧ y.table = x.table) ∧
      (∀ f p set n k begun, s.store.class4 = [.image set n k begun] → s.run = none → s.rating.inFlight = some f →
        f.replyTo = some p → f.owner = some p → (s.port p).request = some 0x27#8 →
        t.rating = { s.rating with
          inFlight := none
          draft := match f.revertedId with
            | none => .editing p { f.set with id := 0 }
            | some old => .previous { f.set with id := old } } ∧
        (t.port p).request = none ∧ (t.port p).reply = some ⟨.storeFault, 0x27#8, [], false⟩))

/-- Erases: one that starts takes the block's units and holds the channel. An erase-ahead of the log gives up its
target and the BAD blocks passed over, which it lists for retirement: first_seq becomes the first item of the next
IN_USE block after the target that is not BAD, or of the current block, and drags the cursors behind it, adding what
they passed over to their lost counts; one of the journal gives up the entries of those blocks. A running erase gives
way after 500 ticks while a read waits. A good end frees the channel and brings about what the erase was for: the
retirements, a BAD header, the image's or the save's first unit, the end of an ERASE_LOG with its last block. A failed
erase marks its block BAD and names the next target (R138, R139, R144, R145, R147, R149, R155, R156, R159, R160). That
the BAD header goes in within the same step is the model's choice (log 26), and so are its use number and first item, both
0, and that a failed one reads garbled (log 24); that a suspended erase does not end is its reading (log 27). -/
def Obligations.ErasesStartGiveWayAndEnd : Prop :=
  (∀ (q : EraseRequest) (rest : List EraseRequest) (s : State), s.arbiter = some .erase →
    s.store.erases = q :: rest → q.purpose = .logAhead →
    ∃ t : State, exec .eraseAheadStart s = .next t ∧ t = { s with
        store := { s.store with
          flash := s.store.flash.clear q.block
          erases := rest
          firstSeq := s.store.firstAfter q.block
          channel := .erasing ⟨q, s.store.flash.block q.block, 0, 0, false,
            s.store.passedOver .log s.store.logCur q.block⟩ }
        ports := t.ports } ∧
      ∀ p, (behind s.store.firstSeq t.store.firstSeq (s.port p).cursor = false → t.port p = s.port p) ∧
        (behind s.store.firstSeq t.store.firstSeq (s.port p).cursor = true →
          t.port p = { s.port p with
            cursor := t.store.firstSeq
            lost := min 4294967295 ((s.port p).lost + (t.store.firstSeq - (s.port p).cursor).toNat)
            events := if (s.port p).enables.getLsbD 3 then addEvent s.backup.clock .logLost (s.port p).events
              else (s.port p).events })) ∧
  (∀ (target b n : Nat) (first : Word32) (pre post : List Nat) (st : Store),
    Region.log.after target = pre ++ b :: post → (∀ x ∈ pre, x ∈ st.bad ∨ st.flash.inUse x = false) →
    b ∉ st.bad → st.flash.headerOf b = .inUse n first → st.firstAfter target = first) ∧
  (∀ (target n : Nat) (first : Word32) (c : CurrentBlock) (st : Store),
    (∀ x ∈ Region.log.after target, x ∈ st.bad ∨ st.flash.inUse x = false) → st.logCur = some c →
    st.flash.headerOf c.block = .inUse n first → st.firstAfter target = first) ∧
  (∀ (r : Region) (c : CurrentBlock) (target : Nat) (pre post : List Nat) (st : Store),
    r.after c.block = pre ++ target :: post → target ∉ pre →
    st.passedOver r (some c) target = pre.filter fun b => decide (b ∈ st.bad) && st.flash.inUse b) ∧
  (∀ (q : EraseRequest) (rest : List EraseRequest) (s : State), s.arbiter = some .erase →
    s.store.erases = q :: rest → q.purpose = .journalAhead →
    let way := s.store.passedOver .journal s.store.journalCur q.block
    exec .eraseAheadStart s = .next { s with store := { s.store with
      erases := rest
      givenUp := s.store.givenUp ++ way.filter fun b => decide (b ∉ s.store.givenUp)
      flash := s.store.flash.clear q.block
      channel := .erasing ⟨q, s.store.flash.block q.block, 0, 0, false, way⟩ } }) ∧
  (∀ (q : EraseRequest) (rest : List EraseRequest) (s : State), s.arbiter = some .erase → s.store.erases = q :: rest →
    let started := { s with store := { s.store with
      erases := rest
      flash := s.store.flash.clear q.block
      channel := .erasing ⟨q, s.store.flash.block q.block, 0, 0, false, []⟩ } }
    (q.purpose = .retire → exec .blockRetire s = .next started) ∧
    (q.purpose = .eraseLog → exec .eraseLogBlockErase s = .next started)) ∧
  (∀ s : State, s.arbiter ≠ some .erase → exec .eraseAheadStart s = .next s ∧ exec .blockRetire s = .next s ∧
    exec .eraseLogBlockErase s = .next s) ∧
  (∀ (j : EraseJob) (s : State), s.store.channel = .erasing j → j.suspended = false →
    (500 ≤ j.since → s.store.reads ≠ [] → exec .eraseSuspend s = .next { s with store := { s.store with
      channel := .erasing { j with suspended := true } } }) ∧
    (j.since < 500 ∨ s.store.reads = [] → exec .eraseSuspend s = .next s)) ∧
  (∀ (j : EraseJob) (h : Bool) (s : State), s.store.channel = .erasing j → j.suspended = true →
    ∀ good, exec (.eraseComplete good h) s = .next s) ∧
  (∀ (j : EraseJob) (h : Bool) (s : State), s.store.channel = .erasing j → j.suspended = false → j.retire = [] →
    j.request.purpose = .eraseLog ∨ j.request.purpose = .retire →
    exec (.eraseComplete true h) s = .next { s with store := { s.store with
      channel := .free
      flash := if j.request.purpose = .eraseLog then s.store.flash else s.store.flash.write (256 * j.request.block)
        (if h then .header (regionOf j.request.block) true 0 0 else .garbled)
      eraseLogActive := s.store.eraseLogActive && decide (s.store.logErasesLeft ≠ 0)
      logCur := if s.store.eraseLogActive = true ∧ s.store.logErasesLeft = 0 then none else s.store.logCur } }) ∧
  (∀ (j : EraseJob) (h : Bool) (s : State), s.store.channel = .erasing j → j.suspended = false →
    j.request.purpose = .logAhead ∨ j.request.purpose = .journalAhead → s.store.eraseLogActive = false →
    s.store.degraded = false →
    ∃ t : State, exec (.eraseComplete true h) s = .next t ∧
      t = { s with store := { s.store with channel := .free, erases := t.store.erases } } ∧
      (∀ q ∈ s.store.erases, q ∈ t.store.erases) ∧ (∀ b ∈ j.retire, ∃ q ∈ t.store.erases, q.block = b) ∧
      (∀ q ∈ t.store.erases, q ∈ s.store.erases ∨ (q.purpose = .retire ∧ q.block ∈ j.retire))) ∧
  (∀ (j : EraseJob) (h : Bool) (s : State), s.store.channel = .erasing j → j.suspended = false → j.retire = [] →
    s.store.eraseLogActive = false →
    (j.request.purpose = .image → exec (.eraseComplete true h) s = .next { s with store := { s.store with
      channel := .free, ratingCur := some ⟨j.request.block, 1, 0, true⟩ } }) ∧
    (∀ cfg place e n fails rest, j.request.purpose = .save → s.store.class4 = .save cfg place e n fails :: rest →
      exec (.eraseComplete true h) s = .next { s with store := { s.store with
        channel := .free, class4 := .save cfg place true 1 fails :: rest } })) ∧
  (∀ (j : EraseJob) (h : Bool) (s : State), s.store.channel = .erasing j → j.suspended = false →
    j.request.purpose ≠ .retire → 6 ≤ j.request.block → s.store.bad.length < 19 → (∀ b ∈ s.store.bad, 6 ≤ b) →
    ∃ t : State, exec (.eraseComplete false h) s = .next t ∧ t = { s with store := t.store } ∧
      j.request.block ∈ t.store.bad ∧ t.store.channel = .free ∧
      (j.request.block < 1024 → t.store.flash.headerOf j.request.block = (if h then .bad else .garbled)) ∧
      (∀ x, s.store.degraded = false → s.store.eraseLogActive = false →
        (j.request.purpose = .logAhead ∧ Region.log.next t.store.bad (some j.request.block) = some x) ∨
          (j.request.purpose = .journalAhead ∧ Region.journal.next t.store.bad (some j.request.block) = some x) →
        ∃ q ∈ t.store.erases, q.block = x)) ∧
  (∀ (f : Flash) (b a : Nat), (f.clear b).read a = if a / 256 = b then none else f.read a)

/-- READ_LOG, SEEK_LOG and READ_JOURNAL wait for their grant, but for those served from the buffer alone; ERASE_LOG
empties the log at once, moves every cursor behind it to next_seq, raising LOG_LOST with the distance lost on the ports
whose cursor moved, and asks for its blocks, a retirement for one marked BAD with an IN_USE header and none for one with a
BAD header or one the channel is retiring already; SAVE_CONFIG and WRITE_IDENT join the work waiting; each is refused as
its rule says (R145, R146, R152, R153, R155, R158, R188, R190). That a SEEK_LOG over a log wholly in the buffer needs no
grant is the model's reading (log 25), that a save starts with no failure counted is its choice (log 49), and so is that
SEEK_LOG compares station times as unsigned numbers, also across the clock's wrap (log 46); that a block whose retirement
is under way is left to it is read from the rule (log 62). -/
def Obligations.RecordMemoryTakesItsRequests : Prop :=
  (∀ (p : Port) (n : Byte) (s : State), s.takes p 0x50#8 [n] = true →
    let ready := s.store.inBuffer (s.port p).cursor
    (n.toNat = 0 ∨ 7 < n.toNat →
      exec (.readLog p [n]) s = .next ((s.arrived p [n]).answered p 0x50#8 .badArgument [])) ∧
    (1 ≤ n.toNat → n.toNat ≤ 7 → ready = false →
      exec (.readLog p [n]) s = .next (((s.arrived p [n]).setStore { s.store with
        reads := s.store.reads ++ [⟨p, true, .readLog n.toNat⟩] }).serving p 0x50#8)) ∧
    (1 ≤ n.toNat → n.toNat ≤ 7 → ready = true →
      exec (.readLog p [n]) s = .next (((s.arrived p [n]).setPort p { (s.arrived p [n]).port p with
        cursor := (s.logFor p n.toNat).cursor, lost := 0 }).answered p 0x50#8 .ok (s.logPayload p n.toNat)))) ∧
  (∀ (p : Port) (a b c d : Byte) (s : State), s.takes p 0x51#8 [a, b, c, d] = true →
    s.store.inBuffer s.store.firstSeq = false →
    exec (.seekLog p [a, b, c, d]) s = .next (((s.arrived p [a, b, c, d]).setStore { s.store with
      reads := s.store.reads ++ [⟨p, true, .seekLog (word32 a b c d) s.store.firstSeq⟩] }).serving p 0x51#8)) ∧
  (∀ (p : Port) (a b c d : Byte) (s : State), s.takes p 0x51#8 [a, b, c, d] = true →
    s.store.inBuffer s.store.firstSeq = true →
    let found := s.store.buffer.find? fun r =>
      s.store.ahead s.store.firstSeq r.seq && decide (word32 a b c d ≤ r.time)
    exec (.seekLog p [a, b, c, d]) s = .next (((s.arrived p [a, b, c, d]).setPort p { (s.arrived p [a, b, c, d]).port p with
      cursor := (found.map LogRecord.seq).getD s.store.nextSeq }).answered p 0x51#8 .ok
        (leWord ((found.map LogRecord.seq).getD s.store.nextSeq) ++ leWord ((found.map LogRecord.time).getD 0)))) ∧
  (∀ (p : Port) (a b n : Byte) (s : State), s.takes p 0x53#8 [a, b, n] = true →
    exec (.readJournal p [a, b, n]) s = .next (((s.arrived p [a, b, n]).setStore { s.store with
      reads := s.store.reads ++ [⟨p, true, .readJournal (u16 a b) n.toNat⟩] }).serving p 0x53#8)) ∧
  (∀ (p : Port) (s : State), s.takes p 0x54#8 [] = true →
    (s.store.eraseLogActive = true →
      exec (.eraseLog p []) s = .next ((s.arrived p []).answered p 0x54#8 .busy [])) ∧
    (s.store.eraseLogActive = false → s.store.degraded = true →
      exec (.eraseLog p []) s = .next ((s.arrived p []).answered p 0x54#8 .storeFault [])) ∧
    (∀ first next cursor : Word32, behind first next cursor = decide ((cursor - first).toNat < (next - first).toNat)) ∧
    (s.store.eraseLogActive = false → s.store.degraded = false →
      ∃ t : State, exec (.eraseLog p []) s = .next t ∧
        t = { s with run := (s.arrived p []).run, store := t.store, ports := t.ports } ∧
        t.store.buffer = [] ∧ t.store.firstSeq = s.store.nextSeq ∧ t.store.nextSeq = s.store.nextSeq ∧
        t.store.flash = s.store.flash ∧ t.store.journalQueue = s.store.journalQueue ∧
        (let retires b := ∃ j, s.store.channel = .erasing j ∧ j.request = ⟨b, .retire⟩
         ∀ b, 38 ≤ b → b ≤ 1023 →
          (s.store.flash.headerOf b ≠ .bad → ¬retires b → ∃ q ∈ t.store.erases, q.block = b) ∧
          (∀ n first, s.store.flash.headerOf b = .inUse n first → b ∈ s.store.bad → ¬retires b →
            ∃ q ∈ t.store.erases, q.block = b ∧ (q ∈ s.store.erases ∨ q.purpose = .retire)) ∧
          (s.store.flash.headerOf b = .bad ∨ retires b → (∀ q ∈ s.store.erases, q.block ≠ b) →
            ∀ q ∈ t.store.erases, q.block ≠ b)) ∧
        (∀ q ∈ t.store.erases, q.purpose ≠ .logAhead) ∧
        (∀ q,
          (behind s.store.firstSeq s.store.nextSeq (s.port q).cursor = false →
            (t.port q).cursor = (s.port q).cursor ∧ (t.port q).lost = (s.port q).lost ∧
              (t.port q).events = (s.port q).events) ∧
          (behind s.store.firstSeq s.store.nextSeq (s.port q).cursor = true →
            (t.port q).cursor = s.store.nextSeq ∧
              (t.port q).lost = min 4294967295 ((s.port q).lost + (s.store.nextSeq - (s.port q).cursor).toNat) ∧
              (t.port q).events = if (s.port q).enables.getLsbD 3 then addEvent s.backup.clock .logLost (s.port q).events
                else (s.port q).events) ∧
          (q ≠ p → t.port q = { s.port q with
            cursor := (t.port q).cursor, lost := (t.port q).lost, events := (t.port q).events })) ∧
        (t.port p).request = none ∧
        (t.port p).reply = some ⟨.ok, 0x54#8, leWord s.store.nextSeq, false⟩)) ∧
  (∀ (p : Port) (s : State), s.takes p 0x62#8 [] = true →
    (s.store.degraded = true →
      exec (.saveConfig p []) s = .next ((s.arrived p []).answered p 0x62#8 .storeFault [])) ∧
    (s.store.degraded = false → s.store.class4.any Class4.isSave = true →
      exec (.saveConfig p []) s = .next ((s.arrived p []).answered p 0x62#8 .busy [])) ∧
    (s.store.degraded = false → s.store.class4.any Class4.isSave = false →
      exec (.saveConfig p []) s = .next (((s.arrived p []).setStore { s.store with
        class4 := s.store.class4 ++ [.save s.cfg 0 false 1 0] }).answered p 0x62#8 .ok []))) ∧
  (∀ (p : Port) (pl : List Byte) (closed : Bool) (s : State), (s.withMaint closed).takes p 0x64#8 pl = true →
    let x := (s.withMaint closed).arrived p pl
    let fits := pl.length = 16 ∧ ∀ b ∈ pl, 0x20 ≤ b.toNat ∧ b.toNat ≤ 0x7E
    let refused st := exec (.writeIdent p pl closed) s = .next (x.answered p 0x64#8 st [])
    (¬fits → refused .badArgument) ∧
    (fits → closed = false ∨ s.store.flash.identifier.isSome = true → refused .wrongState) ∧
    (fits → closed = true → s.store.flash.identifier = none → s.store.class4.any Class4.isIdent = true →
      refused .busy) ∧
    (fits → closed = true → s.store.flash.identifier = none → s.store.class4.any Class4.isIdent = false →
      s.store.degraded = true → refused .storeFault) ∧
    (fits → closed = true → s.store.flash.identifier = none → s.store.class4.any Class4.isIdent = false →
      s.store.degraded = false →
      exec (.writeIdent p pl closed) s = .next ((x.setStore { s.store with
        class4 := s.store.class4 ++ [.ident pl 0 (some p)] }).serving p 0x64#8)))

/-- A read granted is the first one of the port whose turn it is, from the port after the last one served on, in the order
L, T, C, of the ports that have not given way to other work if a read of such a port waits; the round-robin starts at L (O3
and the statements of the resets). A granted read ends with its reply, the
round-robin at the next port, and a suspended erase resumed: READ_LOG sets its port's cursor past what it returns and
clears the lost count, a finished SEEK_LOG sets the cursor to what it found, an unfinished one waits on from its new
position and gives way to other work, READ_JOURNAL changes no cursor (R146, R147, R152, R153, R158; log 46 for station times compared across the
clock's wrap, log 48 for the next step of a SEEK_LOG, log 59 for two reads of one port, of which a port reset left the
older waiting). -/
def Obligations.GrantedReadsReplyAndMoveTheCursor : Prop :=
  (∀ (turn next last : Port) (s : State), s.store.robin = turn →
    (turn, next, last) = (.l, .t, .c) ∨ (turn, next, last) = (.t, .c, .l) ∨ (turn, next, last) = (.c, .l, .t) →
    let passed := match s.store.channel with
      | .searched ps => ps
      | _ => []
    let waits q := (∃ x ∈ s.store.reads, x.port = q) ∧ (q ∉ passed ∨ ∀ x ∈ s.store.reads, x.port ∈ passed)
    (s.arbiter ≠ some .read → s.grantedRead = none) ∧
    (s.arbiter = some .read → ∃ w ∈ s.store.reads, s.grantedRead = some w) ∧
    (∀ (w : WaitingRead) (pre post : List WaitingRead), s.arbiter = some .read →
      s.store.reads = pre ++ w :: post → (∀ x ∈ pre, x.port ≠ w.port) → waits w.port →
      w.port = turn ∨ (w.port = next ∧ ¬waits turn) ∨ (w.port = last ∧ ¬waits turn ∧ ¬waits next) →
      s.grantedRead = some w)) ∧
  (∀ (w : WaitingRead) (s : State), s.grantedRead = some w → w.attached = true →
    let next (reads : List WaitingRead) (given : Channel) := s.setStore { s.store with
      reads := reads
      robin := match w.port with
        | .l => .t
        | .t => .c
        | .c => .l
      channel := match s.store.channel with
        | .erasing j => .erasing { j with suspended := false, since := 0 }
        | .programming j e => .programming j e
        | _ => given }
    let gaveWay := match s.store.channel with
      | .searched ps => if w.port ∈ ps then ps else ps ++ [w.port]
      | _ => [w.port]
    (∀ n, w.kind = .readLog n → (s.port w.port).request = some 0x50#8 →
      exec .readLogGrant s = .next (((next (s.store.reads.erase w) .free).setPort w.port { s.port w.port with
        cursor := (s.logFor w.port n).cursor, lost := 0 }).answered w.port 0x50#8 .ok (s.logPayload w.port n))) ∧
    (∀ t pos found, w.kind = .seekLog t pos → (s.port w.port).request = some 0x51#8 →
      s.store.seekStep t (s.store.seekFrom pos) = .done found →
      exec .seekLogStep s = .next (((next (s.store.reads.erase w) .free).setPort w.port { s.port w.port with
        cursor := (found.map LogRecord.seq).getD s.store.nextSeq }).answered w.port 0x51#8 .ok
          (leWord ((found.map LogRecord.seq).getD s.store.nextSeq) ++
            leWord ((found.map LogRecord.time).getD 0)))) ∧
    (∀ t pos pos', w.kind = .seekLog t pos → s.store.seekStep t (s.store.seekFrom pos) = .more pos' →
      exec .seekLogStep s = .next (next (s.store.reads.replace w { w with kind := .seekLog t pos' })
        (.searched gaveWay))) ∧
    (∀ id part, w.kind = .readJournal id part → (s.port w.port).request = some 0x53#8 →
      exec .readJournalGrant s = .next ((next (s.store.reads.erase w) .free).answered w.port 0x53#8
        (s.store.journalAnswer id part).status (s.store.journalAnswer id part).payload)))

/-! ### Configuration, identity and start-up -/

/-- SET_CONFIG stores an item within its range, CLAMPED when it was not, an interval as the largest member of R24's
set not above it, realigning the schedule when it changes the interval in force (log 46 for times beyond the clock's
wrap), and refuses an unknown code, a
permission item and a code value out of range; a run_limit stored below the level parks an active run; SELECT_SOURCE
writes source_mode; SET_PERMISSIONS, with MAINT closed, writes one port's families, and never takes ADMIN from its own
port (R24, R33, R79, R179, R185, R187). -/
def Obligations.ConfigurationIsWrittenWithinItsRules : Prop :=
  (∀ (p : Port) (i : Item) (v : Int) (s : State),
    let pl := le8 i.row.code ++ sle32 v
    s.takes p 0x61#8 pl = true → -2147483648 ≤ v → v ≤ 2147483647 →
    let inside := i.row.least ≤ v ∧ v ≤ i.row.greatest
    let badly := exec (.setConfig p pl) s = .next ((s.arrived p pl).answered p 0x61#8 .badArgument [])
    let stored := max i.row.least (min i.row.greatest v)
    let clampedTo x := if x = v then Status.ok else Status.clamped
    (∀ q, i = .perm q → badly) ∧
    (i = .sourceMode ∨ i = .runLimit → ¬inside → badly) ∧
    ((∀ q, i ≠ .perm q) → (∀ l, i ≠ .interval l) → i ≠ .sourceMode → i ≠ .runLimit →
      exec (.setConfig p pl) s = .next ({ s.arrived p pl with cfg := s.cfg.set i stored }.answered p 0x61#8
        (clampedTo stored) (le8 i.row.code ++ sle32 stored))) ∧
    (i = .sourceMode → inside → exec (.setConfig p pl) s = .next ({ s.arrived p pl with
      cfg := s.cfg.set i v }.answered p 0x61#8 .ok pl)) ∧
    (i = .runLimit → inside → (s.warn.level.rank : Int) ≤ v → exec (.setConfig p pl) s = .next ({ s.arrived p pl with
      cfg := s.cfg.set i v }.answered p 0x61#8 .ok pl)) ∧
    (i = .runLimit → inside → v < s.warn.level.rank → ∃ t, exec (.setConfig p pl) s = .next t ∧
      t.cfg = s.cfg.set i v ∧ (t.port p).reply = some ⟨.ok, 0x61#8, pl, false⟩ ∧
      ∀ r, s.run = some r → r.active = true → ∃ r', t.run = some r' ∧ r'.state = .parked ∧
        r'.parkReason = some .level) ∧
    (∀ l, i = .interval l → l ≠ s.warn.level → ∃ x ∈ intervalMembers, (x ≤ v ∨ x = 10) ∧
      (∀ y ∈ intervalMembers, y ≤ v → y ≤ x) ∧
      exec (.setConfig p pl) s = .next ({ s.arrived p pl with cfg := s.cfg.set i x }.answered p 0x61#8
        (clampedTo x) (le8 i.row.code ++ sle32 x))) ∧
    (∀ l, i = .interval l → l = s.warn.level → ∃ x ∈ intervalMembers, (x ≤ v ∨ x = 10) ∧
      (∀ y ∈ intervalMembers, y ≤ v → y ≤ x) ∧
      let candidate := nextSampleAfter x.toNat s.backup.clock.toNat
      exec (.setConfig p pl) s = .next ({ s.arrived p pl with
        cfg := s.cfg.set i x
        sched := if x.toNat ≠ s.cfg.intervalOf l ∧ candidate < s.sched.nextSample
          then { s.sched with nextSample := candidate } else s.sched }.answered p 0x61#8
        (clampedTo x) (le8 i.row.code ++ sle32 x)))) ∧
  (∀ (p : Port) (c a b d e : Byte) (s : State), s.takes p 0x61#8 [c, a, b, d, e] = true →
    (∀ i : Item, i.row.code ≠ c.toNat) →
    exec (.setConfig p [c, a, b, d, e]) s = .next ((s.arrived p [c, a, b, d, e]).answered p 0x61#8 .badArgument [])) ∧
  (∀ (p : Port) (m : Byte) (s : State), s.takes p 0x13#8 [m] = true →
    (m.toNat ≤ 2 → exec (.selectSource p [m]) s = .next
      ({ s.arrived p [m] with cfg := s.cfg.set .sourceMode m.toNat }.answered p 0x13#8 .ok
        (le8 m.toNat ++ le8 ((s.sel.current.map Source.code).getD 0xFF)))) ∧
    (2 < m.toNat → exec (.selectSource p [m]) s = .next ((s.arrived p [m]).answered p 0x13#8 .badArgument []))) ∧
  (∀ (p q : Port) (families : Byte) (closed : Bool) (s : State),
    let pl := [BitVec.ofNat 8 q.number, families]
    (s.withMaint closed).takes p 0x63#8 pl = true →
    let x := (s.withMaint closed).arrived p pl
    let refused st := exec (.setPermissions p pl closed) s = .next (x.answered p 0x63#8 st [])
    let cfg := s.cfg.set (.perm q) families.toNat
    (closed = false → refused .wrongState) ∧
    (closed = true → 128 ≤ families.toNat ∨ (q = p ∧ families.getLsbD 6 = false) → refused .badArgument) ∧
    (closed = true → families.toNat < 128 → (q ≠ p ∨ families.getLsbD 6 = true) →
      exec (.setPermissions p pl closed) s = .next ({ x with cfg := cfg }.answered p 0x63#8 .ok
        (le8 (cfg.get (.perm .l)).toNat ++ le8 (cfg.get (.perm .t)).toNat ++ le8 (cfg.get (.perm .c)).toNat))))

/-- STATION_RESET is replied OK at once and arranges the reset, which takes effect when the reply has left or 0.1 s later;
a GET_IDENT waiting in STARTING is replied once block 0 has been read (R189, R191; log 18 for the mark in the reply). That
the reset's own step loads the configuration and the trim is the model's choice (log 13), and so is that a save which
still waits for its erase leaves the one saved before (log 60). -/
def Obligations.ResetIsArrangedAndIdentDeferred : Prop :=
  (∀ (p : Port) (s : State), s.takes p 0x05#8 [] = true →
    exec (.stationReset p []) s = .next { (s.arrived p []).setPort p { (s.arrived p []).port p with
        request := none, reply := some ⟨.ok, 0x05#8, [], s.resetReq.isNone⟩ } with
      resetReq := if s.resetReq = none then some ⟨p, 0, false⟩ else s.resetReq }) ∧
  (∀ (r : ResetRequest) (s : State), s.running = true → s.resetReq = some r → (r.due = true ∨ 10000 ≤ r.age) →
    ∃ t : State, exec .stationResetTakesEffect s = .next t ∧ afterReset s t ∧ t.phase = .starting ∧
      t.resetLow = s.resetLow ∧ t.backup = { s.backup with trim := s.factoryTrim }) ∧
  (∀ (r : ResetRequest) (s : State), s.resetReq = some r → r.due = false → r.age < 10000 →
    exec .stationResetTakesEffect s = .next s) ∧
  (∀ (p : Port) (s : State), s.phase = .starting → (s.port p).request = some 0x01#8 →
    exec (.getIdentDeferredReply p) s = .next ({ s with identRead := true }.answered p 0x01#8 .ok s.identPayload)) ∧
  (∀ (p : Port) (s : State), s.phase = .starting → s.identRead = false → s.takes p 0x01#8 [] = true →
    exec (.getIdent p []) s = .next ((s.arrived p []).serving p 0x01#8))

/-- The supply and the RESET pin: power-on restarts uptime and ticks and keeps the backup domain, but for a clock held
at 0 with UNSET when the mark was lost; a loss of supply and RESET low lose what RAM holds and keep the backup domain,
uptime and the pins as stated, and the flash array too where nothing of it was under way and no scan had a trailer to
write; RESET high enters STARTING with the saved configuration, or the defaults (R20 to R23, R138, R185, R191, R192).
What RAM shows of a part that is off or held in reset, and that power-on leaves run and store as it finds them, is the
model's choice (log 32), and so is the moment of the loads (log 13), and that a save which still waits for its erase
leaves the one saved before (log 60); how far a scan broken off had come is a free value (log 14). -/
def Obligations.SupplyAndResetPinStartThePart : Prop :=
  (∀ s : State, s.phase = .off →
    ∃ t : State, exec .powerOn s = .next t ∧ t.uptime = 0 ∧ t.ticks = 0 ∧
      t.phase = (if s.resetLow then .held else .starting) ∧ t.store = s.store ∧ t.run = s.run ∧
      (s.backup.valid = true → t.backup.clock = s.backup.clock ∧ t.backup.unset = s.backup.unset ∧
        t.backup.lastStep = s.backup.lastStep ∧ t.backup.held = s.backup.held) ∧
      (s.backup.valid = false → t.backup.clock = 0 ∧ t.backup.unset = true ∧ t.backup.lastStep = none ∧
        t.backup.held = true) ∧
      (s.resetLow = false → t.cfg = s.store.flash.savedConfig.getD defaultConfig ∧
        t.backup.trim = s.factoryTrim)) ∧
  (∀ s : State, s.phase ≠ .off → exec .powerOn s = .next s) ∧
  (∀ s : State,
    let untouched := s.store.channel.isFree = true ∧ (s.phase = .starting → s.unclosed = [])
    (s.phase ≠ .off →
      ∃ t : State, exec .powerLoss s = .next t ∧ ramLost s t ∧ t.phase = .off ∧ t.backup = s.backup ∧
        t.resetLow = s.resetLow ∧ (untouched → t.store.flash = s.store.flash)) ∧
    (s.phase = .off → exec .powerLoss s = .next s) ∧
    (s.resetLow = false → s.phase ≠ .off →
      ∃ t : State, exec .resetPinAssert s = .next t ∧ ramLost s t ∧ t.phase = .held ∧ t.resetLow = true ∧
        t.backup = s.backup ∧ t.uptime = s.uptime ∧ t.ticks = s.ticks ∧
        (untouched → t.store.flash = s.store.flash)) ∧
    (s.resetLow = false → s.phase = .off →
      exec .resetPinAssert s = .next { s with resetLow := true }) ∧
    (s.resetLow = true → exec .resetPinAssert s = .next s)) ∧
  (∀ s : State, s.phase = .held →
    ∃ t : State, exec .resetPinRelease s = .next t ∧ t.phase = .starting ∧ t.resetLow = false ∧
      t.cfg = s.store.flash.savedConfig.getD defaultConfig ∧ t.backup = { s.backup with trim := s.factoryTrim } ∧
      t.store = s.store ∧ t.uptime = s.uptime ∧ t.ticks = s.ticks) ∧
  (∀ s : State, s.phase ≠ .held → exec .resetPinRelease s = .next { s with resetLow := false })

/-- The entry to READY: the log, the rating, the float reference and the level of the newest record restored, the newest
run id that of the newest header as the scan found the journal, before it appended a trailer, the
clock loaded with its time plus one when the mark was lost, the cursors at next_seq, the schedule aligned, the siren
sounding at DANGER and else as it stood, OFF where it stood OFF, and STATION_RESTARTED pending on every port whose
LINK group is enabled (R5, R21, R25, R50, R88, R113, R162, R163, R184, R193). That the whole scan is inside this one step,
so that the clock stands at that time as READY is entered, is the model's choice (log 13). -/
def Obligations.ReadyEntryRestoresFromTheLog : Prop :=
  ∀ (outs : List Bool) (s : State), s.phase = .starting →
    let log := s.store.flash.scanLog
    ∃ t : State, exec (.readyEntry outs) s = .next t ∧ t.phase = .ready ∧
      t.store.nextSeq = log.nextSeq ∧
      (s.backup.held = true → t.backup.held = false ∧ t.backup.valid = true ∧ t.backup.unset = s.backup.unset ∧
        t.backup.clock = (match log.newest with
          | none => 0
          | some r => r.time + 1)) ∧
      (s.backup.held = false → t.backup = s.backup) ∧
      t.warn.level = (match log.newest with
        | none => .normal
        | some r => r.level) ∧
      (t.warn.level = .danger → t.warn.siren = .sounding ∧ t.warn.sirenStart = some s.uptime) ∧
      (t.warn.level ≠ .danger → t.warn.siren = s.warn.siren ∧ (s.warn.siren = .off → t.warn.siren = .off)) ∧
      t.floatCh.refStage = ((log.newestSample.bind LogRecord.floatStage?).getD 0) ∧
      t.floatCh.refCount = 0 ∧ t.floatCh.origin = .restored ∧ t.floatCh.count = s.floatCh.count ∧
      t.rating.active = t.store.flash.newestImage ∧
      t.newestRunId = newestHeaderId (s.store.flash.entries s.store.givenUp) ∧
      t.sched.nextSample = nextSampleAfter (s.cfg.intervalOf t.warn.level) t.backup.clock.toNat ∧
      t.sched.lastSample = none ∧ t.sched.lastUptime = none ∧ t.cfg = s.cfg ∧ t.uptime = s.uptime ∧
      t.ticks = s.ticks ∧
      ∀ p, (t.port p).cursor = log.nextSeq ∧ (t.port p).lost = 0 ∧
        ((t.port p).enables.getLsbD 4 = true → ∃ e ∈ (t.port p).events, e.kind = .stationRestarted)
end

