-- ==== Sys2Proof/Laws/State.lean ====
section
/-! SUPPORT. The fields of the state after each update of one part of it: all true by definition. -/

namespace Sys2Proof.Machine

/-! ### setPort -/

@[simp] theorem State.setPort_phase (s : State) (p : Port) (x : PortState) : (s.setPort p x).phase = s.phase := rfl
@[simp] theorem State.setPort_resetLow (s : State) (p : Port) (x : PortState) : (s.setPort p x).resetLow = s.resetLow := rfl
@[simp] theorem State.setPort_maintClosed (s : State) (p : Port) (x : PortState) : (s.setPort p x).maintClosed = s.maintClosed := rfl
@[simp] theorem State.setPort_backup (s : State) (p : Port) (x : PortState) : (s.setPort p x).backup = s.backup := rfl
@[simp] theorem State.setPort_uptime (s : State) (p : Port) (x : PortState) : (s.setPort p x).uptime = s.uptime := rfl
@[simp] theorem State.setPort_uptimeSub (s : State) (p : Port) (x : PortState) : (s.setPort p x).uptimeSub = s.uptimeSub := rfl
@[simp] theorem State.setPort_ticks (s : State) (p : Port) (x : PortState) : (s.setPort p x).ticks = s.ticks := rfl
@[simp] theorem State.setPort_startTicks (s : State) (p : Port) (x : PortState) : (s.setPort p x).startTicks = s.startTicks := rfl
@[simp] theorem State.setPort_sched (s : State) (p : Port) (x : PortState) : (s.setPort p x).sched = s.sched := rfl
@[simp] theorem State.setPort_cfg (s : State) (p : Port) (x : PortState) : (s.setPort p x).cfg = s.cfg := rfl
@[simp] theorem State.setPort_limits (s : State) (p : Port) (x : PortState) : (s.setPort p x).limits = s.limits := rfl
@[simp] theorem State.setPort_floatCh (s : State) (p : Port) (x : PortState) : (s.setPort p x).floatCh = s.floatCh := rfl
@[simp] theorem State.setPort_pressCh (s : State) (p : Port) (x : PortState) : (s.setPort p x).pressCh = s.pressCh := rfl
@[simp] theorem State.setPort_sel (s : State) (p : Port) (x : PortState) : (s.setPort p x).sel = s.sel := rfl
@[simp] theorem State.setPort_window (s : State) (p : Port) (x : PortState) : (s.setPort p x).window = s.window := rfl
@[simp] theorem State.setPort_rating (s : State) (p : Port) (x : PortState) : (s.setPort p x).rating = s.rating := rfl
@[simp] theorem State.setPort_warn (s : State) (p : Port) (x : PortState) : (s.setPort p x).warn = s.warn := rfl
@[simp] theorem State.setPort_run (s : State) (p : Port) (x : PortState) : (s.setPort p x).run = s.run := rfl
@[simp] theorem State.setPort_newestRunId (s : State) (p : Port) (x : PortState) : (s.setPort p x).newestRunId = s.newestRunId := rfl
@[simp] theorem State.setPort_meter (s : State) (p : Port) (x : PortState) : (s.setPort p x).meter = s.meter := rfl
@[simp] theorem State.setPort_gaugings (s : State) (p : Port) (x : PortState) : (s.setPort p x).gaugings = s.gaugings := rfl
@[simp] theorem State.setPort_store (s : State) (p : Port) (x : PortState) : (s.setPort p x).store = s.store := rfl
@[simp] theorem State.setPort_factorySerial (s : State) (p : Port) (x : PortState) : (s.setPort p x).factorySerial = s.factorySerial := rfl
@[simp] theorem State.setPort_factoryTrim (s : State) (p : Port) (x : PortState) : (s.setPort p x).factoryTrim = s.factoryTrim := rfl
@[simp] theorem State.setPort_identRead (s : State) (p : Port) (x : PortState) : (s.setPort p x).identRead = s.identRead := rfl
@[simp] theorem State.setPort_ports (s : State) (p : Port) (x : PortState) : (s.setPort p x).ports = s.ports.set p x := rfl
@[simp] theorem State.setPort_lineC (s : State) (p : Port) (x : PortState) : (s.setPort p x).lineC = s.lineC := rfl
@[simp] theorem State.setPort_resetReq (s : State) (p : Port) (x : PortState) : (s.setPort p x).resetReq = s.resetReq := rfl
@[simp] theorem State.setPort_freeIndex (s : State) (p : Port) (x : PortState) : (s.setPort p x).freeIndex = s.freeIndex := rfl
@[simp] theorem State.setPort_pending (s : State) (p : Port) (x : PortState) : (s.setPort p x).pending = s.pending := rfl

/-! ### setStore -/

@[simp] theorem State.setStore_phase (s : State) (x : Store) : (s.setStore x).phase = s.phase := rfl
@[simp] theorem State.setStore_resetLow (s : State) (x : Store) : (s.setStore x).resetLow = s.resetLow := rfl
@[simp] theorem State.setStore_maintClosed (s : State) (x : Store) : (s.setStore x).maintClosed = s.maintClosed := rfl
@[simp] theorem State.setStore_backup (s : State) (x : Store) : (s.setStore x).backup = s.backup := rfl
@[simp] theorem State.setStore_uptime (s : State) (x : Store) : (s.setStore x).uptime = s.uptime := rfl
@[simp] theorem State.setStore_uptimeSub (s : State) (x : Store) : (s.setStore x).uptimeSub = s.uptimeSub := rfl
@[simp] theorem State.setStore_ticks (s : State) (x : Store) : (s.setStore x).ticks = s.ticks := rfl
@[simp] theorem State.setStore_startTicks (s : State) (x : Store) : (s.setStore x).startTicks = s.startTicks := rfl
@[simp] theorem State.setStore_sched (s : State) (x : Store) : (s.setStore x).sched = s.sched := rfl
@[simp] theorem State.setStore_cfg (s : State) (x : Store) : (s.setStore x).cfg = s.cfg := rfl
@[simp] theorem State.setStore_limits (s : State) (x : Store) : (s.setStore x).limits = s.limits := rfl
@[simp] theorem State.setStore_floatCh (s : State) (x : Store) : (s.setStore x).floatCh = s.floatCh := rfl
@[simp] theorem State.setStore_pressCh (s : State) (x : Store) : (s.setStore x).pressCh = s.pressCh := rfl
@[simp] theorem State.setStore_sel (s : State) (x : Store) : (s.setStore x).sel = s.sel := rfl
@[simp] theorem State.setStore_window (s : State) (x : Store) : (s.setStore x).window = s.window := rfl
@[simp] theorem State.setStore_rating (s : State) (x : Store) : (s.setStore x).rating = s.rating := rfl
@[simp] theorem State.setStore_warn (s : State) (x : Store) : (s.setStore x).warn = s.warn := rfl
@[simp] theorem State.setStore_run (s : State) (x : Store) : (s.setStore x).run = s.run := rfl
@[simp] theorem State.setStore_newestRunId (s : State) (x : Store) : (s.setStore x).newestRunId = s.newestRunId := rfl
@[simp] theorem State.setStore_meter (s : State) (x : Store) : (s.setStore x).meter = s.meter := rfl
@[simp] theorem State.setStore_gaugings (s : State) (x : Store) : (s.setStore x).gaugings = s.gaugings := rfl
@[simp] theorem State.setStore_store (s : State) (x : Store) : (s.setStore x).store = x := rfl
@[simp] theorem State.setStore_factorySerial (s : State) (x : Store) : (s.setStore x).factorySerial = s.factorySerial := rfl
@[simp] theorem State.setStore_factoryTrim (s : State) (x : Store) : (s.setStore x).factoryTrim = s.factoryTrim := rfl
@[simp] theorem State.setStore_identRead (s : State) (x : Store) : (s.setStore x).identRead = s.identRead := rfl
@[simp] theorem State.setStore_ports (s : State) (x : Store) : (s.setStore x).ports = s.ports := rfl
@[simp] theorem State.setStore_lineC (s : State) (x : Store) : (s.setStore x).lineC = s.lineC := rfl
@[simp] theorem State.setStore_resetReq (s : State) (x : Store) : (s.setStore x).resetReq = s.resetReq := rfl
@[simp] theorem State.setStore_freeIndex (s : State) (x : Store) : (s.setStore x).freeIndex = s.freeIndex := rfl
@[simp] theorem State.setStore_pending (s : State) (x : Store) : (s.setStore x).pending = s.pending := rfl

/-! ### setRun -/

@[simp] theorem State.setRun_phase (s : State) (r : Option Run) : (s.setRun r).phase = s.phase := rfl
@[simp] theorem State.setRun_resetLow (s : State) (r : Option Run) : (s.setRun r).resetLow = s.resetLow := rfl
@[simp] theorem State.setRun_maintClosed (s : State) (r : Option Run) : (s.setRun r).maintClosed = s.maintClosed := rfl
@[simp] theorem State.setRun_backup (s : State) (r : Option Run) : (s.setRun r).backup = s.backup := rfl
@[simp] theorem State.setRun_uptime (s : State) (r : Option Run) : (s.setRun r).uptime = s.uptime := rfl
@[simp] theorem State.setRun_uptimeSub (s : State) (r : Option Run) : (s.setRun r).uptimeSub = s.uptimeSub := rfl
@[simp] theorem State.setRun_ticks (s : State) (r : Option Run) : (s.setRun r).ticks = s.ticks := rfl
@[simp] theorem State.setRun_startTicks (s : State) (r : Option Run) : (s.setRun r).startTicks = s.startTicks := rfl
@[simp] theorem State.setRun_sched (s : State) (r : Option Run) : (s.setRun r).sched = s.sched := rfl
@[simp] theorem State.setRun_cfg (s : State) (r : Option Run) : (s.setRun r).cfg = s.cfg := rfl
@[simp] theorem State.setRun_limits (s : State) (r : Option Run) : (s.setRun r).limits = s.limits := rfl
@[simp] theorem State.setRun_floatCh (s : State) (r : Option Run) : (s.setRun r).floatCh = s.floatCh := rfl
@[simp] theorem State.setRun_pressCh (s : State) (r : Option Run) : (s.setRun r).pressCh = s.pressCh := rfl
@[simp] theorem State.setRun_sel (s : State) (r : Option Run) : (s.setRun r).sel = s.sel := rfl
@[simp] theorem State.setRun_window (s : State) (r : Option Run) : (s.setRun r).window = s.window := rfl
@[simp] theorem State.setRun_rating (s : State) (r : Option Run) : (s.setRun r).rating = s.rating := rfl
@[simp] theorem State.setRun_warn (s : State) (r : Option Run) : (s.setRun r).warn = s.warn := rfl
@[simp] theorem State.setRun_run (s : State) (r : Option Run) : (s.setRun r).run = r := rfl
@[simp] theorem State.setRun_newestRunId (s : State) (r : Option Run) : (s.setRun r).newestRunId = s.newestRunId := rfl
@[simp] theorem State.setRun_meter (s : State) (r : Option Run) : (s.setRun r).meter = s.meter := rfl
@[simp] theorem State.setRun_gaugings (s : State) (r : Option Run) : (s.setRun r).gaugings = s.gaugings := rfl
@[simp] theorem State.setRun_store (s : State) (r : Option Run) : (s.setRun r).store = s.store := rfl
@[simp] theorem State.setRun_factorySerial (s : State) (r : Option Run) : (s.setRun r).factorySerial = s.factorySerial := rfl
@[simp] theorem State.setRun_factoryTrim (s : State) (r : Option Run) : (s.setRun r).factoryTrim = s.factoryTrim := rfl
@[simp] theorem State.setRun_identRead (s : State) (r : Option Run) : (s.setRun r).identRead = s.identRead := rfl
@[simp] theorem State.setRun_ports (s : State) (r : Option Run) : (s.setRun r).ports = s.ports := rfl
@[simp] theorem State.setRun_lineC (s : State) (r : Option Run) : (s.setRun r).lineC = s.lineC := rfl
@[simp] theorem State.setRun_resetReq (s : State) (r : Option Run) : (s.setRun r).resetReq = s.resetReq := rfl
@[simp] theorem State.setRun_freeIndex (s : State) (r : Option Run) : (s.setRun r).freeIndex = s.freeIndex := rfl
@[simp] theorem State.setRun_pending (s : State) (r : Option Run) : (s.setRun r).pending = s.pending := rfl

/-! ### mapRun -/

@[simp] theorem State.mapRun_phase (s : State) (f : Run → Run) : (s.mapRun f).phase = s.phase := rfl
@[simp] theorem State.mapRun_resetLow (s : State) (f : Run → Run) : (s.mapRun f).resetLow = s.resetLow := rfl
@[simp] theorem State.mapRun_maintClosed (s : State) (f : Run → Run) : (s.mapRun f).maintClosed = s.maintClosed := rfl
@[simp] theorem State.mapRun_backup (s : State) (f : Run → Run) : (s.mapRun f).backup = s.backup := rfl
@[simp] theorem State.mapRun_uptime (s : State) (f : Run → Run) : (s.mapRun f).uptime = s.uptime := rfl
@[simp] theorem State.mapRun_uptimeSub (s : State) (f : Run → Run) : (s.mapRun f).uptimeSub = s.uptimeSub := rfl
@[simp] theorem State.mapRun_ticks (s : State) (f : Run → Run) : (s.mapRun f).ticks = s.ticks := rfl
@[simp] theorem State.mapRun_startTicks (s : State) (f : Run → Run) : (s.mapRun f).startTicks = s.startTicks := rfl
@[simp] theorem State.mapRun_sched (s : State) (f : Run → Run) : (s.mapRun f).sched = s.sched := rfl
@[simp] theorem State.mapRun_cfg (s : State) (f : Run → Run) : (s.mapRun f).cfg = s.cfg := rfl
@[simp] theorem State.mapRun_limits (s : State) (f : Run → Run) : (s.mapRun f).limits = s.limits := rfl
@[simp] theorem State.mapRun_floatCh (s : State) (f : Run → Run) : (s.mapRun f).floatCh = s.floatCh := rfl
@[simp] theorem State.mapRun_pressCh (s : State) (f : Run → Run) : (s.mapRun f).pressCh = s.pressCh := rfl
@[simp] theorem State.mapRun_sel (s : State) (f : Run → Run) : (s.mapRun f).sel = s.sel := rfl
@[simp] theorem State.mapRun_window (s : State) (f : Run → Run) : (s.mapRun f).window = s.window := rfl
@[simp] theorem State.mapRun_rating (s : State) (f : Run → Run) : (s.mapRun f).rating = s.rating := rfl
@[simp] theorem State.mapRun_warn (s : State) (f : Run → Run) : (s.mapRun f).warn = s.warn := rfl
@[simp] theorem State.mapRun_run (s : State) (f : Run → Run) : (s.mapRun f).run = s.run.map f := rfl
@[simp] theorem State.mapRun_newestRunId (s : State) (f : Run → Run) : (s.mapRun f).newestRunId = s.newestRunId := rfl
@[simp] theorem State.mapRun_meter (s : State) (f : Run → Run) : (s.mapRun f).meter = s.meter := rfl
@[simp] theorem State.mapRun_gaugings (s : State) (f : Run → Run) : (s.mapRun f).gaugings = s.gaugings := rfl
@[simp] theorem State.mapRun_store (s : State) (f : Run → Run) : (s.mapRun f).store = s.store := rfl
@[simp] theorem State.mapRun_factorySerial (s : State) (f : Run → Run) : (s.mapRun f).factorySerial = s.factorySerial := rfl
@[simp] theorem State.mapRun_factoryTrim (s : State) (f : Run → Run) : (s.mapRun f).factoryTrim = s.factoryTrim := rfl
@[simp] theorem State.mapRun_identRead (s : State) (f : Run → Run) : (s.mapRun f).identRead = s.identRead := rfl
@[simp] theorem State.mapRun_ports (s : State) (f : Run → Run) : (s.mapRun f).ports = s.ports := rfl
@[simp] theorem State.mapRun_lineC (s : State) (f : Run → Run) : (s.mapRun f).lineC = s.lineC := rfl
@[simp] theorem State.mapRun_resetReq (s : State) (f : Run → Run) : (s.mapRun f).resetReq = s.resetReq := rfl
@[simp] theorem State.mapRun_freeIndex (s : State) (f : Run → Run) : (s.mapRun f).freeIndex = s.freeIndex := rfl
@[simp] theorem State.mapRun_pending (s : State) (f : Run → Run) : (s.mapRun f).pending = s.pending := rfl

/-! ### mapWarn -/

@[simp] theorem State.mapWarn_phase (s : State) (f : WarningUnit → WarningUnit) : (s.mapWarn f).phase = s.phase := rfl
@[simp] theorem State.mapWarn_resetLow (s : State) (f : WarningUnit → WarningUnit) : (s.mapWarn f).resetLow = s.resetLow := rfl
@[simp] theorem State.mapWarn_maintClosed (s : State) (f : WarningUnit → WarningUnit) : (s.mapWarn f).maintClosed = s.maintClosed := rfl
@[simp] theorem State.mapWarn_backup (s : State) (f : WarningUnit → WarningUnit) : (s.mapWarn f).backup = s.backup := rfl
@[simp] theorem State.mapWarn_uptime (s : State) (f : WarningUnit → WarningUnit) : (s.mapWarn f).uptime = s.uptime := rfl
@[simp] theorem State.mapWarn_uptimeSub (s : State) (f : WarningUnit → WarningUnit) : (s.mapWarn f).uptimeSub = s.uptimeSub := rfl
@[simp] theorem State.mapWarn_ticks (s : State) (f : WarningUnit → WarningUnit) : (s.mapWarn f).ticks = s.ticks := rfl
@[simp] theorem State.mapWarn_startTicks (s : State) (f : WarningUnit → WarningUnit) : (s.mapWarn f).startTicks = s.startTicks := rfl
@[simp] theorem State.mapWarn_sched (s : State) (f : WarningUnit → WarningUnit) : (s.mapWarn f).sched = s.sched := rfl
@[simp] theorem State.mapWarn_cfg (s : State) (f : WarningUnit → WarningUnit) : (s.mapWarn f).cfg = s.cfg := rfl
@[simp] theorem State.mapWarn_limits (s : State) (f : WarningUnit → WarningUnit) : (s.mapWarn f).limits = s.limits := rfl
@[simp] theorem State.mapWarn_floatCh (s : State) (f : WarningUnit → WarningUnit) : (s.mapWarn f).floatCh = s.floatCh := rfl
@[simp] theorem State.mapWarn_pressCh (s : State) (f : WarningUnit → WarningUnit) : (s.mapWarn f).pressCh = s.pressCh := rfl
@[simp] theorem State.mapWarn_sel (s : State) (f : WarningUnit → WarningUnit) : (s.mapWarn f).sel = s.sel := rfl
@[simp] theorem State.mapWarn_window (s : State) (f : WarningUnit → WarningUnit) : (s.mapWarn f).window = s.window := rfl
@[simp] theorem State.mapWarn_rating (s : State) (f : WarningUnit → WarningUnit) : (s.mapWarn f).rating = s.rating := rfl
@[simp] theorem State.mapWarn_warn (s : State) (f : WarningUnit → WarningUnit) : (s.mapWarn f).warn = f s.warn := rfl
@[simp] theorem State.mapWarn_run (s : State) (f : WarningUnit → WarningUnit) : (s.mapWarn f).run = s.run := rfl
@[simp] theorem State.mapWarn_newestRunId (s : State) (f : WarningUnit → WarningUnit) : (s.mapWarn f).newestRunId = s.newestRunId := rfl
@[simp] theorem State.mapWarn_meter (s : State) (f : WarningUnit → WarningUnit) : (s.mapWarn f).meter = s.meter := rfl
@[simp] theorem State.mapWarn_gaugings (s : State) (f : WarningUnit → WarningUnit) : (s.mapWarn f).gaugings = s.gaugings := rfl
@[simp] theorem State.mapWarn_store (s : State) (f : WarningUnit → WarningUnit) : (s.mapWarn f).store = s.store := rfl
@[simp] theorem State.mapWarn_factorySerial (s : State) (f : WarningUnit → WarningUnit) : (s.mapWarn f).factorySerial = s.factorySerial := rfl
@[simp] theorem State.mapWarn_factoryTrim (s : State) (f : WarningUnit → WarningUnit) : (s.mapWarn f).factoryTrim = s.factoryTrim := rfl
@[simp] theorem State.mapWarn_identRead (s : State) (f : WarningUnit → WarningUnit) : (s.mapWarn f).identRead = s.identRead := rfl
@[simp] theorem State.mapWarn_ports (s : State) (f : WarningUnit → WarningUnit) : (s.mapWarn f).ports = s.ports := rfl
@[simp] theorem State.mapWarn_lineC (s : State) (f : WarningUnit → WarningUnit) : (s.mapWarn f).lineC = s.lineC := rfl
@[simp] theorem State.mapWarn_resetReq (s : State) (f : WarningUnit → WarningUnit) : (s.mapWarn f).resetReq = s.resetReq := rfl
@[simp] theorem State.mapWarn_freeIndex (s : State) (f : WarningUnit → WarningUnit) : (s.mapWarn f).freeIndex = s.freeIndex := rfl
@[simp] theorem State.mapWarn_pending (s : State) (f : WarningUnit → WarningUnit) : (s.mapWarn f).pending = s.pending := rfl

/-! ### mapSel -/

@[simp] theorem State.mapSel_phase (s : State) (f : Selector → Selector) : (s.mapSel f).phase = s.phase := rfl
@[simp] theorem State.mapSel_resetLow (s : State) (f : Selector → Selector) : (s.mapSel f).resetLow = s.resetLow := rfl
@[simp] theorem State.mapSel_maintClosed (s : State) (f : Selector → Selector) : (s.mapSel f).maintClosed = s.maintClosed := rfl
@[simp] theorem State.mapSel_backup (s : State) (f : Selector → Selector) : (s.mapSel f).backup = s.backup := rfl
@[simp] theorem State.mapSel_uptime (s : State) (f : Selector → Selector) : (s.mapSel f).uptime = s.uptime := rfl
@[simp] theorem State.mapSel_uptimeSub (s : State) (f : Selector → Selector) : (s.mapSel f).uptimeSub = s.uptimeSub := rfl
@[simp] theorem State.mapSel_ticks (s : State) (f : Selector → Selector) : (s.mapSel f).ticks = s.ticks := rfl
@[simp] theorem State.mapSel_startTicks (s : State) (f : Selector → Selector) : (s.mapSel f).startTicks = s.startTicks := rfl
@[simp] theorem State.mapSel_sched (s : State) (f : Selector → Selector) : (s.mapSel f).sched = s.sched := rfl
@[simp] theorem State.mapSel_cfg (s : State) (f : Selector → Selector) : (s.mapSel f).cfg = s.cfg := rfl
@[simp] theorem State.mapSel_limits (s : State) (f : Selector → Selector) : (s.mapSel f).limits = s.limits := rfl
@[simp] theorem State.mapSel_floatCh (s : State) (f : Selector → Selector) : (s.mapSel f).floatCh = s.floatCh := rfl
@[simp] theorem State.mapSel_pressCh (s : State) (f : Selector → Selector) : (s.mapSel f).pressCh = s.pressCh := rfl
@[simp] theorem State.mapSel_sel (s : State) (f : Selector → Selector) : (s.mapSel f).sel = f s.sel := rfl
@[simp] theorem State.mapSel_window (s : State) (f : Selector → Selector) : (s.mapSel f).window = s.window := rfl
@[simp] theorem State.mapSel_rating (s : State) (f : Selector → Selector) : (s.mapSel f).rating = s.rating := rfl
@[simp] theorem State.mapSel_warn (s : State) (f : Selector → Selector) : (s.mapSel f).warn = s.warn := rfl
@[simp] theorem State.mapSel_run (s : State) (f : Selector → Selector) : (s.mapSel f).run = s.run := rfl
@[simp] theorem State.mapSel_newestRunId (s : State) (f : Selector → Selector) : (s.mapSel f).newestRunId = s.newestRunId := rfl
@[simp] theorem State.mapSel_meter (s : State) (f : Selector → Selector) : (s.mapSel f).meter = s.meter := rfl
@[simp] theorem State.mapSel_gaugings (s : State) (f : Selector → Selector) : (s.mapSel f).gaugings = s.gaugings := rfl
@[simp] theorem State.mapSel_store (s : State) (f : Selector → Selector) : (s.mapSel f).store = s.store := rfl
@[simp] theorem State.mapSel_factorySerial (s : State) (f : Selector → Selector) : (s.mapSel f).factorySerial = s.factorySerial := rfl
@[simp] theorem State.mapSel_factoryTrim (s : State) (f : Selector → Selector) : (s.mapSel f).factoryTrim = s.factoryTrim := rfl
@[simp] theorem State.mapSel_identRead (s : State) (f : Selector → Selector) : (s.mapSel f).identRead = s.identRead := rfl
@[simp] theorem State.mapSel_ports (s : State) (f : Selector → Selector) : (s.mapSel f).ports = s.ports := rfl
@[simp] theorem State.mapSel_lineC (s : State) (f : Selector → Selector) : (s.mapSel f).lineC = s.lineC := rfl
@[simp] theorem State.mapSel_resetReq (s : State) (f : Selector → Selector) : (s.mapSel f).resetReq = s.resetReq := rfl
@[simp] theorem State.mapSel_freeIndex (s : State) (f : Selector → Selector) : (s.mapSel f).freeIndex = s.freeIndex := rfl
@[simp] theorem State.mapSel_pending (s : State) (f : Selector → Selector) : (s.mapSel f).pending = s.pending := rfl

/-! ### setDraft -/

@[simp] theorem State.setDraft_phase (s : State) (d : Draft) : (s.setDraft d).phase = s.phase := rfl
@[simp] theorem State.setDraft_resetLow (s : State) (d : Draft) : (s.setDraft d).resetLow = s.resetLow := rfl
@[simp] theorem State.setDraft_maintClosed (s : State) (d : Draft) : (s.setDraft d).maintClosed = s.maintClosed := rfl
@[simp] theorem State.setDraft_backup (s : State) (d : Draft) : (s.setDraft d).backup = s.backup := rfl
@[simp] theorem State.setDraft_uptime (s : State) (d : Draft) : (s.setDraft d).uptime = s.uptime := rfl
@[simp] theorem State.setDraft_uptimeSub (s : State) (d : Draft) : (s.setDraft d).uptimeSub = s.uptimeSub := rfl
@[simp] theorem State.setDraft_ticks (s : State) (d : Draft) : (s.setDraft d).ticks = s.ticks := rfl
@[simp] theorem State.setDraft_startTicks (s : State) (d : Draft) : (s.setDraft d).startTicks = s.startTicks := rfl
@[simp] theorem State.setDraft_sched (s : State) (d : Draft) : (s.setDraft d).sched = s.sched := rfl
@[simp] theorem State.setDraft_cfg (s : State) (d : Draft) : (s.setDraft d).cfg = s.cfg := rfl
@[simp] theorem State.setDraft_limits (s : State) (d : Draft) : (s.setDraft d).limits = s.limits := rfl
@[simp] theorem State.setDraft_floatCh (s : State) (d : Draft) : (s.setDraft d).floatCh = s.floatCh := rfl
@[simp] theorem State.setDraft_pressCh (s : State) (d : Draft) : (s.setDraft d).pressCh = s.pressCh := rfl
@[simp] theorem State.setDraft_sel (s : State) (d : Draft) : (s.setDraft d).sel = s.sel := rfl
@[simp] theorem State.setDraft_window (s : State) (d : Draft) : (s.setDraft d).window = s.window := rfl
@[simp] theorem State.setDraft_rating (s : State) (d : Draft) : (s.setDraft d).rating = { s.rating with draft := d } := rfl
@[simp] theorem State.setDraft_warn (s : State) (d : Draft) : (s.setDraft d).warn = s.warn := rfl
@[simp] theorem State.setDraft_run (s : State) (d : Draft) : (s.setDraft d).run = s.run := rfl
@[simp] theorem State.setDraft_newestRunId (s : State) (d : Draft) : (s.setDraft d).newestRunId = s.newestRunId := rfl
@[simp] theorem State.setDraft_meter (s : State) (d : Draft) : (s.setDraft d).meter = s.meter := rfl
@[simp] theorem State.setDraft_gaugings (s : State) (d : Draft) : (s.setDraft d).gaugings = s.gaugings := rfl
@[simp] theorem State.setDraft_store (s : State) (d : Draft) : (s.setDraft d).store = s.store := rfl
@[simp] theorem State.setDraft_factorySerial (s : State) (d : Draft) : (s.setDraft d).factorySerial = s.factorySerial := rfl
@[simp] theorem State.setDraft_factoryTrim (s : State) (d : Draft) : (s.setDraft d).factoryTrim = s.factoryTrim := rfl
@[simp] theorem State.setDraft_identRead (s : State) (d : Draft) : (s.setDraft d).identRead = s.identRead := rfl
@[simp] theorem State.setDraft_ports (s : State) (d : Draft) : (s.setDraft d).ports = s.ports := rfl
@[simp] theorem State.setDraft_lineC (s : State) (d : Draft) : (s.setDraft d).lineC = s.lineC := rfl
@[simp] theorem State.setDraft_resetReq (s : State) (d : Draft) : (s.setDraft d).resetReq = s.resetReq := rfl
@[simp] theorem State.setDraft_freeIndex (s : State) (d : Draft) : (s.setDraft d).freeIndex = s.freeIndex := rfl
@[simp] theorem State.setDraft_pending (s : State) (d : Draft) : (s.setDraft d).pending = s.pending := rfl

/-! ### setNextSample -/

@[simp] theorem State.setNextSample_phase (s : State) (t : Word32) : (s.setNextSample t).phase = s.phase := rfl
@[simp] theorem State.setNextSample_resetLow (s : State) (t : Word32) : (s.setNextSample t).resetLow = s.resetLow := rfl
@[simp] theorem State.setNextSample_maintClosed (s : State) (t : Word32) : (s.setNextSample t).maintClosed = s.maintClosed := rfl
@[simp] theorem State.setNextSample_backup (s : State) (t : Word32) : (s.setNextSample t).backup = s.backup := rfl
@[simp] theorem State.setNextSample_uptime (s : State) (t : Word32) : (s.setNextSample t).uptime = s.uptime := rfl
@[simp] theorem State.setNextSample_uptimeSub (s : State) (t : Word32) : (s.setNextSample t).uptimeSub = s.uptimeSub := rfl
@[simp] theorem State.setNextSample_ticks (s : State) (t : Word32) : (s.setNextSample t).ticks = s.ticks := rfl
@[simp] theorem State.setNextSample_startTicks (s : State) (t : Word32) : (s.setNextSample t).startTicks = s.startTicks := rfl
@[simp] theorem State.setNextSample_sched (s : State) (t : Word32) : (s.setNextSample t).sched = { s.sched with nextSample := t } := rfl
@[simp] theorem State.setNextSample_cfg (s : State) (t : Word32) : (s.setNextSample t).cfg = s.cfg := rfl
@[simp] theorem State.setNextSample_limits (s : State) (t : Word32) : (s.setNextSample t).limits = s.limits := rfl
@[simp] theorem State.setNextSample_floatCh (s : State) (t : Word32) : (s.setNextSample t).floatCh = s.floatCh := rfl
@[simp] theorem State.setNextSample_pressCh (s : State) (t : Word32) : (s.setNextSample t).pressCh = s.pressCh := rfl
@[simp] theorem State.setNextSample_sel (s : State) (t : Word32) : (s.setNextSample t).sel = s.sel := rfl
@[simp] theorem State.setNextSample_window (s : State) (t : Word32) : (s.setNextSample t).window = s.window := rfl
@[simp] theorem State.setNextSample_rating (s : State) (t : Word32) : (s.setNextSample t).rating = s.rating := rfl
@[simp] theorem State.setNextSample_warn (s : State) (t : Word32) : (s.setNextSample t).warn = s.warn := rfl
@[simp] theorem State.setNextSample_run (s : State) (t : Word32) : (s.setNextSample t).run = s.run := rfl
@[simp] theorem State.setNextSample_newestRunId (s : State) (t : Word32) : (s.setNextSample t).newestRunId = s.newestRunId := rfl
@[simp] theorem State.setNextSample_meter (s : State) (t : Word32) : (s.setNextSample t).meter = s.meter := rfl
@[simp] theorem State.setNextSample_gaugings (s : State) (t : Word32) : (s.setNextSample t).gaugings = s.gaugings := rfl
@[simp] theorem State.setNextSample_store (s : State) (t : Word32) : (s.setNextSample t).store = s.store := rfl
@[simp] theorem State.setNextSample_factorySerial (s : State) (t : Word32) : (s.setNextSample t).factorySerial = s.factorySerial := rfl
@[simp] theorem State.setNextSample_factoryTrim (s : State) (t : Word32) : (s.setNextSample t).factoryTrim = s.factoryTrim := rfl
@[simp] theorem State.setNextSample_identRead (s : State) (t : Word32) : (s.setNextSample t).identRead = s.identRead := rfl
@[simp] theorem State.setNextSample_ports (s : State) (t : Word32) : (s.setNextSample t).ports = s.ports := rfl
@[simp] theorem State.setNextSample_lineC (s : State) (t : Word32) : (s.setNextSample t).lineC = s.lineC := rfl
@[simp] theorem State.setNextSample_resetReq (s : State) (t : Word32) : (s.setNextSample t).resetReq = s.resetReq := rfl
@[simp] theorem State.setNextSample_freeIndex (s : State) (t : Word32) : (s.setNextSample t).freeIndex = s.freeIndex := rfl
@[simp] theorem State.setNextSample_pending (s : State) (t : Word32) : (s.setNextSample t).pending = s.pending := rfl

/-! ### purgeWindow -/

@[simp] theorem State.purgeWindow_phase (s : State) : (s.purgeWindow).phase = s.phase := rfl
@[simp] theorem State.purgeWindow_resetLow (s : State) : (s.purgeWindow).resetLow = s.resetLow := rfl
@[simp] theorem State.purgeWindow_maintClosed (s : State) : (s.purgeWindow).maintClosed = s.maintClosed := rfl
@[simp] theorem State.purgeWindow_backup (s : State) : (s.purgeWindow).backup = s.backup := rfl
@[simp] theorem State.purgeWindow_uptime (s : State) : (s.purgeWindow).uptime = s.uptime := rfl
@[simp] theorem State.purgeWindow_uptimeSub (s : State) : (s.purgeWindow).uptimeSub = s.uptimeSub := rfl
@[simp] theorem State.purgeWindow_ticks (s : State) : (s.purgeWindow).ticks = s.ticks := rfl
@[simp] theorem State.purgeWindow_startTicks (s : State) : (s.purgeWindow).startTicks = s.startTicks := rfl
@[simp] theorem State.purgeWindow_sched (s : State) : (s.purgeWindow).sched = s.sched := rfl
@[simp] theorem State.purgeWindow_cfg (s : State) : (s.purgeWindow).cfg = s.cfg := rfl
@[simp] theorem State.purgeWindow_limits (s : State) : (s.purgeWindow).limits = s.limits := rfl
@[simp] theorem State.purgeWindow_floatCh (s : State) : (s.purgeWindow).floatCh = s.floatCh := rfl
@[simp] theorem State.purgeWindow_pressCh (s : State) : (s.purgeWindow).pressCh = s.pressCh := rfl
@[simp] theorem State.purgeWindow_sel (s : State) : (s.purgeWindow).sel = s.sel := rfl
@[simp] theorem State.purgeWindow_window (s : State) : (s.purgeWindow).window = [] := rfl
@[simp] theorem State.purgeWindow_rating (s : State) : (s.purgeWindow).rating = s.rating := rfl
@[simp] theorem State.purgeWindow_warn (s : State) : (s.purgeWindow).warn = s.warn := rfl
@[simp] theorem State.purgeWindow_run (s : State) : (s.purgeWindow).run = s.run := rfl
@[simp] theorem State.purgeWindow_newestRunId (s : State) : (s.purgeWindow).newestRunId = s.newestRunId := rfl
@[simp] theorem State.purgeWindow_meter (s : State) : (s.purgeWindow).meter = s.meter := rfl
@[simp] theorem State.purgeWindow_gaugings (s : State) : (s.purgeWindow).gaugings = s.gaugings := rfl
@[simp] theorem State.purgeWindow_store (s : State) : (s.purgeWindow).store = s.store := rfl
@[simp] theorem State.purgeWindow_factorySerial (s : State) : (s.purgeWindow).factorySerial = s.factorySerial := rfl
@[simp] theorem State.purgeWindow_factoryTrim (s : State) : (s.purgeWindow).factoryTrim = s.factoryTrim := rfl
@[simp] theorem State.purgeWindow_identRead (s : State) : (s.purgeWindow).identRead = s.identRead := rfl
@[simp] theorem State.purgeWindow_ports (s : State) : (s.purgeWindow).ports = s.ports := rfl
@[simp] theorem State.purgeWindow_lineC (s : State) : (s.purgeWindow).lineC = s.lineC := rfl
@[simp] theorem State.purgeWindow_resetReq (s : State) : (s.purgeWindow).resetReq = s.resetReq := rfl
@[simp] theorem State.purgeWindow_freeIndex (s : State) : (s.purgeWindow).freeIndex = s.freeIndex := rfl
@[simp] theorem State.purgeWindow_pending (s : State) : (s.purgeWindow).pending = s.pending := rfl

/-! ### withMaint -/

@[simp] theorem State.withMaint_phase (s : State) (b : Bool) : (s.withMaint b).phase = s.phase := rfl
@[simp] theorem State.withMaint_resetLow (s : State) (b : Bool) : (s.withMaint b).resetLow = s.resetLow := rfl
@[simp] theorem State.withMaint_maintClosed (s : State) (b : Bool) : (s.withMaint b).maintClosed = b := rfl
@[simp] theorem State.withMaint_backup (s : State) (b : Bool) : (s.withMaint b).backup = s.backup := rfl
@[simp] theorem State.withMaint_uptime (s : State) (b : Bool) : (s.withMaint b).uptime = s.uptime := rfl
@[simp] theorem State.withMaint_uptimeSub (s : State) (b : Bool) : (s.withMaint b).uptimeSub = s.uptimeSub := rfl
@[simp] theorem State.withMaint_ticks (s : State) (b : Bool) : (s.withMaint b).ticks = s.ticks := rfl
@[simp] theorem State.withMaint_startTicks (s : State) (b : Bool) : (s.withMaint b).startTicks = s.startTicks := rfl
@[simp] theorem State.withMaint_sched (s : State) (b : Bool) : (s.withMaint b).sched = s.sched := rfl
@[simp] theorem State.withMaint_cfg (s : State) (b : Bool) : (s.withMaint b).cfg = s.cfg := rfl
@[simp] theorem State.withMaint_limits (s : State) (b : Bool) : (s.withMaint b).limits = s.limits := rfl
@[simp] theorem State.withMaint_floatCh (s : State) (b : Bool) : (s.withMaint b).floatCh = s.floatCh := rfl
@[simp] theorem State.withMaint_pressCh (s : State) (b : Bool) : (s.withMaint b).pressCh = s.pressCh := rfl
@[simp] theorem State.withMaint_sel (s : State) (b : Bool) : (s.withMaint b).sel = s.sel := rfl
@[simp] theorem State.withMaint_window (s : State) (b : Bool) : (s.withMaint b).window = s.window := rfl
@[simp] theorem State.withMaint_rating (s : State) (b : Bool) : (s.withMaint b).rating = s.rating := rfl
@[simp] theorem State.withMaint_warn (s : State) (b : Bool) : (s.withMaint b).warn = s.warn := rfl
@[simp] theorem State.withMaint_run (s : State) (b : Bool) : (s.withMaint b).run = s.run := rfl
@[simp] theorem State.withMaint_newestRunId (s : State) (b : Bool) : (s.withMaint b).newestRunId = s.newestRunId := rfl
@[simp] theorem State.withMaint_meter (s : State) (b : Bool) : (s.withMaint b).meter = s.meter := rfl
@[simp] theorem State.withMaint_gaugings (s : State) (b : Bool) : (s.withMaint b).gaugings = s.gaugings := rfl
@[simp] theorem State.withMaint_store (s : State) (b : Bool) : (s.withMaint b).store = s.store := rfl
@[simp] theorem State.withMaint_factorySerial (s : State) (b : Bool) : (s.withMaint b).factorySerial = s.factorySerial := rfl
@[simp] theorem State.withMaint_factoryTrim (s : State) (b : Bool) : (s.withMaint b).factoryTrim = s.factoryTrim := rfl
@[simp] theorem State.withMaint_identRead (s : State) (b : Bool) : (s.withMaint b).identRead = s.identRead := rfl
@[simp] theorem State.withMaint_ports (s : State) (b : Bool) : (s.withMaint b).ports = s.ports := rfl
@[simp] theorem State.withMaint_lineC (s : State) (b : Bool) : (s.withMaint b).lineC = s.lineC := rfl
@[simp] theorem State.withMaint_resetReq (s : State) (b : Bool) : (s.withMaint b).resetReq = s.resetReq := rfl
@[simp] theorem State.withMaint_freeIndex (s : State) (b : Bool) : (s.withMaint b).freeIndex = s.freeIndex := rfl
@[simp] theorem State.withMaint_pending (s : State) (b : Bool) : (s.withMaint b).pending = s.pending := rfl

/-! ### The ports -/

@[simp] theorem Ports.get_set_same (ps : Ports) (p : Port) (x : PortState) : (ps.set p x).get p = x := by
  cases p <;> rfl

@[simp] theorem Ports.get_set_other (ps : Ports) (p q : Port) (x : PortState) (h : q ≠ p) : (ps.set p x).get q = ps.get q := by
  cases p <;> cases q <;> first | rfl | exact absurd rfl h

@[simp] theorem Ports.set_get (ps : Ports) (p : Port) : ps.set p (ps.get p) = ps := by cases p <;> rfl

@[simp] theorem Ports.set_set (ps : Ports) (p : Port) (x y : PortState) : (ps.set p x).set p y = ps.set p y := by
  cases p <;> rfl

@[simp] theorem State.setPort_port_same (s : State) (p : Port) (x : PortState) : (s.setPort p x).port p = x := by
  cases p <;> rfl

@[simp] theorem State.setPort_port_other (s : State) (p q : Port) (x : PortState) (h : q ≠ p) :
    (s.setPort p x).port q = s.port q := Ports.get_set_other s.ports p q x h

@[simp] theorem State.setPort_setPort (s : State) (p : Port) (x y : PortState) :
    (s.setPort p x).setPort p y = s.setPort p y := by cases p <;> rfl

@[simp] theorem State.setStore_setStore (s : State) (x y : Store) : (s.setStore x).setStore y = s.setStore y := rfl

@[simp] theorem State.setRun_setRun (s : State) (x y : Option Run) : (s.setRun x).setRun y = s.setRun y := rfl

end Sys2Proof.Machine
end

