-- ==== Sys2Proof/Laws/Flash.lean ====
section
/-! SUPPORT. What each operation over the flash array can do: every one keeps the canonical form, and a unit
that was programmed is the one that is read (R138). When a region has a place for a unit (R138, R143, R156), which
reads give way to other work and what a search looks at (R153), and which erases ERASE_LOG asks for (R155). -/

namespace Sys2Proof.Machine

/-! ### The canonical form -/

/-- Rising addresses, pair by pair. -/
theorem Flash.rising_iff (f : Flash) : f.rising = true ↔ f.Pairwise fun x y => x.1 < y.1 := by
  induction f with
  | nil => simp [Flash.rising]
  | cons x rest ih =>
    cases rest with
    | nil => simp [Flash.rising]
    | cons y rest =>
      simp only [Flash.rising, Bool.and_eq_true, decide_eq_true_eq, ih, List.pairwise_cons]
      refine ⟨fun ⟨h, hy, hr⟩ => ⟨?_, hy, hr⟩, fun ⟨h, hy, hr⟩ => ⟨h y (by simp), hy, hr⟩⟩
      rintro z (_ | ⟨_, hz⟩)
      · exact h
      · exact Nat.lt_trans h (hy z hz)

/-- The canonical form: addresses rising pair by pair, and inside the array. -/
theorem Flash.wf_iff (f : Flash) :
    f.wf = true ↔ (f.Pairwise fun x y => x.1 < y.1) ∧ ∀ e ∈ f, e.1 < arraySize := by
  simp [Flash.wf, Flash.rising_iff]

/-- The array right after reset has the canonical form. -/
theorem Flash.wf_reset : State.reset.store.flash.wf = true := rfl

/-- An empty array has it. -/
@[simp] theorem Flash.wf_nil : Flash.wf [] = true := rfl

/-- Every part of an array that has the form has it. -/
theorem Flash.wf_filter {f : Flash} (p : Nat × FlashUnit → Bool) (h : f.wf = true) :
    Flash.wf (f.filter p) = true := by
  obtain ⟨hr, hb⟩ := f.wf_iff.1 h
  exact (Flash.wf_iff _).2 ⟨hr.filter _, fun e he => hb e (List.mem_filter.1 he).1⟩

/-! ### Programming a unit -/

/-- What a unit entered in the array adds to its entries. -/
theorem Flash.mem_put (f : Flash) (a : Nat) (u : FlashUnit) (e : Nat × FlashUnit) (h : e ∈ f.put a u) :
    e = (a, u) ∨ e ∈ f := by
  induction f with
  | nil => simpa [Flash.put] using h
  | cons x rest ih =>
    obtain ⟨k, v⟩ := x
    simp only [Flash.put] at h
    split at h
    · simpa using h
    · split at h
      · rcases List.mem_cons.1 h with h | h
        · exact .inl h
        · exact .inr (List.mem_cons_of_mem _ h)
      · rcases List.mem_cons.1 h with h | h
        · exact .inr (h ▸ List.mem_cons_self)
        · exact (ih h).imp_right (List.mem_cons_of_mem _)

/-- A unit entered keeps the canonical form. -/
theorem Flash.wf_put {f : Flash} (a : Nat) (u : FlashUnit) (h : f.wf = true) (ha : a < arraySize) :
    (f.put a u).wf = true := by
  rw [Flash.wf_iff] at h ⊢
  refine ⟨?_, fun e he => (f.mem_put a u e he).elim (fun h => h ▸ ha) (h.2 e)⟩
  obtain ⟨hp, -⟩ := h
  induction f with
  | nil => simp [Flash.put]
  | cons x rest ih =>
    obtain ⟨k, v⟩ := x
    have hk := List.pairwise_cons.1 hp
    simp only [Flash.put]
    split
    · rename_i hlt
      refine List.pairwise_cons.2 ⟨fun e he => ?_, hp⟩
      rcases List.mem_cons.1 he with rfl | he
      · exact hlt
      · exact Nat.lt_trans hlt (hk.1 e he)
    · split
      · rename_i heq
        subst heq
        exact List.pairwise_cons.2 ⟨hk.1, hk.2⟩
      · refine List.pairwise_cons.2 ⟨fun e he => ?_, ih hk.2⟩
        rcases Flash.mem_put _ _ _ _ he with rfl | he
        · show k < a
          omega
        · exact hk.1 e he

/-- A program keeps the canonical form. -/
theorem Flash.wf_write {f : Flash} (a : Nat) (u : FlashUnit) (h : f.wf = true) : (f.write a u).wf = true := by
  unfold Flash.write
  split
  · exact Flash.wf_put a u h ‹_›
  · exact h

/-- Reading after entering a unit: the unit at its address, and elsewhere what stood there. -/
theorem Flash.read_put (f : Flash) (a b : Nat) (u : FlashUnit) :
    (f.put a u).read b = if b = a then some u else f.read b := by
  induction f with
  | nil => simp [Flash.put, Flash.read, eq_comm]
  | cons x rest ih =>
    obtain ⟨k, v⟩ := x
    simp only [Flash.put]
    split
    · simp only [Flash.read]
      by_cases h : b = a
      · simp [h]
      · simp [h, Ne.symm h]
    · split
      · rename_i h
        subst h
        by_cases h : b = a
        · simp [Flash.read, h]
        · simp [Flash.read, h, Ne.symm h]
      · simp only [Flash.read, ih]
        by_cases h : k = b
        · subst h
          have : k ≠ a := by omega
          simp [this]
        · simp [h]

/-- Reading after a program within the array. -/
theorem Flash.read_write (f : Flash) (a b : Nat) (u : FlashUnit) (h : a < arraySize) :
    (f.write a u).read b = if b = a then some u else f.read b := by
  simp [Flash.write, h, Flash.read_put]

/-- A program beyond the array changes nothing. -/
theorem Flash.write_beyond (f : Flash) (a : Nat) (u : FlashUnit) (h : arraySize ≤ a) : f.write a u = f := by
  simp [Flash.write, Nat.not_lt.2 h]

/-! ### Erasing a block, and what an operation cut short leaves -/

/-- An erase keeps the canonical form. -/
theorem Flash.wf_clear {f : Flash} (b : Nat) (h : f.wf = true) : (f.clear b).wf = true := Flash.wf_filter _ h

/-- A block's units have the canonical form. -/
theorem Flash.wf_block {f : Flash} (b : Nat) (h : f.wf = true) : (f.block b).wf = true := Flash.wf_filter _ h

/-- Units put back keep the canonical form. -/
theorem Flash.wf_restore {f : Flash} (old : Flash) (h : f.wf = true) : (f.restore old).wf = true := by
  induction old with
  | nil => exact h
  | cons x rest ih => exact Flash.wf_write _ _ ih

/-- A unit whose program was cut short keeps the canonical form. -/
theorem Flash.wf_torn {f : Flash} (a : Nat) (u : FlashUnit) (x : Torn) (h : f.wf = true) :
    (f.torn a u x).wf = true := by
  cases x
  · exact h
  · exact Flash.wf_write _ _ h
  · exact Flash.wf_write _ _ h

/-- A header whose program was cut short keeps the canonical form. -/
theorem Flash.wf_tornHeader {f : Flash} (j : ProgramJob) (x : Torn) (h : f.wf = true) :
    (f.tornHeader j x).wf = true := by
  unfold Flash.tornHeader
  split
  · exact h
  · exact Flash.wf_torn _ _ _ h

/-- An erase cut short keeps the canonical form. -/
theorem Flash.wf_tornErase {f : Flash} (old : Flash) (x : Torn) (h : f.wf = true) :
    (f.tornErase old x).wf = true := by
  cases x
  · exact h
  · exact Flash.wf_restore _ h
  · exact Flash.wf_restore _ h

/-- What a reset or a loss of supply finds has the canonical form. -/
theorem Store.wf_cutShort (st : Store) (n : Nat) (h : st.flash.wf = true) : (st.cutShort n).wf = true := by
  unfold Store.cutShort
  split
  · exact h
  · exact h
  · exact Flash.wf_torn _ _ _ (Flash.wf_tornHeader _ _ h)
  · exact Flash.wf_tornErase _ _ h

/-- What a program leaves has the canonical form. -/
theorem ProgramJob.wf_written (j : ProgramJob) (f : Flash) (headerOk unitOk : Bool) (h : f.wf = true) :
    (j.written f headerOk unitOk).wf = true := by
  unfold ProgramJob.written
  refine Flash.wf_write _ _ ?_
  split
  · exact h
  · exact Flash.wf_write _ _ h

/-! ### Places to program -/

/-- The first erased unit of a block: it is erased unless the search ran out, and those before it are not (R138). -/
theorem Flash.firstErased_spec (f : Flash) (b : Nat) : ∀ fuel u,
    u ≤ f.firstErased b fuel u ∧ f.firstErased b fuel u ≤ u + fuel ∧
      (f.firstErased b fuel u < u + fuel → f.read (unitAddr b (f.firstErased b fuel u)) = none) ∧
      ∀ x, u ≤ x → x < f.firstErased b fuel u → f.read (unitAddr b x) ≠ none
  | 0, u => ⟨Nat.le_refl _, Nat.le_refl _, fun h => absurd h (Nat.lt_irrefl _), fun _ h h' => absurd h (Nat.not_le.2 h')⟩
  | fuel + 1, u => by
    have ih := Flash.firstErased_spec f b fuel (u + 1)
    unfold Flash.firstErased
    split
    · next h => exact ⟨Nat.le_refl _, by omega, fun _ => by simpa using h, fun _ h h' => absurd h (Nat.not_le.2 h')⟩
    · next h =>
      refine ⟨by omega, by omega, fun h' => ih.2.2.1 (by omega), fun x hx hx' => ?_⟩
      rcases Nat.eq_or_lt_of_le hx with rfl | hx
      · simpa using h
      · exact ih.2.2.2 x hx hx'

/-- When the next block of a region is prepared for a number of units: it is erased, no erase of it waits, and they are
left from its first erased unit on (R138, R143, R156). -/
theorem Store.freshPlace_isSome_iff (st : Store) (r : Region) (cur : Option CurrentBlock) (need : Nat) :
    (st.freshPlace r cur need).isSome = true ↔ ∃ b, r.next st.bad (cur.map CurrentBlock.block) = some b ∧
      st.flash.headerOf b = .erased ∧ (∀ q ∈ st.erases, q.block ≠ b) ∧ st.flash.firstErased b 255 1 + need ≤ 256 := by
  unfold Store.freshPlace
  split
  · next h => simp [h]
  · next b h => simp [h, Store.blockReady, and_assoc]

/-- When a region with erase-ahead has a place for units: the current block has the room, or the next block is
prepared. -/
theorem Store.place_isSome_iff (st : Store) (r : Region) (cur : Option CurrentBlock) (need whole : Nat) :
    (st.place r cur need whole).isSome = true ↔
      (∃ c, cur = some c ∧ st.fits c need = true) ∨ (st.freshPlace r cur whole).isSome = true := by
  cases cur with
  | none => simp [Store.place]
  | some c => by_cases h : st.fits c need = true <;> simp [Store.place, h]

/-! ### The channel and the reads that give way (R146, R147, R153) -/

@[simp] theorem Channel.resumed_searched (ps : List Port) : (Channel.searched ps).resumed = .free := rfl

@[simp] theorem Channel.stepped_free (p : Port) : Channel.free.stepped p = .searched [p] := rfl

@[simp] theorem Channel.stepped_searched (ps : List Port) (p : Port) :
    (Channel.searched ps).stepped p = .searched (if p ∈ ps then ps else ps ++ [p]) := rfl

@[simp] theorem Channel.stepped_erasing (j : EraseJob) (p : Port) :
    (Channel.erasing j).stepped p = (Channel.erasing j).resumed := rfl

/-- No read goes before other work when each one's port has given way to it. -/
theorem Store.firstReads_isEmpty_iff (st : Store) :
    st.firstReads.isEmpty = true ↔ ∀ w ∈ st.reads, w.port ∈ st.channel.passed := by
  simp [Store.firstReads, List.filter_eq_nil_iff]

/-- What a step of a search looks at: records of one block, from its position on, each in the unit its sequence is read
from (R153). -/
theorem Store.mem_blockFrom {st : Store} {pos : Word32} {b : Nat} {x : Nat × LogRecord} (h : x ∈ st.blockFrom pos b) :
    x ∈ st.flashFrom pos ∧ blockOf x.1 = b ∧ st.flash.recordUnit? x.2.seq = some x := by
  simp only [Store.blockFrom, List.mem_filter, Bool.and_eq_true, decide_eq_true_eq] at h
  exact ⟨h.1, h.2.1.1, h.2.1.2⟩

/-! ### The erases ERASE_LOG asks for (R155) -/

/-- The erase ERASE_LOG asks for a block is of that block. -/
theorem Store.eraseLogRequest_block {st : Store} {b : Nat} {q : EraseRequest} (h : st.eraseLogRequest b = some q) :
    q.block = b := by
  unfold Store.eraseLogRequest at h
  (repeat' split at h) <;> simp_all <;> subst h <;> rfl

/-- An erase is asked for by ERASE_LOG when its block is due one and none of it waits. -/
theorem Store.mem_eraseLogRequests (st : Store) (q : EraseRequest) :
    q ∈ st.eraseLogRequests ↔ q.block ∈ st.eraseLogOrder ∧ st.eraseLogRequest q.block = some q ∧
      ∀ x ∈ st.erases, x.block ≠ q.block := by
  simp only [Store.eraseLogRequests, List.mem_filter, List.mem_filterMap]
  constructor
  · rintro ⟨⟨b, h, h'⟩, hno⟩
    obtain rfl := Store.eraseLogRequest_block h'
    exact ⟨h, h', by simpa using hno⟩
  · rintro ⟨h, h', hno⟩
    exact ⟨⟨_, h, h'⟩, by simpa using hno⟩

end Sys2Proof.Machine
end

