-- ==== Sys2Proof/Laws/Ops.lean ====
section
/-! SUPPORT. What each shared operation of Machine/Ops.lean can do, said once. -/

namespace Sys2Proof.Machine

/-! ### Events -/

/-- Raising a kind on a port changes that port's pending set and nothing else, and that only in READY. -/
theorem State.raiseOn_eq (s : State) (p : Port) (k : EventKind) :
    s.raiseOn p k = s.setPort p (if s.phase = .ready then (s.port p).record s.backup.clock k else s.port p) := by
  unfold State.raiseOn
  split
  · rfl
  · cases p <;> rfl

/-- Raising a kind on all ports is recording it at each of them (R180). -/
theorem State.raiseAll_eq (s : State) (k : EventKind) (h : s.phase = .ready) :
    s.raiseAll k = { s with ports :=
      { l := s.ports.l.record s.backup.clock k, t := s.ports.t.record s.backup.clock k,
        c := s.ports.c.record s.backup.clock k } } := by
  simp only [State.raiseAll, State.raiseOn, State.setPort, h, if_true]
  rfl

/-- Before READY a raising leaves no trace (R184). -/
theorem State.raiseAll_before_ready (s : State) (k : EventKind) (h : s.phase ≠ .ready) : s.raiseAll k = s := by
  simp [State.raiseAll, State.raiseOn, h]

/-- Recording changes a port's pending set alone. -/
theorem PortState.record_eq (x : PortState) (now : Word32) (k : EventKind) :
    x.record now k = { x with events := if x.enables.getLsbD k.group.bit then addEvent now k x.events else x.events } := by
  unfold PortState.record
  split <;> rfl

/-! ### Replies -/

/-- A reply to a request in service. -/
theorem State.reply_some (s : State) (p : Port) (a : Answer) (code : Byte) (h : (s.port p).request = some code) :
    s.reply p a = s.answered p code a.status a.payload := by
  simp [State.reply, h, State.answered]

/-- A reply to a port that holds no request is dropped. -/
theorem State.reply_none (s : State) (p : Port) (a : Answer) (h : (s.port p).request = none) : s.reply p a = s := by
  simp [State.reply, h]

/-! ### Taking a request -/

/-- What it means that a request is taken. -/
theorem State.takes_iff (s : State) (p : Port) (code : Byte) (payload : List Byte) :
    s.takes p code payload = true ↔
      s.deaf p = false ∧ payload.length ≤ maxPayload ∧ s.slotBusy p = false ∧ s.admission p code = none := by
  simp [State.takes, payloadFits, and_assoc]

/-- A port that has no busy slot holds no request. -/
theorem State.request_none (s : State) (p : Port) (h : s.slotBusy p = false) : (s.port p).request = none := by
  simp only [State.slotBusy, Bool.or_eq_false_iff] at h
  simpa using h.1

/-- The watchers of the link change the run alone (R105). -/
theorem State.frameArrived_eq (s : State) (p : Port) :
    s.frameArrived p = s.setRun (if p = .c then s.run.map fun r => r.heard s.uptime else s.run) := by
  unfold State.frameArrived
  split <;> rfl

/-- A transaction's bytes change what its port sent and nothing else, and that on an SPI port alone (R170). -/
theorem State.clocked_eq (s : State) (p : Port) (n : Nat) :
    s.clocked p n = s.setPort p (if p.isSpi then { s.port p with sent := List.replicate n 0xFF#8 } else s.port p) := by
  unfold State.clocked
  split
  · rfl
  · cases p <;> rfl

/-- The arrival of a frame changes what its port sent, and the run's silence timer (R105, R170). -/
theorem State.arrived_eq (s : State) (p : Port) (payload : List Byte) :
    s.arrived p payload = (s.clocked p (frameBytes payload)).setRun
      (if p = .c then s.run.map fun r => r.heard s.uptime else s.run) := by
  simp [State.arrived, State.frameArrived_eq, State.clocked_eq]

/-- The port a frame arrived on. -/
@[simp] theorem State.arrived_port_same (s : State) (p : Port) (payload : List Byte) :
    (s.arrived p payload).port p =
      if p.isSpi then { s.port p with sent := List.replicate (frameBytes payload) 0xFF#8 } else s.port p := by
  rw [State.arrived_eq, State.clocked_eq]
  exact State.setPort_port_same _ _ _

/-- The arrival of a frame does not touch the other ports. -/
@[simp] theorem State.arrived_port_other (s : State) (p q : Port) (payload : List Byte) (h : q ≠ p) :
    (s.arrived p payload).port q = s.port q := by
  rw [State.arrived_eq, State.clocked_eq]
  exact State.setPort_port_other _ _ _ _ h

/-- The slot of a port is as busy after a frame's arrival as before. -/
@[simp] theorem State.arrived_slotBusy (s : State) (p : Port) (payload : List Byte) :
    (s.arrived p payload).slotBusy p = s.slotBusy p := by
  simp only [State.slotBusy, State.arrived_port_same]
  split <;> rfl

/-- A frame's arrival does not change what the port admits. -/
@[simp] theorem State.arrived_admission (s : State) (p : Port) (payload : List Byte) (code : Byte) :
    (s.arrived p payload).admission p code = s.admission p code := by
  simp [State.arrived_eq, State.clocked_eq, State.admission]

/-- What the start of a transmission does, the end of the one before it included (R174). -/
theorem State.transmitStart_due (s : State) (r : Reply) (hd : s.transmitDue = true) (hr : (s.port .c).reply = some r) :
    s.transmitStart = { s with
      ports := { s.ports with c := { s.ports.c with reply := none, sent := [0x7E#8] } }
      lineC := { s.lineC with tx := some r, txTicks := 0 }
      resetReq := s.transmitDone.resetReq } := by
  have hp : s.ports.c.reply = some r := hr
  simp only [State.transmitStart, hd, if_true, State.port, Ports.get, hp, State.transmitDone, State.replyLeft]
  split
  · simp [State.setPort, Ports.set]
  · split
    · split <;> simp [State.setPort, Ports.set, LineC.stopped]
    · simp [State.setPort, Ports.set]

/-- Nothing is sent where nothing is due (R174). -/
theorem State.transmitStart_idle (s : State) (h : s.transmitDue = false) : s.transmitStart = s := by
  simp [State.transmitStart, h]

/-- A reply that began to be sent has left the slot. -/
@[simp] theorem State.transmitStart_ends_due (s : State) : s.transmitStart.transmitDue = false := by
  cases hd : s.transmitDue
  · rw [s.transmitStart_idle hd, hd]
  · cases hr : (s.port .c).reply with
    | none => simp [State.transmitDue, hr] at hd
    | some r => simp [s.transmitStart_due r hd hr, State.transmitDue, State.port, Ports.get]

/-- The line is served once for a moment. -/
@[simp] theorem State.lineServed_lineServed (s : State) (p : Port) : (s.lineServed p).lineServed p = s.lineServed p := by
  unfold State.lineServed
  split
  · exact State.transmitStart_idle _ s.transmitStart_ends_due
  · rfl

/-- A port with a free slot has no reply that the line could take. -/
theorem State.lineServed_free (s : State) (p : Port) (h : s.slotBusy p = false) : s.lineServed p = s := by
  unfold State.lineServed
  split
  · next hp =>
    subst hp
    apply State.transmitStart_idle
    simp only [State.slotBusy, decide_true, Bool.true_and, Bool.or_eq_false_iff] at h
    simp [State.transmitDue, h.2]
  · rfl

/-- What port C's line does touches its port, the line and the reset that a reply's leaving makes due. -/
theorem State.lineServed_frame (s : State) (p : Port) :
    s.lineServed p = { s with
      ports := { s.ports with c := (s.lineServed p).ports.c }
      lineC := (s.lineServed p).lineC
      resetReq := (s.lineServed p).resetReq } := by
  unfold State.lineServed
  split
  · cases hd : s.transmitDue
    · rw [s.transmitStart_idle hd]
    · cases hr : (s.port .c).reply with
      | none => simp [State.transmitDue, hr] at hd
      | some r => rw [s.transmitStart_due r hd hr]
  · rfl

/-- What port C's line does leaves a port's hearing as it is. -/
@[simp] theorem State.lineServed_deaf (s : State) (p q : Port) : (s.lineServed p).deaf q = s.deaf q := by
  have h : (s.lineServed p).lineC.low = s.lineC.low := by
    unfold State.lineServed
    split
    · cases hd : s.transmitDue
      · rw [s.transmitStart_idle hd]
      · cases hr : (s.port .c).reply with
        | none => simp [State.transmitDue, hr] at hd
        | some r => rw [s.transmitStart_due r hd hr]
    · rfl
  have hp : (s.lineServed p).phase = s.phase := by rw [State.lineServed_frame]
  simp only [State.deaf, State.running, h, hp]

/-- A request meets the line as it stands once a reply that finds it free has begun to be sent (R174). -/
theorem State.serve_lineServed (s : State) (p : Port) (code : Byte) (payload : List Byte)
    (body : State → State × Option Answer) (h : s.deaf p = false) (hl : payload.length ≤ maxPayload) :
    s.serve p code payload body = (s.lineServed p).serve p code payload body := by
  simp only [State.serve, State.lineServed_deaf, State.lineServed_lineServed, h, Bool.false_eq_true, if_false,
    Nat.not_lt.2 hl]

/-- A request that enters an empty slot. -/
theorem State.accept_idle (s : State) (p : Port) (code : Byte) (h : (s.port p).request = none) :
    s.accept p code = s.serving p code := by
  simp [State.accept, State.serving, h]

/-- A request that is taken reaches its block with the port in service, and the block's answer is placed. -/
theorem State.serve_taken (s : State) (p : Port) (code : Byte) (payload : List Byte)
    (body : State → State × Option Answer) (h : s.takes p code payload = true) :
    s.serve p code payload body = State.finish p (body ((s.arrived p payload).serving p code)) := by
  obtain ⟨h1, h2, h3, h4⟩ := (s.takes_iff p code payload).1 h
  have hb : (s.arrived p payload).slotBusy p = false := by simpa using h3
  have hr := State.request_none _ _ hb
  have ha : ((s.arrived p payload).serving p code).admission p code = none := by
    rw [← h4, ← s.arrived_admission p payload code]
    simp [State.admission, State.serving]
  simp only [State.serve, s.lineServed_free p h3, h1, Bool.false_eq_true, if_false, Nat.not_lt.2 h2, hb, Bool.false_and,
    State.accept_idle _ _ _ hr, State.judgeAccepted, ha]

/-- A request that finds its port deaf changes nothing (R175, R191). -/
theorem State.serve_deaf (s : State) (p : Port) (code : Byte) (payload : List Byte)
    (body : State → State × Option Answer) (h : s.deaf p = true) : s.serve p code payload body = s := by
  simp [State.serve, h]

/-- A request whose length byte is above 240 is discarded with FRAME_ERROR (R164). -/
theorem State.serve_long (s : State) (p : Port) (code : Byte) (payload : List Byte)
    (body : State → State × Option Answer) (h : s.deaf p = false) (hl : maxPayload < payload.length) :
    s.serve p code payload body = (s.clocked p (frameBytes payload)).setPort p
      { (s.clocked p (frameBytes payload)).port p with frameError := true, frameAgain := true, rx := [] } := by
  simp [State.serve, h, hl, State.discardFrame]

/-- A request that finds its slot busy, port C's line served first, is dropped (R168, R174). -/
theorem State.serve_overrun (s : State) (p : Port) (code : Byte) (payload : List Byte)
    (body : State → State × Option Answer) (h : s.deaf p = false) (hl : payload.length ≤ maxPayload)
    (hb : (s.lineServed p).slotBusy p = true) (hc : code ≠ linkResetCode) :
    let y := (s.lineServed p).arrived p payload
    s.serve p code payload body =
      (y.setPort p { y.port p with overrun := true, overrunAgain := true }).raiseOn p .requestOverrun := by
  have hb' : ((s.lineServed p).arrived p payload).slotBusy p = true := by simpa using hb
  simp only [State.serve, h, Bool.false_eq_true, if_false, Nat.not_lt.2 hl, hb', hc, decide_false, Bool.not_false,
    Bool.and_self, if_true, State.dropRequest]

@[simp] theorem State.serving_port (s : State) (p : Port) (code : Byte) :
    (s.serving p code).port p = { s.port p with request := some code, reply := none } := by
  simp [State.serving]

/-- A block's answer made in place is the reply of the request in service. -/
theorem State.finish_answer (s : State) (p : Port) (code : Byte) (a : Answer) (h : (s.port p).request = some code) :
    State.finish p (s, some a) = s.answered p code a.status a.payload := by
  simpa [State.finish] using s.reply_some p a code h

/-- A request that R169's steps refuse is answered by the port. -/
theorem State.serve_refused (s : State) (p : Port) (code : Byte) (payload : List Byte) (st : Status)
    (body : State → State × Option Answer) (h : s.deaf p = false) (hl : payload.length ≤ maxPayload)
    (hb : s.slotBusy p = false) (ha : s.admission p code = some st) :
    s.serve p code payload body = (s.arrived p payload).answered p code st [] := by
  have hb' : (s.arrived p payload).slotBusy p = false := by simpa using hb
  have hr := State.request_none _ _ hb'
  have ha' : ((s.arrived p payload).serving p code).admission p code = some st := by
    rw [← ha, ← s.arrived_admission p payload code]
    simp [State.admission, State.serving]
  simp only [State.serve, s.lineServed_free p hb, h, Bool.false_eq_true, if_false, Nat.not_lt.2 hl, hb', Bool.false_and,
    State.accept_idle _ _ _ hr, State.judgeAccepted, ha']
  rw [State.reply_some _ _ _ code (by simp [State.serving])]
  simp [State.answered, State.serving]

/-- A reply to the request just put in service, when nothing else happened. -/
@[simp] theorem State.serving_answered (s : State) (p : Port) (code : Byte) (st : Status) (pl : List Byte) :
    (s.serving p code).answered p code st pl = s.answered p code st pl := by
  simp [State.answered, State.serving]

/-! ### Port C's line, the journal's erase-ahead, a scan broken off -/

/-- What a tick brings to a reply on the line is port C's own (R167, R174). -/
theorem State.lineTicked_frame (s : State) :
    s.lineTicked = { s with ports := { s.ports with c := s.lineTicked.ports.c } } := by
  unfold State.lineTicked
  split
  · rfl
  · split
    · rfl
    · split <;> rfl

/-- Off a character's end nothing comes of a tick on the line (R174). -/
theorem State.lineTicked_between (s : State) (h1 : s.lineC.txTicks ≠ s.lineC.charTicks 1)
    (h2 : s.lineC.txTicks ≠ s.lineC.charTicks 2) : s.lineTicked = s := by
  unfold State.lineTicked
  split
  · rfl
  · simp [h1, h2]

/-- A transmission broken off touches the line and what port C has sent (R175, R177). -/
theorem State.lineStopped_frame (s : State) :
    s.lineStopped = { s with
      ports := { s.ports with c := { s.ports.c with sent := s.lineStopped.ports.c.sent } }
      lineC := s.lineStopped.lineC } := by
  unfold State.lineStopped
  split <;> rfl

/-- The start of a journal's erase-ahead touches the record memory alone (R144, R156). -/
theorem State.startJournalErase_frame (s : State) (q : EraseRequest) :
    s.startJournalErase q = { s with store := (s.startJournalErase q).store } := rfl

/-- What was given up stays given up (R156). -/
theorem Store.giveUp_keeps (st : Store) (bs : List Nat) (b : Nat) (h : b ∈ st.givenUp ∨ b ∈ bs) :
    b ∈ (st.giveUp bs).givenUp := by
  by_cases hb : b ∈ st.givenUp
  · simp [Store.giveUp, hb]
  · simp [Store.giveUp, hb, h.resolve_left hb]

/-- A scan broken off touches nothing outside STARTING (R192). -/
theorem State.scanBroken_outside (s : State) (h : s.phase ≠ .starting) : s.scanBroken = s := by
  simp [State.scanBroken, h]

/-- The clock's step that a SET_TIME makes after the sample that was due, if one was (R25, R27; log 7). -/
theorem State.setTime_idle (s : State) (new : Word32) (h : s.sampleDue = false) : s.setTime new = s.stepClock new := by
  simp [State.setTime, State.scheduledSample, h]

end Sys2Proof.Machine
end

