-- ==== Sys2Proof/Laws/Frame.lean ====
section
/-! SUPPORT. The frame of each operation the blocks share: the fields of the state it leaves as they are. -/

namespace Sys2Proof.Machine

/-! ### raiseOn -/

@[simp] theorem State.raiseOn_phase (s : State) (p : Port) (k : EventKind) : (s.raiseOn p k).phase = s.phase :=
  by simp [State.raiseOn_eq]
@[simp] theorem State.raiseOn_resetLow (s : State) (p : Port) (k : EventKind) : (s.raiseOn p k).resetLow = s.resetLow :=
  by simp [State.raiseOn_eq]
@[simp] theorem State.raiseOn_maintClosed (s : State) (p : Port) (k : EventKind) : (s.raiseOn p k).maintClosed = s.maintClosed :=
  by simp [State.raiseOn_eq]
@[simp] theorem State.raiseOn_backup (s : State) (p : Port) (k : EventKind) : (s.raiseOn p k).backup = s.backup :=
  by simp [State.raiseOn_eq]
@[simp] theorem State.raiseOn_uptime (s : State) (p : Port) (k : EventKind) : (s.raiseOn p k).uptime = s.uptime :=
  by simp [State.raiseOn_eq]
@[simp] theorem State.raiseOn_uptimeSub (s : State) (p : Port) (k : EventKind) : (s.raiseOn p k).uptimeSub = s.uptimeSub :=
  by simp [State.raiseOn_eq]
@[simp] theorem State.raiseOn_ticks (s : State) (p : Port) (k : EventKind) : (s.raiseOn p k).ticks = s.ticks :=
  by simp [State.raiseOn_eq]
@[simp] theorem State.raiseOn_startTicks (s : State) (p : Port) (k : EventKind) : (s.raiseOn p k).startTicks = s.startTicks :=
  by simp [State.raiseOn_eq]
@[simp] theorem State.raiseOn_sched (s : State) (p : Port) (k : EventKind) : (s.raiseOn p k).sched = s.sched :=
  by simp [State.raiseOn_eq]
@[simp] theorem State.raiseOn_cfg (s : State) (p : Port) (k : EventKind) : (s.raiseOn p k).cfg = s.cfg :=
  by simp [State.raiseOn_eq]
@[simp] theorem State.raiseOn_limits (s : State) (p : Port) (k : EventKind) : (s.raiseOn p k).limits = s.limits :=
  by simp [State.raiseOn_eq]
@[simp] theorem State.raiseOn_floatCh (s : State) (p : Port) (k : EventKind) : (s.raiseOn p k).floatCh = s.floatCh :=
  by simp [State.raiseOn_eq]
@[simp] theorem State.raiseOn_pressCh (s : State) (p : Port) (k : EventKind) : (s.raiseOn p k).pressCh = s.pressCh :=
  by simp [State.raiseOn_eq]
@[simp] theorem State.raiseOn_sel (s : State) (p : Port) (k : EventKind) : (s.raiseOn p k).sel = s.sel :=
  by simp [State.raiseOn_eq]
@[simp] theorem State.raiseOn_window (s : State) (p : Port) (k : EventKind) : (s.raiseOn p k).window = s.window :=
  by simp [State.raiseOn_eq]
@[simp] theorem State.raiseOn_rating (s : State) (p : Port) (k : EventKind) : (s.raiseOn p k).rating = s.rating :=
  by simp [State.raiseOn_eq]
@[simp] theorem State.raiseOn_warn (s : State) (p : Port) (k : EventKind) : (s.raiseOn p k).warn = s.warn :=
  by simp [State.raiseOn_eq]
@[simp] theorem State.raiseOn_run (s : State) (p : Port) (k : EventKind) : (s.raiseOn p k).run = s.run :=
  by simp [State.raiseOn_eq]
@[simp] theorem State.raiseOn_newestRunId (s : State) (p : Port) (k : EventKind) : (s.raiseOn p k).newestRunId = s.newestRunId :=
  by simp [State.raiseOn_eq]
@[simp] theorem State.raiseOn_meter (s : State) (p : Port) (k : EventKind) : (s.raiseOn p k).meter = s.meter :=
  by simp [State.raiseOn_eq]
@[simp] theorem State.raiseOn_gaugings (s : State) (p : Port) (k : EventKind) : (s.raiseOn p k).gaugings = s.gaugings :=
  by simp [State.raiseOn_eq]
@[simp] theorem State.raiseOn_store (s : State) (p : Port) (k : EventKind) : (s.raiseOn p k).store = s.store :=
  by simp [State.raiseOn_eq]
@[simp] theorem State.raiseOn_factorySerial (s : State) (p : Port) (k : EventKind) : (s.raiseOn p k).factorySerial = s.factorySerial :=
  by simp [State.raiseOn_eq]
@[simp] theorem State.raiseOn_factoryTrim (s : State) (p : Port) (k : EventKind) : (s.raiseOn p k).factoryTrim = s.factoryTrim :=
  by simp [State.raiseOn_eq]
@[simp] theorem State.raiseOn_identRead (s : State) (p : Port) (k : EventKind) : (s.raiseOn p k).identRead = s.identRead :=
  by simp [State.raiseOn_eq]
@[simp] theorem State.raiseOn_lineC (s : State) (p : Port) (k : EventKind) : (s.raiseOn p k).lineC = s.lineC :=
  by simp [State.raiseOn_eq]
@[simp] theorem State.raiseOn_resetReq (s : State) (p : Port) (k : EventKind) : (s.raiseOn p k).resetReq = s.resetReq :=
  by simp [State.raiseOn_eq]
@[simp] theorem State.raiseOn_freeIndex (s : State) (p : Port) (k : EventKind) : (s.raiseOn p k).freeIndex = s.freeIndex :=
  by simp [State.raiseOn_eq]
@[simp] theorem State.raiseOn_pending (s : State) (p : Port) (k : EventKind) : (s.raiseOn p k).pending = s.pending :=
  by simp [State.raiseOn_eq]

/-! ### raiseAll -/

@[simp] theorem State.raiseAll_phase (s : State) (k : EventKind) : (s.raiseAll k).phase = s.phase :=
  by simp [State.raiseAll]
@[simp] theorem State.raiseAll_resetLow (s : State) (k : EventKind) : (s.raiseAll k).resetLow = s.resetLow :=
  by simp [State.raiseAll]
@[simp] theorem State.raiseAll_maintClosed (s : State) (k : EventKind) : (s.raiseAll k).maintClosed = s.maintClosed :=
  by simp [State.raiseAll]
@[simp] theorem State.raiseAll_backup (s : State) (k : EventKind) : (s.raiseAll k).backup = s.backup :=
  by simp [State.raiseAll]
@[simp] theorem State.raiseAll_uptime (s : State) (k : EventKind) : (s.raiseAll k).uptime = s.uptime :=
  by simp [State.raiseAll]
@[simp] theorem State.raiseAll_uptimeSub (s : State) (k : EventKind) : (s.raiseAll k).uptimeSub = s.uptimeSub :=
  by simp [State.raiseAll]
@[simp] theorem State.raiseAll_ticks (s : State) (k : EventKind) : (s.raiseAll k).ticks = s.ticks :=
  by simp [State.raiseAll]
@[simp] theorem State.raiseAll_startTicks (s : State) (k : EventKind) : (s.raiseAll k).startTicks = s.startTicks :=
  by simp [State.raiseAll]
@[simp] theorem State.raiseAll_sched (s : State) (k : EventKind) : (s.raiseAll k).sched = s.sched :=
  by simp [State.raiseAll]
@[simp] theorem State.raiseAll_cfg (s : State) (k : EventKind) : (s.raiseAll k).cfg = s.cfg :=
  by simp [State.raiseAll]
@[simp] theorem State.raiseAll_limits (s : State) (k : EventKind) : (s.raiseAll k).limits = s.limits :=
  by simp [State.raiseAll]
@[simp] theorem State.raiseAll_floatCh (s : State) (k : EventKind) : (s.raiseAll k).floatCh = s.floatCh :=
  by simp [State.raiseAll]
@[simp] theorem State.raiseAll_pressCh (s : State) (k : EventKind) : (s.raiseAll k).pressCh = s.pressCh :=
  by simp [State.raiseAll]
@[simp] theorem State.raiseAll_sel (s : State) (k : EventKind) : (s.raiseAll k).sel = s.sel :=
  by simp [State.raiseAll]
@[simp] theorem State.raiseAll_window (s : State) (k : EventKind) : (s.raiseAll k).window = s.window :=
  by simp [State.raiseAll]
@[simp] theorem State.raiseAll_rating (s : State) (k : EventKind) : (s.raiseAll k).rating = s.rating :=
  by simp [State.raiseAll]
@[simp] theorem State.raiseAll_warn (s : State) (k : EventKind) : (s.raiseAll k).warn = s.warn :=
  by simp [State.raiseAll]
@[simp] theorem State.raiseAll_run (s : State) (k : EventKind) : (s.raiseAll k).run = s.run :=
  by simp [State.raiseAll]
@[simp] theorem State.raiseAll_newestRunId (s : State) (k : EventKind) : (s.raiseAll k).newestRunId = s.newestRunId :=
  by simp [State.raiseAll]
@[simp] theorem State.raiseAll_meter (s : State) (k : EventKind) : (s.raiseAll k).meter = s.meter :=
  by simp [State.raiseAll]
@[simp] theorem State.raiseAll_gaugings (s : State) (k : EventKind) : (s.raiseAll k).gaugings = s.gaugings :=
  by simp [State.raiseAll]
@[simp] theorem State.raiseAll_store (s : State) (k : EventKind) : (s.raiseAll k).store = s.store :=
  by simp [State.raiseAll]
@[simp] theorem State.raiseAll_factorySerial (s : State) (k : EventKind) : (s.raiseAll k).factorySerial = s.factorySerial :=
  by simp [State.raiseAll]
@[simp] theorem State.raiseAll_factoryTrim (s : State) (k : EventKind) : (s.raiseAll k).factoryTrim = s.factoryTrim :=
  by simp [State.raiseAll]
@[simp] theorem State.raiseAll_identRead (s : State) (k : EventKind) : (s.raiseAll k).identRead = s.identRead :=
  by simp [State.raiseAll]
@[simp] theorem State.raiseAll_lineC (s : State) (k : EventKind) : (s.raiseAll k).lineC = s.lineC :=
  by simp [State.raiseAll]
@[simp] theorem State.raiseAll_resetReq (s : State) (k : EventKind) : (s.raiseAll k).resetReq = s.resetReq :=
  by simp [State.raiseAll]
@[simp] theorem State.raiseAll_freeIndex (s : State) (k : EventKind) : (s.raiseAll k).freeIndex = s.freeIndex :=
  by simp [State.raiseAll]
@[simp] theorem State.raiseAll_pending (s : State) (k : EventKind) : (s.raiseAll k).pending = s.pending :=
  by simp [State.raiseAll]

/-! ### answered -/

@[simp] theorem State.answered_phase (s : State) (p : Port) (c : Byte) (st : Status) (pl : List Byte) : (s.answered p c st pl).phase = s.phase :=
  rfl
@[simp] theorem State.answered_resetLow (s : State) (p : Port) (c : Byte) (st : Status) (pl : List Byte) : (s.answered p c st pl).resetLow = s.resetLow :=
  rfl
@[simp] theorem State.answered_maintClosed (s : State) (p : Port) (c : Byte) (st : Status) (pl : List Byte) : (s.answered p c st pl).maintClosed = s.maintClosed :=
  rfl
@[simp] theorem State.answered_backup (s : State) (p : Port) (c : Byte) (st : Status) (pl : List Byte) : (s.answered p c st pl).backup = s.backup :=
  rfl
@[simp] theorem State.answered_uptime (s : State) (p : Port) (c : Byte) (st : Status) (pl : List Byte) : (s.answered p c st pl).uptime = s.uptime :=
  rfl
@[simp] theorem State.answered_uptimeSub (s : State) (p : Port) (c : Byte) (st : Status) (pl : List Byte) : (s.answered p c st pl).uptimeSub = s.uptimeSub :=
  rfl
@[simp] theorem State.answered_ticks (s : State) (p : Port) (c : Byte) (st : Status) (pl : List Byte) : (s.answered p c st pl).ticks = s.ticks :=
  rfl
@[simp] theorem State.answered_startTicks (s : State) (p : Port) (c : Byte) (st : Status) (pl : List Byte) : (s.answered p c st pl).startTicks = s.startTicks :=
  rfl
@[simp] theorem State.answered_sched (s : State) (p : Port) (c : Byte) (st : Status) (pl : List Byte) : (s.answered p c st pl).sched = s.sched :=
  rfl
@[simp] theorem State.answered_cfg (s : State) (p : Port) (c : Byte) (st : Status) (pl : List Byte) : (s.answered p c st pl).cfg = s.cfg :=
  rfl
@[simp] theorem State.answered_limits (s : State) (p : Port) (c : Byte) (st : Status) (pl : List Byte) : (s.answered p c st pl).limits = s.limits :=
  rfl
@[simp] theorem State.answered_floatCh (s : State) (p : Port) (c : Byte) (st : Status) (pl : List Byte) : (s.answered p c st pl).floatCh = s.floatCh :=
  rfl
@[simp] theorem State.answered_pressCh (s : State) (p : Port) (c : Byte) (st : Status) (pl : List Byte) : (s.answered p c st pl).pressCh = s.pressCh :=
  rfl
@[simp] theorem State.answered_sel (s : State) (p : Port) (c : Byte) (st : Status) (pl : List Byte) : (s.answered p c st pl).sel = s.sel :=
  rfl
@[simp] theorem State.answered_window (s : State) (p : Port) (c : Byte) (st : Status) (pl : List Byte) : (s.answered p c st pl).window = s.window :=
  rfl
@[simp] theorem State.answered_rating (s : State) (p : Port) (c : Byte) (st : Status) (pl : List Byte) : (s.answered p c st pl).rating = s.rating :=
  rfl
@[simp] theorem State.answered_warn (s : State) (p : Port) (c : Byte) (st : Status) (pl : List Byte) : (s.answered p c st pl).warn = s.warn :=
  rfl
@[simp] theorem State.answered_run (s : State) (p : Port) (c : Byte) (st : Status) (pl : List Byte) : (s.answered p c st pl).run = s.run :=
  rfl
@[simp] theorem State.answered_newestRunId (s : State) (p : Port) (c : Byte) (st : Status) (pl : List Byte) : (s.answered p c st pl).newestRunId = s.newestRunId :=
  rfl
@[simp] theorem State.answered_meter (s : State) (p : Port) (c : Byte) (st : Status) (pl : List Byte) : (s.answered p c st pl).meter = s.meter :=
  rfl
@[simp] theorem State.answered_gaugings (s : State) (p : Port) (c : Byte) (st : Status) (pl : List Byte) : (s.answered p c st pl).gaugings = s.gaugings :=
  rfl
@[simp] theorem State.answered_store (s : State) (p : Port) (c : Byte) (st : Status) (pl : List Byte) : (s.answered p c st pl).store = s.store :=
  rfl
@[simp] theorem State.answered_factorySerial (s : State) (p : Port) (c : Byte) (st : Status) (pl : List Byte) : (s.answered p c st pl).factorySerial = s.factorySerial :=
  rfl
@[simp] theorem State.answered_factoryTrim (s : State) (p : Port) (c : Byte) (st : Status) (pl : List Byte) : (s.answered p c st pl).factoryTrim = s.factoryTrim :=
  rfl
@[simp] theorem State.answered_identRead (s : State) (p : Port) (c : Byte) (st : Status) (pl : List Byte) : (s.answered p c st pl).identRead = s.identRead :=
  rfl
@[simp] theorem State.answered_lineC (s : State) (p : Port) (c : Byte) (st : Status) (pl : List Byte) : (s.answered p c st pl).lineC = s.lineC :=
  rfl
@[simp] theorem State.answered_resetReq (s : State) (p : Port) (c : Byte) (st : Status) (pl : List Byte) : (s.answered p c st pl).resetReq = s.resetReq :=
  rfl
@[simp] theorem State.answered_freeIndex (s : State) (p : Port) (c : Byte) (st : Status) (pl : List Byte) : (s.answered p c st pl).freeIndex = s.freeIndex :=
  rfl
@[simp] theorem State.answered_pending (s : State) (p : Port) (c : Byte) (st : Status) (pl : List Byte) : (s.answered p c st pl).pending = s.pending :=
  rfl

/-! ### serving -/

@[simp] theorem State.serving_phase (s : State) (p : Port) (c : Byte) : (s.serving p c).phase = s.phase := rfl
@[simp] theorem State.serving_resetLow (s : State) (p : Port) (c : Byte) : (s.serving p c).resetLow = s.resetLow :=
  rfl
@[simp] theorem State.serving_maintClosed (s : State) (p : Port) (c : Byte) : (s.serving p c).maintClosed = s.maintClosed :=
  rfl
@[simp] theorem State.serving_backup (s : State) (p : Port) (c : Byte) : (s.serving p c).backup = s.backup := rfl
@[simp] theorem State.serving_uptime (s : State) (p : Port) (c : Byte) : (s.serving p c).uptime = s.uptime := rfl
@[simp] theorem State.serving_uptimeSub (s : State) (p : Port) (c : Byte) : (s.serving p c).uptimeSub = s.uptimeSub :=
  rfl
@[simp] theorem State.serving_ticks (s : State) (p : Port) (c : Byte) : (s.serving p c).ticks = s.ticks := rfl
@[simp] theorem State.serving_startTicks (s : State) (p : Port) (c : Byte) : (s.serving p c).startTicks = s.startTicks :=
  rfl
@[simp] theorem State.serving_sched (s : State) (p : Port) (c : Byte) : (s.serving p c).sched = s.sched := rfl
@[simp] theorem State.serving_cfg (s : State) (p : Port) (c : Byte) : (s.serving p c).cfg = s.cfg := rfl
@[simp] theorem State.serving_limits (s : State) (p : Port) (c : Byte) : (s.serving p c).limits = s.limits := rfl
@[simp] theorem State.serving_floatCh (s : State) (p : Port) (c : Byte) : (s.serving p c).floatCh = s.floatCh := rfl
@[simp] theorem State.serving_pressCh (s : State) (p : Port) (c : Byte) : (s.serving p c).pressCh = s.pressCh := rfl
@[simp] theorem State.serving_sel (s : State) (p : Port) (c : Byte) : (s.serving p c).sel = s.sel := rfl
@[simp] theorem State.serving_window (s : State) (p : Port) (c : Byte) : (s.serving p c).window = s.window := rfl
@[simp] theorem State.serving_rating (s : State) (p : Port) (c : Byte) : (s.serving p c).rating = s.rating := rfl
@[simp] theorem State.serving_warn (s : State) (p : Port) (c : Byte) : (s.serving p c).warn = s.warn := rfl
@[simp] theorem State.serving_run (s : State) (p : Port) (c : Byte) : (s.serving p c).run = s.run := rfl
@[simp] theorem State.serving_newestRunId (s : State) (p : Port) (c : Byte) : (s.serving p c).newestRunId = s.newestRunId :=
  rfl
@[simp] theorem State.serving_meter (s : State) (p : Port) (c : Byte) : (s.serving p c).meter = s.meter := rfl
@[simp] theorem State.serving_gaugings (s : State) (p : Port) (c : Byte) : (s.serving p c).gaugings = s.gaugings :=
  rfl
@[simp] theorem State.serving_store (s : State) (p : Port) (c : Byte) : (s.serving p c).store = s.store := rfl
@[simp] theorem State.serving_factorySerial (s : State) (p : Port) (c : Byte) : (s.serving p c).factorySerial = s.factorySerial :=
  rfl
@[simp] theorem State.serving_factoryTrim (s : State) (p : Port) (c : Byte) : (s.serving p c).factoryTrim = s.factoryTrim :=
  rfl
@[simp] theorem State.serving_identRead (s : State) (p : Port) (c : Byte) : (s.serving p c).identRead = s.identRead :=
  rfl
@[simp] theorem State.serving_lineC (s : State) (p : Port) (c : Byte) : (s.serving p c).lineC = s.lineC := rfl
@[simp] theorem State.serving_resetReq (s : State) (p : Port) (c : Byte) : (s.serving p c).resetReq = s.resetReq :=
  rfl
@[simp] theorem State.serving_freeIndex (s : State) (p : Port) (c : Byte) : (s.serving p c).freeIndex = s.freeIndex :=
  rfl
@[simp] theorem State.serving_pending (s : State) (p : Port) (c : Byte) : (s.serving p c).pending = s.pending := rfl

/-! ### reply -/

@[simp] theorem State.reply_phase (s : State) (p : Port) (a : Answer) : (s.reply p a).phase = s.phase :=
  by unfold State.reply; split <;> rfl
@[simp] theorem State.reply_resetLow (s : State) (p : Port) (a : Answer) : (s.reply p a).resetLow = s.resetLow :=
  by unfold State.reply; split <;> rfl
@[simp] theorem State.reply_maintClosed (s : State) (p : Port) (a : Answer) : (s.reply p a).maintClosed = s.maintClosed :=
  by unfold State.reply; split <;> rfl
@[simp] theorem State.reply_backup (s : State) (p : Port) (a : Answer) : (s.reply p a).backup = s.backup :=
  by unfold State.reply; split <;> rfl
@[simp] theorem State.reply_uptime (s : State) (p : Port) (a : Answer) : (s.reply p a).uptime = s.uptime :=
  by unfold State.reply; split <;> rfl
@[simp] theorem State.reply_uptimeSub (s : State) (p : Port) (a : Answer) : (s.reply p a).uptimeSub = s.uptimeSub :=
  by unfold State.reply; split <;> rfl
@[simp] theorem State.reply_ticks (s : State) (p : Port) (a : Answer) : (s.reply p a).ticks = s.ticks :=
  by unfold State.reply; split <;> rfl
@[simp] theorem State.reply_startTicks (s : State) (p : Port) (a : Answer) : (s.reply p a).startTicks = s.startTicks :=
  by unfold State.reply; split <;> rfl
@[simp] theorem State.reply_sched (s : State) (p : Port) (a : Answer) : (s.reply p a).sched = s.sched :=
  by unfold State.reply; split <;> rfl
@[simp] theorem State.reply_cfg (s : State) (p : Port) (a : Answer) : (s.reply p a).cfg = s.cfg :=
  by unfold State.reply; split <;> rfl
@[simp] theorem State.reply_limits (s : State) (p : Port) (a : Answer) : (s.reply p a).limits = s.limits :=
  by unfold State.reply; split <;> rfl
@[simp] theorem State.reply_floatCh (s : State) (p : Port) (a : Answer) : (s.reply p a).floatCh = s.floatCh :=
  by unfold State.reply; split <;> rfl
@[simp] theorem State.reply_pressCh (s : State) (p : Port) (a : Answer) : (s.reply p a).pressCh = s.pressCh :=
  by unfold State.reply; split <;> rfl
@[simp] theorem State.reply_sel (s : State) (p : Port) (a : Answer) : (s.reply p a).sel = s.sel :=
  by unfold State.reply; split <;> rfl
@[simp] theorem State.reply_window (s : State) (p : Port) (a : Answer) : (s.reply p a).window = s.window :=
  by unfold State.reply; split <;> rfl
@[simp] theorem State.reply_rating (s : State) (p : Port) (a : Answer) : (s.reply p a).rating = s.rating :=
  by unfold State.reply; split <;> rfl
@[simp] theorem State.reply_warn (s : State) (p : Port) (a : Answer) : (s.reply p a).warn = s.warn :=
  by unfold State.reply; split <;> rfl
@[simp] theorem State.reply_run (s : State) (p : Port) (a : Answer) : (s.reply p a).run = s.run :=
  by unfold State.reply; split <;> rfl
@[simp] theorem State.reply_newestRunId (s : State) (p : Port) (a : Answer) : (s.reply p a).newestRunId = s.newestRunId :=
  by unfold State.reply; split <;> rfl
@[simp] theorem State.reply_meter (s : State) (p : Port) (a : Answer) : (s.reply p a).meter = s.meter :=
  by unfold State.reply; split <;> rfl
@[simp] theorem State.reply_gaugings (s : State) (p : Port) (a : Answer) : (s.reply p a).gaugings = s.gaugings :=
  by unfold State.reply; split <;> rfl
@[simp] theorem State.reply_store (s : State) (p : Port) (a : Answer) : (s.reply p a).store = s.store :=
  by unfold State.reply; split <;> rfl
@[simp] theorem State.reply_factorySerial (s : State) (p : Port) (a : Answer) : (s.reply p a).factorySerial = s.factorySerial :=
  by unfold State.reply; split <;> rfl
@[simp] theorem State.reply_factoryTrim (s : State) (p : Port) (a : Answer) : (s.reply p a).factoryTrim = s.factoryTrim :=
  by unfold State.reply; split <;> rfl
@[simp] theorem State.reply_identRead (s : State) (p : Port) (a : Answer) : (s.reply p a).identRead = s.identRead :=
  by unfold State.reply; split <;> rfl
@[simp] theorem State.reply_lineC (s : State) (p : Port) (a : Answer) : (s.reply p a).lineC = s.lineC :=
  by unfold State.reply; split <;> rfl
@[simp] theorem State.reply_resetReq (s : State) (p : Port) (a : Answer) : (s.reply p a).resetReq = s.resetReq :=
  by unfold State.reply; split <;> rfl
@[simp] theorem State.reply_freeIndex (s : State) (p : Port) (a : Answer) : (s.reply p a).freeIndex = s.freeIndex :=
  by unfold State.reply; split <;> rfl
@[simp] theorem State.reply_pending (s : State) (p : Port) (a : Answer) : (s.reply p a).pending = s.pending :=
  by unfold State.reply; split <;> rfl

/-! ### replyHeld -/

@[simp] theorem State.replyHeld_phase (s : State) (toPort : Option Port) (a : Answer) : (s.replyHeld toPort a).phase = s.phase :=
  by cases toPort <;> simp [State.replyHeld]
@[simp] theorem State.replyHeld_resetLow (s : State) (toPort : Option Port) (a : Answer) : (s.replyHeld toPort a).resetLow = s.resetLow :=
  by cases toPort <;> simp [State.replyHeld]
@[simp] theorem State.replyHeld_maintClosed (s : State) (toPort : Option Port) (a : Answer) : (s.replyHeld toPort a).maintClosed = s.maintClosed :=
  by cases toPort <;> simp [State.replyHeld]
@[simp] theorem State.replyHeld_backup (s : State) (toPort : Option Port) (a : Answer) : (s.replyHeld toPort a).backup = s.backup :=
  by cases toPort <;> simp [State.replyHeld]
@[simp] theorem State.replyHeld_uptime (s : State) (toPort : Option Port) (a : Answer) : (s.replyHeld toPort a).uptime = s.uptime :=
  by cases toPort <;> simp [State.replyHeld]
@[simp] theorem State.replyHeld_uptimeSub (s : State) (toPort : Option Port) (a : Answer) : (s.replyHeld toPort a).uptimeSub = s.uptimeSub :=
  by cases toPort <;> simp [State.replyHeld]
@[simp] theorem State.replyHeld_ticks (s : State) (toPort : Option Port) (a : Answer) : (s.replyHeld toPort a).ticks = s.ticks :=
  by cases toPort <;> simp [State.replyHeld]
@[simp] theorem State.replyHeld_startTicks (s : State) (toPort : Option Port) (a : Answer) : (s.replyHeld toPort a).startTicks = s.startTicks :=
  by cases toPort <;> simp [State.replyHeld]
@[simp] theorem State.replyHeld_sched (s : State) (toPort : Option Port) (a : Answer) : (s.replyHeld toPort a).sched = s.sched :=
  by cases toPort <;> simp [State.replyHeld]
@[simp] theorem State.replyHeld_cfg (s : State) (toPort : Option Port) (a : Answer) : (s.replyHeld toPort a).cfg = s.cfg :=
  by cases toPort <;> simp [State.replyHeld]
@[simp] theorem State.replyHeld_limits (s : State) (toPort : Option Port) (a : Answer) : (s.replyHeld toPort a).limits = s.limits :=
  by cases toPort <;> simp [State.replyHeld]
@[simp] theorem State.replyHeld_floatCh (s : State) (toPort : Option Port) (a : Answer) : (s.replyHeld toPort a).floatCh = s.floatCh :=
  by cases toPort <;> simp [State.replyHeld]
@[simp] theorem State.replyHeld_pressCh (s : State) (toPort : Option Port) (a : Answer) : (s.replyHeld toPort a).pressCh = s.pressCh :=
  by cases toPort <;> simp [State.replyHeld]
@[simp] theorem State.replyHeld_sel (s : State) (toPort : Option Port) (a : Answer) : (s.replyHeld toPort a).sel = s.sel :=
  by cases toPort <;> simp [State.replyHeld]
@[simp] theorem State.replyHeld_window (s : State) (toPort : Option Port) (a : Answer) : (s.replyHeld toPort a).window = s.window :=
  by cases toPort <;> simp [State.replyHeld]
@[simp] theorem State.replyHeld_rating (s : State) (toPort : Option Port) (a : Answer) : (s.replyHeld toPort a).rating = s.rating :=
  by cases toPort <;> simp [State.replyHeld]
@[simp] theorem State.replyHeld_warn (s : State) (toPort : Option Port) (a : Answer) : (s.replyHeld toPort a).warn = s.warn :=
  by cases toPort <;> simp [State.replyHeld]
@[simp] theorem State.replyHeld_run (s : State) (toPort : Option Port) (a : Answer) : (s.replyHeld toPort a).run = s.run :=
  by cases toPort <;> simp [State.replyHeld]
@[simp] theorem State.replyHeld_newestRunId (s : State) (toPort : Option Port) (a : Answer) : (s.replyHeld toPort a).newestRunId = s.newestRunId :=
  by cases toPort <;> simp [State.replyHeld]
@[simp] theorem State.replyHeld_meter (s : State) (toPort : Option Port) (a : Answer) : (s.replyHeld toPort a).meter = s.meter :=
  by cases toPort <;> simp [State.replyHeld]
@[simp] theorem State.replyHeld_gaugings (s : State) (toPort : Option Port) (a : Answer) : (s.replyHeld toPort a).gaugings = s.gaugings :=
  by cases toPort <;> simp [State.replyHeld]
@[simp] theorem State.replyHeld_store (s : State) (toPort : Option Port) (a : Answer) : (s.replyHeld toPort a).store = s.store :=
  by cases toPort <;> simp [State.replyHeld]
@[simp] theorem State.replyHeld_factorySerial (s : State) (toPort : Option Port) (a : Answer) : (s.replyHeld toPort a).factorySerial = s.factorySerial :=
  by cases toPort <;> simp [State.replyHeld]
@[simp] theorem State.replyHeld_factoryTrim (s : State) (toPort : Option Port) (a : Answer) : (s.replyHeld toPort a).factoryTrim = s.factoryTrim :=
  by cases toPort <;> simp [State.replyHeld]
@[simp] theorem State.replyHeld_identRead (s : State) (toPort : Option Port) (a : Answer) : (s.replyHeld toPort a).identRead = s.identRead :=
  by cases toPort <;> simp [State.replyHeld]
@[simp] theorem State.replyHeld_lineC (s : State) (toPort : Option Port) (a : Answer) : (s.replyHeld toPort a).lineC = s.lineC :=
  by cases toPort <;> simp [State.replyHeld]
@[simp] theorem State.replyHeld_resetReq (s : State) (toPort : Option Port) (a : Answer) : (s.replyHeld toPort a).resetReq = s.resetReq :=
  by cases toPort <;> simp [State.replyHeld]
@[simp] theorem State.replyHeld_freeIndex (s : State) (toPort : Option Port) (a : Answer) : (s.replyHeld toPort a).freeIndex = s.freeIndex :=
  by cases toPort <;> simp [State.replyHeld]
@[simp] theorem State.replyHeld_pending (s : State) (toPort : Option Port) (a : Answer) : (s.replyHeld toPort a).pending = s.pending :=
  by cases toPort <;> simp [State.replyHeld]

/-! ### frameArrived -/

@[simp] theorem State.frameArrived_phase (s : State) (p : Port) : (s.frameArrived p).phase = s.phase :=
  by simp [State.frameArrived_eq]
@[simp] theorem State.frameArrived_resetLow (s : State) (p : Port) : (s.frameArrived p).resetLow = s.resetLow :=
  by simp [State.frameArrived_eq]
@[simp] theorem State.frameArrived_maintClosed (s : State) (p : Port) : (s.frameArrived p).maintClosed = s.maintClosed :=
  by simp [State.frameArrived_eq]
@[simp] theorem State.frameArrived_backup (s : State) (p : Port) : (s.frameArrived p).backup = s.backup :=
  by simp [State.frameArrived_eq]
@[simp] theorem State.frameArrived_uptime (s : State) (p : Port) : (s.frameArrived p).uptime = s.uptime :=
  by simp [State.frameArrived_eq]
@[simp] theorem State.frameArrived_uptimeSub (s : State) (p : Port) : (s.frameArrived p).uptimeSub = s.uptimeSub :=
  by simp [State.frameArrived_eq]
@[simp] theorem State.frameArrived_ticks (s : State) (p : Port) : (s.frameArrived p).ticks = s.ticks :=
  by simp [State.frameArrived_eq]
@[simp] theorem State.frameArrived_startTicks (s : State) (p : Port) : (s.frameArrived p).startTicks = s.startTicks :=
  by simp [State.frameArrived_eq]
@[simp] theorem State.frameArrived_sched (s : State) (p : Port) : (s.frameArrived p).sched = s.sched :=
  by simp [State.frameArrived_eq]
@[simp] theorem State.frameArrived_cfg (s : State) (p : Port) : (s.frameArrived p).cfg = s.cfg :=
  by simp [State.frameArrived_eq]
@[simp] theorem State.frameArrived_limits (s : State) (p : Port) : (s.frameArrived p).limits = s.limits :=
  by simp [State.frameArrived_eq]
@[simp] theorem State.frameArrived_floatCh (s : State) (p : Port) : (s.frameArrived p).floatCh = s.floatCh :=
  by simp [State.frameArrived_eq]
@[simp] theorem State.frameArrived_pressCh (s : State) (p : Port) : (s.frameArrived p).pressCh = s.pressCh :=
  by simp [State.frameArrived_eq]
@[simp] theorem State.frameArrived_sel (s : State) (p : Port) : (s.frameArrived p).sel = s.sel :=
  by simp [State.frameArrived_eq]
@[simp] theorem State.frameArrived_window (s : State) (p : Port) : (s.frameArrived p).window = s.window :=
  by simp [State.frameArrived_eq]
@[simp] theorem State.frameArrived_rating (s : State) (p : Port) : (s.frameArrived p).rating = s.rating :=
  by simp [State.frameArrived_eq]
@[simp] theorem State.frameArrived_warn (s : State) (p : Port) : (s.frameArrived p).warn = s.warn :=
  by simp [State.frameArrived_eq]
@[simp] theorem State.frameArrived_newestRunId (s : State) (p : Port) : (s.frameArrived p).newestRunId = s.newestRunId :=
  by simp [State.frameArrived_eq]
@[simp] theorem State.frameArrived_meter (s : State) (p : Port) : (s.frameArrived p).meter = s.meter :=
  by simp [State.frameArrived_eq]
@[simp] theorem State.frameArrived_gaugings (s : State) (p : Port) : (s.frameArrived p).gaugings = s.gaugings :=
  by simp [State.frameArrived_eq]
@[simp] theorem State.frameArrived_store (s : State) (p : Port) : (s.frameArrived p).store = s.store :=
  by simp [State.frameArrived_eq]
@[simp] theorem State.frameArrived_factorySerial (s : State) (p : Port) : (s.frameArrived p).factorySerial = s.factorySerial :=
  by simp [State.frameArrived_eq]
@[simp] theorem State.frameArrived_factoryTrim (s : State) (p : Port) : (s.frameArrived p).factoryTrim = s.factoryTrim :=
  by simp [State.frameArrived_eq]
@[simp] theorem State.frameArrived_identRead (s : State) (p : Port) : (s.frameArrived p).identRead = s.identRead :=
  by simp [State.frameArrived_eq]
@[simp] theorem State.frameArrived_ports (s : State) (p : Port) : (s.frameArrived p).ports = s.ports :=
  by simp [State.frameArrived_eq]
@[simp] theorem State.frameArrived_lineC (s : State) (p : Port) : (s.frameArrived p).lineC = s.lineC :=
  by simp [State.frameArrived_eq]
@[simp] theorem State.frameArrived_resetReq (s : State) (p : Port) : (s.frameArrived p).resetReq = s.resetReq :=
  by simp [State.frameArrived_eq]
@[simp] theorem State.frameArrived_freeIndex (s : State) (p : Port) : (s.frameArrived p).freeIndex = s.freeIndex :=
  by simp [State.frameArrived_eq]
@[simp] theorem State.frameArrived_pending (s : State) (p : Port) : (s.frameArrived p).pending = s.pending :=
  by simp [State.frameArrived_eq]

/-! ### arrived -/

@[simp] theorem State.arrived_phase (s : State) (p : Port) (payload : List Byte) : (s.arrived p payload).phase = s.phase :=
  by simp [State.arrived_eq, State.clocked_eq]
@[simp] theorem State.arrived_resetLow (s : State) (p : Port) (payload : List Byte) : (s.arrived p payload).resetLow = s.resetLow :=
  by simp [State.arrived_eq, State.clocked_eq]
@[simp] theorem State.arrived_maintClosed (s : State) (p : Port) (payload : List Byte) : (s.arrived p payload).maintClosed = s.maintClosed :=
  by simp [State.arrived_eq, State.clocked_eq]
@[simp] theorem State.arrived_backup (s : State) (p : Port) (payload : List Byte) : (s.arrived p payload).backup = s.backup :=
  by simp [State.arrived_eq, State.clocked_eq]
@[simp] theorem State.arrived_uptime (s : State) (p : Port) (payload : List Byte) : (s.arrived p payload).uptime = s.uptime :=
  by simp [State.arrived_eq, State.clocked_eq]
@[simp] theorem State.arrived_uptimeSub (s : State) (p : Port) (payload : List Byte) : (s.arrived p payload).uptimeSub = s.uptimeSub :=
  by simp [State.arrived_eq, State.clocked_eq]
@[simp] theorem State.arrived_ticks (s : State) (p : Port) (payload : List Byte) : (s.arrived p payload).ticks = s.ticks :=
  by simp [State.arrived_eq, State.clocked_eq]
@[simp] theorem State.arrived_startTicks (s : State) (p : Port) (payload : List Byte) : (s.arrived p payload).startTicks = s.startTicks :=
  by simp [State.arrived_eq, State.clocked_eq]
@[simp] theorem State.arrived_sched (s : State) (p : Port) (payload : List Byte) : (s.arrived p payload).sched = s.sched :=
  by simp [State.arrived_eq, State.clocked_eq]
@[simp] theorem State.arrived_cfg (s : State) (p : Port) (payload : List Byte) : (s.arrived p payload).cfg = s.cfg :=
  by simp [State.arrived_eq, State.clocked_eq]
@[simp] theorem State.arrived_limits (s : State) (p : Port) (payload : List Byte) : (s.arrived p payload).limits = s.limits :=
  by simp [State.arrived_eq, State.clocked_eq]
@[simp] theorem State.arrived_floatCh (s : State) (p : Port) (payload : List Byte) : (s.arrived p payload).floatCh = s.floatCh :=
  by simp [State.arrived_eq, State.clocked_eq]
@[simp] theorem State.arrived_pressCh (s : State) (p : Port) (payload : List Byte) : (s.arrived p payload).pressCh = s.pressCh :=
  by simp [State.arrived_eq, State.clocked_eq]
@[simp] theorem State.arrived_sel (s : State) (p : Port) (payload : List Byte) : (s.arrived p payload).sel = s.sel :=
  by simp [State.arrived_eq, State.clocked_eq]
@[simp] theorem State.arrived_window (s : State) (p : Port) (payload : List Byte) : (s.arrived p payload).window = s.window :=
  by simp [State.arrived_eq, State.clocked_eq]
@[simp] theorem State.arrived_rating (s : State) (p : Port) (payload : List Byte) : (s.arrived p payload).rating = s.rating :=
  by simp [State.arrived_eq, State.clocked_eq]
@[simp] theorem State.arrived_warn (s : State) (p : Port) (payload : List Byte) : (s.arrived p payload).warn = s.warn :=
  by simp [State.arrived_eq, State.clocked_eq]
@[simp] theorem State.arrived_newestRunId (s : State) (p : Port) (payload : List Byte) : (s.arrived p payload).newestRunId = s.newestRunId :=
  by simp [State.arrived_eq, State.clocked_eq]
@[simp] theorem State.arrived_meter (s : State) (p : Port) (payload : List Byte) : (s.arrived p payload).meter = s.meter :=
  by simp [State.arrived_eq, State.clocked_eq]
@[simp] theorem State.arrived_gaugings (s : State) (p : Port) (payload : List Byte) : (s.arrived p payload).gaugings = s.gaugings :=
  by simp [State.arrived_eq, State.clocked_eq]
@[simp] theorem State.arrived_store (s : State) (p : Port) (payload : List Byte) : (s.arrived p payload).store = s.store :=
  by simp [State.arrived_eq, State.clocked_eq]
@[simp] theorem State.arrived_factorySerial (s : State) (p : Port) (payload : List Byte) : (s.arrived p payload).factorySerial = s.factorySerial :=
  by simp [State.arrived_eq, State.clocked_eq]
@[simp] theorem State.arrived_factoryTrim (s : State) (p : Port) (payload : List Byte) : (s.arrived p payload).factoryTrim = s.factoryTrim :=
  by simp [State.arrived_eq, State.clocked_eq]
@[simp] theorem State.arrived_identRead (s : State) (p : Port) (payload : List Byte) : (s.arrived p payload).identRead = s.identRead :=
  by simp [State.arrived_eq, State.clocked_eq]
@[simp] theorem State.arrived_lineC (s : State) (p : Port) (payload : List Byte) : (s.arrived p payload).lineC = s.lineC :=
  by simp [State.arrived_eq, State.clocked_eq]
@[simp] theorem State.arrived_resetReq (s : State) (p : Port) (payload : List Byte) : (s.arrived p payload).resetReq = s.resetReq :=
  by simp [State.arrived_eq, State.clocked_eq]
@[simp] theorem State.arrived_freeIndex (s : State) (p : Port) (payload : List Byte) : (s.arrived p payload).freeIndex = s.freeIndex :=
  by simp [State.arrived_eq, State.clocked_eq]
@[simp] theorem State.arrived_pending (s : State) (p : Port) (payload : List Byte) : (s.arrived p payload).pending = s.pending :=
  by simp [State.arrived_eq, State.clocked_eq]

/-! ### realign -/

/-- The next sample time after a realignment (R26). -/
theorem State.realign_eq (s : State) :
    s.realign = s.setNextSample
      (if nextSampleAfter s.interval s.backup.clock.toNat < s.sched.nextSample then
        nextSampleAfter s.interval s.backup.clock.toNat else s.sched.nextSample) := by
  simp only [State.realign]
  split <;> rfl

@[simp] theorem State.realign_phase (s : State) : (s.realign).phase = s.phase :=
  by simp [State.realign_eq]
@[simp] theorem State.realign_resetLow (s : State) : (s.realign).resetLow = s.resetLow :=
  by simp [State.realign_eq]
@[simp] theorem State.realign_maintClosed (s : State) : (s.realign).maintClosed = s.maintClosed :=
  by simp [State.realign_eq]
@[simp] theorem State.realign_backup (s : State) : (s.realign).backup = s.backup :=
  by simp [State.realign_eq]
@[simp] theorem State.realign_uptime (s : State) : (s.realign).uptime = s.uptime :=
  by simp [State.realign_eq]
@[simp] theorem State.realign_uptimeSub (s : State) : (s.realign).uptimeSub = s.uptimeSub :=
  by simp [State.realign_eq]
@[simp] theorem State.realign_ticks (s : State) : (s.realign).ticks = s.ticks :=
  by simp [State.realign_eq]
@[simp] theorem State.realign_startTicks (s : State) : (s.realign).startTicks = s.startTicks :=
  by simp [State.realign_eq]
@[simp] theorem State.realign_cfg (s : State) : (s.realign).cfg = s.cfg := by simp [State.realign_eq]
@[simp] theorem State.realign_limits (s : State) : (s.realign).limits = s.limits := by simp [State.realign_eq]
@[simp] theorem State.realign_floatCh (s : State) : (s.realign).floatCh = s.floatCh :=
  by simp [State.realign_eq]
@[simp] theorem State.realign_pressCh (s : State) : (s.realign).pressCh = s.pressCh :=
  by simp [State.realign_eq]
@[simp] theorem State.realign_sel (s : State) : (s.realign).sel = s.sel := by simp [State.realign_eq]
@[simp] theorem State.realign_window (s : State) : (s.realign).window = s.window :=
  by simp [State.realign_eq]
@[simp] theorem State.realign_rating (s : State) : (s.realign).rating = s.rating :=
  by simp [State.realign_eq]
@[simp] theorem State.realign_warn (s : State) : (s.realign).warn = s.warn := by simp [State.realign_eq]
@[simp] theorem State.realign_run (s : State) : (s.realign).run = s.run := by simp [State.realign_eq]
@[simp] theorem State.realign_newestRunId (s : State) : (s.realign).newestRunId = s.newestRunId :=
  by simp [State.realign_eq]
@[simp] theorem State.realign_meter (s : State) : (s.realign).meter = s.meter :=
  by simp [State.realign_eq]
@[simp] theorem State.realign_gaugings (s : State) : (s.realign).gaugings = s.gaugings :=
  by simp [State.realign_eq]
@[simp] theorem State.realign_store (s : State) : (s.realign).store = s.store :=
  by simp [State.realign_eq]
@[simp] theorem State.realign_factorySerial (s : State) : (s.realign).factorySerial = s.factorySerial :=
  by simp [State.realign_eq]
@[simp] theorem State.realign_factoryTrim (s : State) : (s.realign).factoryTrim = s.factoryTrim :=
  by simp [State.realign_eq]
@[simp] theorem State.realign_identRead (s : State) : (s.realign).identRead = s.identRead :=
  by simp [State.realign_eq]
@[simp] theorem State.realign_ports (s : State) : (s.realign).ports = s.ports :=
  by simp [State.realign_eq]
@[simp] theorem State.realign_lineC (s : State) : (s.realign).lineC = s.lineC :=
  by simp [State.realign_eq]
@[simp] theorem State.realign_resetReq (s : State) : (s.realign).resetReq = s.resetReq :=
  by simp [State.realign_eq]
@[simp] theorem State.realign_freeIndex (s : State) : (s.realign).freeIndex = s.freeIndex :=
  by simp [State.realign_eq]
@[simp] theorem State.realign_pending (s : State) : (s.realign).pending = s.pending :=
  by simp [State.realign_eq]

/-! ### queueEntry -/

@[simp] theorem State.queueEntry_phase (s : State) (e : JournalEntry) : (s.queueEntry e).phase = s.phase := rfl
@[simp] theorem State.queueEntry_resetLow (s : State) (e : JournalEntry) : (s.queueEntry e).resetLow = s.resetLow :=
  rfl
@[simp] theorem State.queueEntry_maintClosed (s : State) (e : JournalEntry) : (s.queueEntry e).maintClosed = s.maintClosed :=
  rfl
@[simp] theorem State.queueEntry_backup (s : State) (e : JournalEntry) : (s.queueEntry e).backup = s.backup := rfl
@[simp] theorem State.queueEntry_uptime (s : State) (e : JournalEntry) : (s.queueEntry e).uptime = s.uptime := rfl
@[simp] theorem State.queueEntry_uptimeSub (s : State) (e : JournalEntry) : (s.queueEntry e).uptimeSub = s.uptimeSub :=
  rfl
@[simp] theorem State.queueEntry_ticks (s : State) (e : JournalEntry) : (s.queueEntry e).ticks = s.ticks := rfl
@[simp] theorem State.queueEntry_startTicks (s : State) (e : JournalEntry) : (s.queueEntry e).startTicks = s.startTicks :=
  rfl
@[simp] theorem State.queueEntry_sched (s : State) (e : JournalEntry) : (s.queueEntry e).sched = s.sched := rfl
@[simp] theorem State.queueEntry_cfg (s : State) (e : JournalEntry) : (s.queueEntry e).cfg = s.cfg := rfl
@[simp] theorem State.queueEntry_limits (s : State) (e : JournalEntry) : (s.queueEntry e).limits = s.limits := rfl
@[simp] theorem State.queueEntry_floatCh (s : State) (e : JournalEntry) : (s.queueEntry e).floatCh = s.floatCh := rfl
@[simp] theorem State.queueEntry_pressCh (s : State) (e : JournalEntry) : (s.queueEntry e).pressCh = s.pressCh := rfl
@[simp] theorem State.queueEntry_sel (s : State) (e : JournalEntry) : (s.queueEntry e).sel = s.sel := rfl
@[simp] theorem State.queueEntry_window (s : State) (e : JournalEntry) : (s.queueEntry e).window = s.window := rfl
@[simp] theorem State.queueEntry_rating (s : State) (e : JournalEntry) : (s.queueEntry e).rating = s.rating := rfl
@[simp] theorem State.queueEntry_warn (s : State) (e : JournalEntry) : (s.queueEntry e).warn = s.warn := rfl
@[simp] theorem State.queueEntry_run (s : State) (e : JournalEntry) : (s.queueEntry e).run = s.run := rfl
@[simp] theorem State.queueEntry_newestRunId (s : State) (e : JournalEntry) : (s.queueEntry e).newestRunId = s.newestRunId :=
  rfl
@[simp] theorem State.queueEntry_meter (s : State) (e : JournalEntry) : (s.queueEntry e).meter = s.meter := rfl
@[simp] theorem State.queueEntry_gaugings (s : State) (e : JournalEntry) : (s.queueEntry e).gaugings = s.gaugings :=
  rfl
@[simp] theorem State.queueEntry_factorySerial (s : State) (e : JournalEntry) : (s.queueEntry e).factorySerial = s.factorySerial :=
  rfl
@[simp] theorem State.queueEntry_factoryTrim (s : State) (e : JournalEntry) : (s.queueEntry e).factoryTrim = s.factoryTrim :=
  rfl
@[simp] theorem State.queueEntry_identRead (s : State) (e : JournalEntry) : (s.queueEntry e).identRead = s.identRead :=
  rfl
@[simp] theorem State.queueEntry_ports (s : State) (e : JournalEntry) : (s.queueEntry e).ports = s.ports := rfl
@[simp] theorem State.queueEntry_lineC (s : State) (e : JournalEntry) : (s.queueEntry e).lineC = s.lineC := rfl
@[simp] theorem State.queueEntry_resetReq (s : State) (e : JournalEntry) : (s.queueEntry e).resetReq = s.resetReq :=
  rfl
@[simp] theorem State.queueEntry_freeIndex (s : State) (e : JournalEntry) : (s.queueEntry e).freeIndex = s.freeIndex :=
  rfl
@[simp] theorem State.queueEntry_pending (s : State) (e : JournalEntry) : (s.queueEntry e).pending = s.pending := rfl

/-! ### park -/

@[simp] theorem State.park_phase (s : State) (x : ParkReason) : (s.park x).phase = s.phase :=by
  unfold State.park; split
  · rfl
  · split <;> simp
@[simp] theorem State.park_resetLow (s : State) (x : ParkReason) : (s.park x).resetLow = s.resetLow :=by
  unfold State.park; split
  · rfl
  · split <;> simp
@[simp] theorem State.park_maintClosed (s : State) (x : ParkReason) : (s.park x).maintClosed = s.maintClosed :=by
  unfold State.park; split
  · rfl
  · split <;> simp
@[simp] theorem State.park_backup (s : State) (x : ParkReason) : (s.park x).backup = s.backup :=by
  unfold State.park; split
  · rfl
  · split <;> simp
@[simp] theorem State.park_uptime (s : State) (x : ParkReason) : (s.park x).uptime = s.uptime :=by
  unfold State.park; split
  · rfl
  · split <;> simp
@[simp] theorem State.park_uptimeSub (s : State) (x : ParkReason) : (s.park x).uptimeSub = s.uptimeSub :=by
  unfold State.park; split
  · rfl
  · split <;> simp
@[simp] theorem State.park_ticks (s : State) (x : ParkReason) : (s.park x).ticks = s.ticks :=by
  unfold State.park; split
  · rfl
  · split <;> simp
@[simp] theorem State.park_startTicks (s : State) (x : ParkReason) : (s.park x).startTicks = s.startTicks :=by
  unfold State.park; split
  · rfl
  · split <;> simp
@[simp] theorem State.park_sched (s : State) (x : ParkReason) : (s.park x).sched = s.sched :=by
  unfold State.park; split
  · rfl
  · split <;> simp
@[simp] theorem State.park_cfg (s : State) (x : ParkReason) : (s.park x).cfg = s.cfg :=by
  unfold State.park; split
  · rfl
  · split <;> simp
@[simp] theorem State.park_limits (s : State) (x : ParkReason) : (s.park x).limits = s.limits :=by
  unfold State.park; split
  · rfl
  · split <;> simp
@[simp] theorem State.park_floatCh (s : State) (x : ParkReason) : (s.park x).floatCh = s.floatCh :=by
  unfold State.park; split
  · rfl
  · split <;> simp
@[simp] theorem State.park_pressCh (s : State) (x : ParkReason) : (s.park x).pressCh = s.pressCh :=by
  unfold State.park; split
  · rfl
  · split <;> simp
@[simp] theorem State.park_sel (s : State) (x : ParkReason) : (s.park x).sel = s.sel :=by
  unfold State.park; split
  · rfl
  · split <;> simp
@[simp] theorem State.park_window (s : State) (x : ParkReason) : (s.park x).window = s.window :=by
  unfold State.park; split
  · rfl
  · split <;> simp
@[simp] theorem State.park_rating (s : State) (x : ParkReason) : (s.park x).rating = s.rating :=by
  unfold State.park; split
  · rfl
  · split <;> simp
@[simp] theorem State.park_warn (s : State) (x : ParkReason) : (s.park x).warn = s.warn :=by
  unfold State.park; split
  · rfl
  · split <;> simp
@[simp] theorem State.park_newestRunId (s : State) (x : ParkReason) : (s.park x).newestRunId = s.newestRunId :=by
  unfold State.park; split
  · rfl
  · split <;> simp
@[simp] theorem State.park_gaugings (s : State) (x : ParkReason) : (s.park x).gaugings = s.gaugings :=by
  unfold State.park; split
  · rfl
  · split <;> simp
@[simp] theorem State.park_store (s : State) (x : ParkReason) : (s.park x).store = s.store :=by
  unfold State.park; split
  · rfl
  · split <;> simp
@[simp] theorem State.park_factorySerial (s : State) (x : ParkReason) : (s.park x).factorySerial = s.factorySerial :=by
  unfold State.park; split
  · rfl
  · split <;> simp
@[simp] theorem State.park_factoryTrim (s : State) (x : ParkReason) : (s.park x).factoryTrim = s.factoryTrim :=by
  unfold State.park; split
  · rfl
  · split <;> simp
@[simp] theorem State.park_identRead (s : State) (x : ParkReason) : (s.park x).identRead = s.identRead :=by
  unfold State.park; split
  · rfl
  · split <;> simp
@[simp] theorem State.park_lineC (s : State) (x : ParkReason) : (s.park x).lineC = s.lineC :=by
  unfold State.park; split
  · rfl
  · split <;> simp
@[simp] theorem State.park_resetReq (s : State) (x : ParkReason) : (s.park x).resetReq = s.resetReq :=by
  unfold State.park; split
  · rfl
  · split <;> simp
@[simp] theorem State.park_freeIndex (s : State) (x : ParkReason) : (s.park x).freeIndex = s.freeIndex :=by
  unfold State.park; split
  · rfl
  · split <;> simp
@[simp] theorem State.park_pending (s : State) (x : ParkReason) : (s.park x).pending = s.pending :=by
  unfold State.park; split
  · rfl
  · split <;> simp

/-! ### dragPort -/

@[simp] theorem State.dragPort_phase (s : State) (old new : Word32) (p : Port) : (s.dragPort old new p).phase = s.phase :=
  by unfold State.dragPort; split <;> simp
@[simp] theorem State.dragPort_resetLow (s : State) (old new : Word32) (p : Port) : (s.dragPort old new p).resetLow = s.resetLow :=
  by unfold State.dragPort; split <;> simp
@[simp] theorem State.dragPort_maintClosed (s : State) (old new : Word32) (p : Port) : (s.dragPort old new p).maintClosed = s.maintClosed :=
  by unfold State.dragPort; split <;> simp
@[simp] theorem State.dragPort_backup (s : State) (old new : Word32) (p : Port) : (s.dragPort old new p).backup = s.backup :=
  by unfold State.dragPort; split <;> simp
@[simp] theorem State.dragPort_uptime (s : State) (old new : Word32) (p : Port) : (s.dragPort old new p).uptime = s.uptime :=
  by unfold State.dragPort; split <;> simp
@[simp] theorem State.dragPort_uptimeSub (s : State) (old new : Word32) (p : Port) : (s.dragPort old new p).uptimeSub = s.uptimeSub :=
  by unfold State.dragPort; split <;> simp
@[simp] theorem State.dragPort_ticks (s : State) (old new : Word32) (p : Port) : (s.dragPort old new p).ticks = s.ticks :=
  by unfold State.dragPort; split <;> simp
@[simp] theorem State.dragPort_startTicks (s : State) (old new : Word32) (p : Port) : (s.dragPort old new p).startTicks = s.startTicks :=
  by unfold State.dragPort; split <;> simp
@[simp] theorem State.dragPort_sched (s : State) (old new : Word32) (p : Port) : (s.dragPort old new p).sched = s.sched :=
  by unfold State.dragPort; split <;> simp
@[simp] theorem State.dragPort_cfg (s : State) (old new : Word32) (p : Port) : (s.dragPort old new p).cfg = s.cfg :=
  by unfold State.dragPort; split <;> simp
@[simp] theorem State.dragPort_limits (s : State) (old new : Word32) (p : Port) : (s.dragPort old new p).limits = s.limits :=
  by unfold State.dragPort; split <;> simp
@[simp] theorem State.dragPort_floatCh (s : State) (old new : Word32) (p : Port) : (s.dragPort old new p).floatCh = s.floatCh :=
  by unfold State.dragPort; split <;> simp
@[simp] theorem State.dragPort_pressCh (s : State) (old new : Word32) (p : Port) : (s.dragPort old new p).pressCh = s.pressCh :=
  by unfold State.dragPort; split <;> simp
@[simp] theorem State.dragPort_sel (s : State) (old new : Word32) (p : Port) : (s.dragPort old new p).sel = s.sel :=
  by unfold State.dragPort; split <;> simp
@[simp] theorem State.dragPort_window (s : State) (old new : Word32) (p : Port) : (s.dragPort old new p).window = s.window :=
  by unfold State.dragPort; split <;> simp
@[simp] theorem State.dragPort_rating (s : State) (old new : Word32) (p : Port) : (s.dragPort old new p).rating = s.rating :=
  by unfold State.dragPort; split <;> simp
@[simp] theorem State.dragPort_warn (s : State) (old new : Word32) (p : Port) : (s.dragPort old new p).warn = s.warn :=
  by unfold State.dragPort; split <;> simp
@[simp] theorem State.dragPort_run (s : State) (old new : Word32) (p : Port) : (s.dragPort old new p).run = s.run :=
  by unfold State.dragPort; split <;> simp
@[simp] theorem State.dragPort_newestRunId (s : State) (old new : Word32) (p : Port) : (s.dragPort old new p).newestRunId = s.newestRunId :=
  by unfold State.dragPort; split <;> simp
@[simp] theorem State.dragPort_meter (s : State) (old new : Word32) (p : Port) : (s.dragPort old new p).meter = s.meter :=
  by unfold State.dragPort; split <;> simp
@[simp] theorem State.dragPort_gaugings (s : State) (old new : Word32) (p : Port) : (s.dragPort old new p).gaugings = s.gaugings :=
  by unfold State.dragPort; split <;> simp
@[simp] theorem State.dragPort_store (s : State) (old new : Word32) (p : Port) : (s.dragPort old new p).store = s.store :=
  by unfold State.dragPort; split <;> simp
@[simp] theorem State.dragPort_factorySerial (s : State) (old new : Word32) (p : Port) : (s.dragPort old new p).factorySerial = s.factorySerial :=
  by unfold State.dragPort; split <;> simp
@[simp] theorem State.dragPort_factoryTrim (s : State) (old new : Word32) (p : Port) : (s.dragPort old new p).factoryTrim = s.factoryTrim :=
  by unfold State.dragPort; split <;> simp
@[simp] theorem State.dragPort_identRead (s : State) (old new : Word32) (p : Port) : (s.dragPort old new p).identRead = s.identRead :=
  by unfold State.dragPort; split <;> simp
@[simp] theorem State.dragPort_lineC (s : State) (old new : Word32) (p : Port) : (s.dragPort old new p).lineC = s.lineC :=
  by unfold State.dragPort; split <;> simp
@[simp] theorem State.dragPort_resetReq (s : State) (old new : Word32) (p : Port) : (s.dragPort old new p).resetReq = s.resetReq :=
  by unfold State.dragPort; split <;> simp
@[simp] theorem State.dragPort_freeIndex (s : State) (old new : Word32) (p : Port) : (s.dragPort old new p).freeIndex = s.freeIndex :=
  by unfold State.dragPort; split <;> simp
@[simp] theorem State.dragPort_pending (s : State) (old new : Word32) (p : Port) : (s.dragPort old new p).pending = s.pending :=
  by unfold State.dragPort; split <;> simp

/-! ### advanceFirst -/

@[simp] theorem State.advanceFirst_phase (s : State) (new : Word32) : (s.advanceFirst new).phase = s.phase :=
  by simp [State.advanceFirst]
@[simp] theorem State.advanceFirst_resetLow (s : State) (new : Word32) : (s.advanceFirst new).resetLow = s.resetLow :=
  by simp [State.advanceFirst]
@[simp] theorem State.advanceFirst_maintClosed (s : State) (new : Word32) : (s.advanceFirst new).maintClosed = s.maintClosed :=
  by simp [State.advanceFirst]
@[simp] theorem State.advanceFirst_backup (s : State) (new : Word32) : (s.advanceFirst new).backup = s.backup :=
  by simp [State.advanceFirst]
@[simp] theorem State.advanceFirst_uptime (s : State) (new : Word32) : (s.advanceFirst new).uptime = s.uptime :=
  by simp [State.advanceFirst]
@[simp] theorem State.advanceFirst_uptimeSub (s : State) (new : Word32) : (s.advanceFirst new).uptimeSub = s.uptimeSub :=
  by simp [State.advanceFirst]
@[simp] theorem State.advanceFirst_ticks (s : State) (new : Word32) : (s.advanceFirst new).ticks = s.ticks :=
  by simp [State.advanceFirst]
@[simp] theorem State.advanceFirst_startTicks (s : State) (new : Word32) : (s.advanceFirst new).startTicks = s.startTicks :=
  by simp [State.advanceFirst]
@[simp] theorem State.advanceFirst_sched (s : State) (new : Word32) : (s.advanceFirst new).sched = s.sched :=
  by simp [State.advanceFirst]
@[simp] theorem State.advanceFirst_cfg (s : State) (new : Word32) : (s.advanceFirst new).cfg = s.cfg :=
  by simp [State.advanceFirst]
@[simp] theorem State.advanceFirst_limits (s : State) (new : Word32) : (s.advanceFirst new).limits = s.limits :=
  by simp [State.advanceFirst]
@[simp] theorem State.advanceFirst_floatCh (s : State) (new : Word32) : (s.advanceFirst new).floatCh = s.floatCh :=
  by simp [State.advanceFirst]
@[simp] theorem State.advanceFirst_pressCh (s : State) (new : Word32) : (s.advanceFirst new).pressCh = s.pressCh :=
  by simp [State.advanceFirst]
@[simp] theorem State.advanceFirst_sel (s : State) (new : Word32) : (s.advanceFirst new).sel = s.sel :=
  by simp [State.advanceFirst]
@[simp] theorem State.advanceFirst_window (s : State) (new : Word32) : (s.advanceFirst new).window = s.window :=
  by simp [State.advanceFirst]
@[simp] theorem State.advanceFirst_rating (s : State) (new : Word32) : (s.advanceFirst new).rating = s.rating :=
  by simp [State.advanceFirst]
@[simp] theorem State.advanceFirst_warn (s : State) (new : Word32) : (s.advanceFirst new).warn = s.warn :=
  by simp [State.advanceFirst]
@[simp] theorem State.advanceFirst_run (s : State) (new : Word32) : (s.advanceFirst new).run = s.run :=
  by simp [State.advanceFirst]
@[simp] theorem State.advanceFirst_newestRunId (s : State) (new : Word32) : (s.advanceFirst new).newestRunId = s.newestRunId :=
  by simp [State.advanceFirst]
@[simp] theorem State.advanceFirst_meter (s : State) (new : Word32) : (s.advanceFirst new).meter = s.meter :=
  by simp [State.advanceFirst]
@[simp] theorem State.advanceFirst_gaugings (s : State) (new : Word32) : (s.advanceFirst new).gaugings = s.gaugings :=
  by simp [State.advanceFirst]
@[simp] theorem State.advanceFirst_factorySerial (s : State) (new : Word32) : (s.advanceFirst new).factorySerial = s.factorySerial :=
  by simp [State.advanceFirst]
@[simp] theorem State.advanceFirst_factoryTrim (s : State) (new : Word32) : (s.advanceFirst new).factoryTrim = s.factoryTrim :=
  by simp [State.advanceFirst]
@[simp] theorem State.advanceFirst_identRead (s : State) (new : Word32) : (s.advanceFirst new).identRead = s.identRead :=
  by simp [State.advanceFirst]
@[simp] theorem State.advanceFirst_lineC (s : State) (new : Word32) : (s.advanceFirst new).lineC = s.lineC :=
  by simp [State.advanceFirst]
@[simp] theorem State.advanceFirst_resetReq (s : State) (new : Word32) : (s.advanceFirst new).resetReq = s.resetReq :=
  by simp [State.advanceFirst]
@[simp] theorem State.advanceFirst_freeIndex (s : State) (new : Word32) : (s.advanceFirst new).freeIndex = s.freeIndex :=
  by simp [State.advanceFirst]
@[simp] theorem State.advanceFirst_pending (s : State) (new : Word32) : (s.advanceFirst new).pending = s.pending :=
  by simp [State.advanceFirst]

/-! ### What the changed fields become -/

/-- The ports after a reply: that of the port that waits, or as they were. -/
theorem State.answered_port (s : State) (p : Port) (c : Byte) (st : Status) (pl : List Byte) :
    (s.answered p c st pl).port p = { s.port p with request := none, reply := some ⟨st, c, pl, false⟩ } := by
  simp [State.answered]

/-- A reply leaves the other ports as they are. -/
theorem State.answered_other (s : State) (p q : Port) (c : Byte) (st : Status) (pl : List Byte) (h : q ≠ p) :
    (s.answered p c st pl).port q = s.port q := State.setPort_port_other _ _ _ _ h

/-- The arrival of a frame leaves every port as it is. -/
@[simp] theorem State.frameArrived_port (s : State) (p q : Port) : (s.frameArrived p).port q = s.port q := by
  simp [State.port]

/-- first_seq once it has advanced (R145). -/
theorem State.advanceFirst_store (s : State) (new : Word32) :
    (s.advanceFirst new).store = { s.store with firstSeq := new } := by
  simp [State.advanceFirst]

/-- A record or mark enters a buffer that has room (R142). -/
theorem State.enterBuffer_room (s : State) (body : LogBody) (h : s.store.degraded = false)
    (hl : s.store.buffer.length < bufferLimit) :
    s.enterBuffer body = s.setStore { s.store with
      buffer := s.store.buffer ++ [⟨s.store.nextSeq, s.store.dropped, body⟩]
      nextSeq := s.store.nextSeq + 1
      dropped := 0 } := by
  simp [State.enterBuffer, h, hl, State.pushRecord]

/-- A record or mark is dropped and counted when the buffer is full (R142). -/
theorem State.enterBuffer_full (s : State) (body : LogBody) (h : s.store.degraded = false)
    (hl : bufferLimit ≤ s.store.buffer.length) :
    s.enterBuffer body = s.setStore { s.store with dropped := saturate 255 (s.store.dropped + 1) } := by
  simp [State.enterBuffer, h, Nat.not_lt.2 hl]

/-- A park request that parks no run changes nothing (R104). -/
theorem State.park_idle (s : State) (x : ParkReason) (h : ∀ r, s.run = some r → r.parksOn x = false) :
    s.park x = s := by
  unfold State.park
  split
  · rfl
  · rename_i r hr
    simp [h r hr]

/-- A park request that parks the run (R104). -/
theorem State.park_run (s : State) (x : ParkReason) (r : Run) (hr : s.run = some r) (h : r.parksOn x = true) :
    s.park x = ({ s with run := some (r.parked x s.uptime), meter := s.meter.stopped }.raiseAll .runParked).raiseOn
      .c .recall := by
  simp [State.park, hr, h]

/-- A run that ends hands its trailer to a queue with room, and its reply is held (R102, R110). -/
theorem State.endRun_queued (s : State) (r : Run) (c : CloseRecord) (e : Ending) (toPort : Option Port)
    (hd : s.store.degraded = false) (hn : r.notStored = false) (hq : s.journalRoom 1 = true) :
    s.endRun r c e toPort =
      { s with run := some (r.closed c e toPort), meter := s.meter.stopped }.queueEntry (.trailer c) := by
  have hj : ({ s with run := some (r.closed c e toPort), meter := s.meter.stopped } : State).journalRoom 1 = true := hq
  have hx : ({ s with run := some (r.closed c e toPort), meter := s.meter.stopped } : State).runNotStored = false := hn
  unfold State.endRun State.handTrailer
  rw [if_neg (by rw [hd]; decide), if_neg (by rw [hx]; decide), if_pos hj]

/-- An erase joins the requests, or its block waits already. -/
theorem State.requestErase_eq (s : State) (q : EraseRequest) :
    s.requestErase q = s.setStore { s.store with
      erases := if s.store.erases.any (fun x => decide (x.block = q.block)) then s.store.erases
        else s.store.erases ++ [q] } := by
  unfold State.requestErase
  split
  · rfl
  · rfl

end Sys2Proof.Machine
end

