-- ==== Sys2Proof/Laws/PerInstr.lean ====
section
/-! SUPPORT. What holds of every command as syntax, command by command. The family RequestsFitTheirFrame: a request
is one the world can send exactly when its payload fits a frame (R164), and its code is one of the command table
(spec/09, Command codes). -/

namespace Sys2Proof.Laws

open Sys2Proof.Machine

/-- A request is well formed exactly when its payload fits a frame, and its code names a command. -/
def RequestsFitTheirFrame.Statement (i : Instr) : Prop :=
  ∀ r, requestOf i = some r → i.wellFormed = payloadFits r.payload ∧ codeClass r.code.toNat ≠ .unknown

namespace RequestsFitTheirFrame

/-- A command that is no request. -/
theorem of_event {i : Instr} (h : requestOf i = none) : Statement i := fun r hr => by simp [h] at hr

/-- A command that is a request of a known code. -/
theorem of_request {i : Instr} {p : Port} {code : Byte} {payload : List Byte}
    (h : requestOf i = some ⟨p, code, payload⟩) (hw : i.wellFormed = payloadFits payload)
    (hc : codeClass code.toNat ≠ .unknown) : Statement i := fun r hr => by
  cases h.symm.trans hr
  exact ⟨hw, hc⟩

theorem powerOn : Statement .powerOn := of_event rfl
theorem powerLoss : Statement .powerLoss := of_event rfl
theorem resetPinAssert : Statement .resetPinAssert := of_event rfl
theorem resetPinRelease : Statement .resetPinRelease := of_event rfl
theorem stationResetTakesEffect : Statement .stationResetTakesEffect := of_event rfl
theorem readyEntry (verifies : List Bool) : Statement (.readyEntry verifies) := of_event rfl
theorem getIdentDeferredReply (p : Port) : Statement (.getIdentDeferredReply p) := of_event rfl
theorem encoderTransition (fa fb : Bool) : Statement (.encoderTransition fa fb) := of_event rfl
theorem measurementComplete (periodTotal : Nat) : Statement (.measurementComplete periodTotal) := of_event rfl
theorem measurementAbandoned : Statement .measurementAbandoned := of_event rfl
theorem pressureNoSignal : Statement .pressureNoSignal := of_event rfl
theorem scheduledSample : Statement .scheduledSample := of_event rfl
theorem sirenTimerExpiry : Statement .sirenTimerExpiry := of_event rfl
theorem sirenTestExpiry : Statement .sirenTestExpiry := of_event rfl
theorem silenceTimerExpiry : Statement .silenceTimerExpiry := of_event rfl
theorem parkTimerExpiry : Statement .parkTimerExpiry := of_event rfl
theorem meterClosure : Statement .meterClosure := of_event rfl
theorem observationComplete : Statement .observationComplete := of_event rfl
theorem trailerHandover : Statement .trailerHandover := of_event rfl
theorem appendGrant : Statement .appendGrant := of_event rfl
theorem journalGrant : Statement .journalGrant := of_event rfl
theorem ratingImageGrant : Statement .ratingImageGrant := of_event rfl
theorem configSaveGrant : Statement .configSaveGrant := of_event rfl
theorem identWriteGrant : Statement .identWriteGrant := of_event rfl
theorem unitProgramComplete (headerOk unitOk : Bool) : Statement (.unitProgramComplete headerOk unitOk) :=
  of_event rfl
theorem eraseAheadStart : Statement .eraseAheadStart := of_event rfl
theorem blockRetire : Statement .blockRetire := of_event rfl
theorem eraseLogBlockErase : Statement .eraseLogBlockErase := of_event rfl
theorem eraseSuspend : Statement .eraseSuspend := of_event rfl
theorem eraseComplete (ok badHeaderOk : Bool) : Statement (.eraseComplete ok badHeaderOk) := of_event rfl
theorem readLogGrant : Statement .readLogGrant := of_event rfl
theorem seekLogStep : Statement .seekLogStep := of_event rfl
theorem readJournalGrant : Statement .readJournalGrant := of_event rfl
theorem frameDiscard (p : Port) (f : BadFrame) : Statement (.frameDiscard p f) := of_event rfl
theorem frameGapTimeout (bytes : List Byte) : Statement (.frameGapTimeout bytes) := of_event rfl
theorem requestOverrun (p : Port) (code : Byte) (payload : List Byte) : Statement (.requestOverrun p code payload) :=
  of_event rfl
theorem unknownCommand (p : Port) (code : Byte) (payload : List Byte) : Statement (.unknownCommand p code payload) :=
  of_event rfl
theorem fetch (p : Port) (bytes : Nat) : Statement (.fetch p bytes) := of_event rfl
theorem replyTransmitStart : Statement .replyTransmitStart := of_event rfl
theorem replyTransmitDone : Statement .replyTransmitDone := of_event rfl
theorem portCBreak : Statement .portCBreak := of_event rfl
theorem portcDividerLoad : Statement .portcDividerLoad := of_event rfl
theorem getIdent (p : Port) (payload : List Byte) : Statement (.getIdent p payload) := of_request rfl rfl (by decide)
theorem getTime (p : Port) (payload : List Byte) : Statement (.getTime p payload) := of_request rfl rfl (by decide)
theorem setTime (p : Port) (payload : List Byte) : Statement (.setTime p payload) := of_request rfl rfl (by decide)
theorem linkReset (p : Port) (payload : List Byte) : Statement (.linkReset p payload) :=
  of_request rfl rfl (by decide)
theorem stationReset (p : Port) (payload : List Byte) : Statement (.stationReset p payload) :=
  of_request rfl rfl (by decide)
theorem fetchEvents (p : Port) (payload : List Byte) : Statement (.fetchEvents p payload) :=
  of_request rfl rfl (by decide)
theorem setEventGroups (p : Port) (payload : List Byte) : Statement (.setEventGroups p payload) :=
  of_request rfl rfl (by decide)
theorem getStage (p : Port) (payload : List Byte) : Statement (.getStage p payload) := of_request rfl rfl (by decide)
theorem readSources (p : Port) (payload : List Byte) : Statement (.readSources p payload) :=
  of_request rfl rfl (by decide)
theorem setReference (p : Port) (payload : List Byte) : Statement (.setReference p payload) :=
  of_request rfl rfl (by decide)
theorem selectSource (p : Port) (payload : List Byte) : Statement (.selectSource p payload) :=
  of_request rfl rfl (by decide)
theorem requestSample (p : Port) (payload : List Byte) : Statement (.requestSample p payload) :=
  of_request rfl rfl (by decide)
theorem getRating (p : Port) (payload : List Byte) : Statement (.getRating p payload) :=
  of_request rfl rfl (by decide)
theorem queryDischarge (p : Port) (payload : List Byte) : Statement (.queryDischarge p payload) :=
  of_request rfl rfl (by decide)
theorem draftBegin (p : Port) (payload : List Byte) : Statement (.draftBegin p payload) :=
  of_request rfl rfl (by decide)
theorem draftPutPoints (p : Port) (payload : List Byte) : Statement (.draftPutPoints p payload) :=
  of_request rfl rfl (by decide)
theorem draftTruncate (p : Port) (payload : List Byte) : Statement (.draftTruncate p payload) :=
  of_request rfl rfl (by decide)
theorem draftPutShift (p : Port) (payload : List Byte) : Statement (.draftPutShift p payload) :=
  of_request rfl rfl (by decide)
theorem draftSetExtension (p : Port) (payload : List Byte) : Statement (.draftSetExtension p payload) :=
  of_request rfl rfl (by decide)
theorem draftActivate (p : Port) (payload : List Byte) : Statement (.draftActivate p payload) :=
  of_request rfl rfl (by decide)
theorem draftDiscard (p : Port) (payload : List Byte) : Statement (.draftDiscard p payload) :=
  of_request rfl rfl (by decide)
theorem getWarning (p : Port) (payload : List Byte) : Statement (.getWarning p payload) :=
  of_request rfl rfl (by decide)
theorem ackSiren (p : Port) (payload : List Byte) : Statement (.ackSiren p payload) := of_request rfl rfl (by decide)
theorem testSiren (p : Port) (payload : List Byte) : Statement (.testSiren p payload) :=
  of_request rfl rfl (by decide)
theorem runOpen (p : Port) (payload : List Byte) : Statement (.runOpen p payload) := of_request rfl rfl (by decide)
theorem verticalBegin (p : Port) (payload : List Byte) : Statement (.verticalBegin p payload) :=
  of_request rfl rfl (by decide)
theorem pointStart (p : Port) (payload : List Byte) : Statement (.pointStart p payload) :=
  of_request rfl rfl (by decide)
theorem verticalEnd (p : Port) (payload : List Byte) : Statement (.verticalEnd p payload) :=
  of_request rfl rfl (by decide)
theorem verticalCancel (p : Port) (payload : List Byte) : Statement (.verticalCancel p payload) :=
  of_request rfl rfl (by decide)
theorem verticalRemove (p : Port) (payload : List Byte) : Statement (.verticalRemove p payload) :=
  of_request rfl rfl (by decide)
theorem runClose (p : Port) (payload : List Byte) : Statement (.runClose p payload) := of_request rfl rfl (by decide)
theorem runAbandon (p : Port) (payload : List Byte) : Statement (.runAbandon p payload) :=
  of_request rfl rfl (by decide)
theorem runResume (p : Port) (payload : List Byte) : Statement (.runResume p payload) :=
  of_request rfl rfl (by decide)
theorem runStatus (p : Port) (payload : List Byte) : Statement (.runStatus p payload) :=
  of_request rfl rfl (by decide)
theorem getVertical (p : Port) (payload : List Byte) : Statement (.getVertical p payload) :=
  of_request rfl rfl (by decide)
theorem getGaugings (p : Port) (payload : List Byte) : Statement (.getGaugings p payload) :=
  of_request rfl rfl (by decide)
theorem readLog (p : Port) (payload : List Byte) : Statement (.readLog p payload) := of_request rfl rfl (by decide)
theorem seekLog (p : Port) (payload : List Byte) : Statement (.seekLog p payload) := of_request rfl rfl (by decide)
theorem storeStatus (p : Port) (payload : List Byte) : Statement (.storeStatus p payload) :=
  of_request rfl rfl (by decide)
theorem readJournal (p : Port) (payload : List Byte) : Statement (.readJournal p payload) :=
  of_request rfl rfl (by decide)
theorem eraseLog (p : Port) (payload : List Byte) : Statement (.eraseLog p payload) := of_request rfl rfl (by decide)
theorem getConfig (p : Port) (payload : List Byte) : Statement (.getConfig p payload) :=
  of_request rfl rfl (by decide)
theorem setConfig (p : Port) (payload : List Byte) : Statement (.setConfig p payload) :=
  of_request rfl rfl (by decide)
theorem saveConfig (p : Port) (payload : List Byte) : Statement (.saveConfig p payload) :=
  of_request rfl rfl (by decide)
theorem setPermissions (p : Port) (payload : List Byte) (maintClosed : Bool) : Statement (.setPermissions p payload maintClosed) :=
  of_request rfl rfl (by decide)
theorem writeIdent (p : Port) (payload : List Byte) (maintClosed : Bool) : Statement (.writeIdent p payload maintClosed) :=
  of_request rfl rfl (by decide)
theorem stationClockAdvance : Statement .stationClockAdvance := of_event rfl
theorem backupStoreExhausted : Statement .backupStoreExhausted := of_event rfl
theorem portCLineReturnsHigh : Statement .portCLineReturnsHigh := of_event rfl

end RequestsFitTheirFrame

end Sys2Proof.Laws
end

