-- ==== Sys2Proof/Tests/Slice0.lean ====
section
/-! SUPPORT. The model's own tests: a smoke test of each check of `Instr.wellFormed`, the manual's worked examples,
and for each statement with hypotheses a concrete state that meets them. -/

-- one theorem at a time: hundreds of them elaborated side by side would take a thread and its stack each
set_option Elab.async false

namespace Sys2Proof.Tests

open Sys2Proof.Machine

/-! ### Helpers -/

/-- Whether an outcome is a next state with a property. -/
def got (o : Host.Outcome State Fault Refusal) (f : State → Bool) : Bool :=
  match o with
  | .next t => f t
  | .fault _ => false
  | .refused _ => false

/-- The state an outcome leads to. -/
def nextOr (s : State) (o : Host.Outcome State Fault Refusal) : State :=
  match o with
  | .next t => t
  | .fault _ => s
  | .refused _ => s

/-- A configuration in which every port has every family. -/
def openConfig : LiveConfig :=
  ((defaultConfig.set (.perm .l) 0x7F).set (.perm .t) 0x7F).set (.perm .c) 0x7F

/-- A part in READY, at uptime 1000 and station time 775,000,000, with every family at every port. -/
def up : State :=
  { State.reset with
    phase := .ready, cfg := openConfig, uptime := 1000, ticks := 5000#32
    backup := { State.reset.backup with clock := 775000000#32, valid := true, held := false }
    sched := ⟨775000800#32, none, none⟩ }

/-- The status and payload of a port's reply. -/
def replied (p : Port) (status : Status) (payload : List Byte) (s : State) : Bool :=
  match (s.port p).reply with
  | none => false
  | some r => decide (r.status = status) && decide (r.payload = payload)

/-- The kinds pending at a port, in the order they joined. -/
def kinds (p : Port) (s : State) : List EventKind := (s.port p).events.map EventEntry.kind

/-! ### WellFormed: each check refuses an ill-formed term -/

theorem test_wf_measurement_of_no_period : (Instr.measurementComplete 0).wellFormed = false := by decide +kernel
theorem test_wf_measurement_too_long : (Instr.measurementComplete 16000001).wellFormed = false := by decide +kernel
theorem test_wf_measurement_longest : (Instr.measurementComplete 16000000).wellFormed = true := by decide +kernel
theorem test_wf_discard_of_a_send_byte : (Instr.frameDiscard .l (.firstByte 0xA5#8 0)).wellFormed = false := by decide +kernel
theorem test_wf_discard_first_byte_on_c : (Instr.frameDiscard .c (.firstByte 0x00#8 3)).wellFormed = false := by decide +kernel
theorem test_wf_discard_stop_bit_on_spi : (Instr.frameDiscard .t (.stopBit [])).wellFormed = false := by decide +kernel
/-- The GET_TIME frame of chapter 9 (check values) is whole, so it is not discarded. -/
theorem test_wf_discard_of_a_whole_frame :
    (Instr.frameDiscard .l (.bytes [0x02#8, 0x00#8, 0x6D#8, 0x7B#8])).wellFormed = false := by decide +kernel
theorem test_wf_discard_of_a_bad_crc :
    (Instr.frameDiscard .l (.bytes [0x02#8, 0x00#8, 0x6D#8, 0x7A#8])).wellFormed = true := by decide +kernel
theorem test_wf_gap_after_a_whole_frame :
    (Instr.frameGapTimeout [0x02#8, 0x00#8, 0x6D#8, 0x7B#8]).wellFormed = false := by decide +kernel
theorem test_wf_gap_in_a_frame : (Instr.frameGapTimeout [0x02#8, 0x00#8, 0x6D#8]).wellFormed = true := by decide +kernel
theorem test_wf_overrun_by_link_reset : (Instr.requestOverrun .l 0x04#8 []).wellFormed = false := by decide +kernel
theorem test_wf_unknown_command_that_is_known : (Instr.unknownCommand .l 0x02#8 []).wellFormed = false := by decide +kernel
theorem test_wf_fetch_on_port_c : (Instr.fetch .c 1).wellFormed = false := by decide +kernel

/-- A payload one byte longer than a frame carries (R164). -/
def tooLong : List Byte := List.replicate 241 0x00#8

theorem test_wf_payloads_above_240 :
    ([Instr.requestOverrun .l 0x02#8 tooLong, .unknownCommand .l 0x7F#8 tooLong, .getIdent .l tooLong,
      .getTime .l tooLong, .setTime .l tooLong, .linkReset .l tooLong, .stationReset .l tooLong,
      .fetchEvents .l tooLong, .setEventGroups .l tooLong, .getStage .l tooLong, .readSources .l tooLong,
      .setReference .l tooLong, .selectSource .l tooLong, .requestSample .l tooLong, .getRating .l tooLong,
      .queryDischarge .l tooLong, .draftBegin .l tooLong, .draftPutPoints .l tooLong, .draftTruncate .l tooLong,
      .draftPutShift .l tooLong, .draftSetExtension .l tooLong, .draftActivate .l tooLong,
      .draftDiscard .l tooLong, .getWarning .l tooLong, .ackSiren .l tooLong].all fun i => !i.wellFormed) = true := by
  decide +kernel

theorem test_wf_payloads_above_240_rest :
    ([Instr.testSiren .l tooLong, .runOpen .l tooLong, .verticalBegin .l tooLong, .pointStart .l tooLong,
      .verticalEnd .l tooLong, .verticalCancel .l tooLong, .verticalRemove .l tooLong, .runClose .l tooLong,
      .runAbandon .l tooLong, .runResume .l tooLong, .runStatus .l tooLong, .getVertical .l tooLong,
      .getGaugings .l tooLong, .readLog .l tooLong, .seekLog .l tooLong, .storeStatus .l tooLong,
      .readJournal .l tooLong, .eraseLog .l tooLong, .getConfig .l tooLong, .setConfig .l tooLong,
      .saveConfig .l tooLong, .setPermissions .l tooLong true,
      .writeIdent .l tooLong true].all fun i => !i.wellFormed) = true := by
  decide +kernel

theorem test_wf_longest_payload : (Instr.getIdent .l (List.replicate 240 0x00#8)).wellFormed = true := by decide +kernel

/-! ### Stage sensors (spec/01, worked conversions and the example) -/

/-- The float of the worked conversions, at a count. -/
def workedFloat (count : Nat) : FloatChannel :=
  { FloatChannel.fresh with
    count := BitVec.ofNat 32 count, refCount := 1000#32, refStage := 1460, origin := .set, floatTop := 28500 }

/-- spec/01, worked conversions, float: the four rows of the first table. -/
theorem test_float_conversions :
    [1234, 766, 111160, 115160].map (fun n => ((workedFloat n).stage, (workedFloat n).quality)) =
      [(1519, .good), (1401, .good), (29000, .overtopped), (29999, .outOfRange)] := by decide +kernel

/-- The encoder at count 500 with the pair 0, 0. -/
def encoderAt : State :=
  { up with floatCh := { FloatChannel.fresh with count := 500#32, prevPair := some (false, false) } }

/-- spec/01, worked conversions, float: 1, 0 after 0, 0 is legal, +1. -/
theorem test_encoder_counts_up :
    got (exec (.encoderTransition true false) encoderAt) (fun t => t.floatCh.count = 501#32) = true := by decide +kernel

/-- spec/01, worked conversions, float: 0, 1 after 0, 0 is legal, −1. -/
theorem test_encoder_counts_down :
    got (exec (.encoderTransition false true) encoderAt) (fun t => t.floatCh.count = 499#32) = true := by decide +kernel

/-- The transducer of the worked conversions. -/
def workedPressure : State := { up with pressCh := { PressureChannel.fresh with gaugeFactor := 3300 } }

/-- spec/01, worked conversions, pressure: the third row. -/
theorem test_measurement_negative_head :
    got (exec (.measurementComplete 960000) workedPressure) (fun t =>
      decide (t.pressCh.newest = some ⟨2666667, 1000⟩) && decide (t.pressCh.stage = -367) &&
        decide (t.pressCh.quality 1002 = .good) && decide (t.pressCh.quality 1003 = .noSignal)) = true := by
  decide +kernel

/-- spec/01, worked conversions, pressure: the period total of 384,000 ticks. -/
theorem test_measurement_out_of_range :
    got (exec (.measurementComplete 384000) workedPressure) (fun t =>
      decide (t.pressCh.newest = some ⟨6666667, 1000⟩) && decide (t.pressCh.stage = -9999) &&
        decide (t.pressCh.quality 1000 = .outOfRange)) = true := by decide +kernel

/-- spec/01, the example: count 48,213, stalled, the newest measurement with a head of 2475. -/
def jammed : State :=
  { up with
    floatCh := { FloatChannel.fresh with count := 48213#32, stallMark := true }
    pressCh := { PressureChannel.fresh with gaugeFactor := 3300, newest := some ⟨2500000, 1000⟩ }
    sel := { Selector.fresh with current := some .pressure }
    window := [⟨900, 2400⟩] }

/-- spec/01, the example: SET_REFERENCE at 2510 mm, target BOTH. -/
theorem test_set_reference :
    got (exec (.setReference .l [0xCE#8, 0x09#8, 3#8]) jammed) (fun t =>
      replied .l .ok (le8 3 ++ le32 48213 ++ le16 2510 ++ le32 35 ++ le32 2475) t &&
        decide (t.cfg.get .datum = 35) && decide (t.floatCh.stage = 2510) && decide (t.pressCh.stage = 2510) &&
        decide (t.floatCh.quality = .stalled) && t.window.isEmpty) = true := by decide +kernel

/-! ### Station time (spec/02, worked clock setting) -/

/-- spec/02, worked clock setting: fifty seconds after the clock was loaded. -/
def afterOutage : State :=
  { up with
    backup := { up.backup with clock := 775000851#32, unset := true }
    sched := ⟨775001700#32, none, none⟩ }

/-- spec/02, worked clock setting: SET_TIME 775,013,415 is large, +12,564, and the next sample is 775,014,300. -/
theorem test_set_time_large :
    got (exec (.setTime .t (le32 775013415)) afterOutage) (fun t =>
      replied .t .ok (le8 1 ++ le32 12564) t && decide (t.sched.nextSample = 775014300#32) &&
        decide (t.store.buffer = [⟨0#32, 0, .mark 775000851#32 775013415#32 true .normal⟩]) &&
        decide (kinds .l t = [.clockStepped]) && decide (t.backup.unset = false)) = true := by decide +kernel

/-- spec/02, worked clock setting: SET_TIME 775,013,440 at 775,013,470 is small, −30, with no mark and no event. -/
theorem test_set_time_small :
    got (exec (.setTime .l (le32 775013440))
        { up with backup := { up.backup with clock := 775013470#32 }, sched := ⟨775014300#32, none, none⟩ })
      (fun t => replied .l .ok (le8 0 ++ sle32 (-30)) t && decide (t.sched.nextSample = 775014300#32) &&
        t.store.buffer.isEmpty && decide (kinds .l t = [])) = true := by decide +kernel

/-- R32: GET_TIME's 27 bytes. -/
theorem test_get_time_length : up.timeStatePayload.length = 27 := by decide +kernel

/-! ### Rise window (spec/03, the window after a purge) -/

/-- spec/03, the window after a purge: the rates at uptime 7740 (absent), 7800, 7860 and 7920. -/
theorem test_rise_rates :
    windowRate [⟨7200, 2400⟩, ⟨7740, 2477⟩] 1800 600 = none ∧
      windowRate [⟨7200, 2400⟩, ⟨7260, 2408⟩, ⟨7800, 2487⟩] 1800 600 = some 522 ∧
      windowRate [⟨7200, 2400⟩, ⟨7860, 2496⟩] 1800 600 = some 524 ∧
      windowRate [⟨7260, 2408⟩, ⟨7920, 2506⟩] 1800 600 = some 535 := by decide +kernel

/-- spec/03, the float jams: the history of s1 to s6 shows a stall, that of s1 to s5 does not. -/
theorem test_stall_judgement :
    stalled ([2420, 2435, 2450, 2465, 2480, 2495].map fun x => ⟨7#32, x, true⟩) 6 50 = true ∧
      stalled ([2420, 2435, 2450, 2465, 2480].map fun x => ⟨7#32, x, true⟩) 6 50 = false := by decide +kernel

/-! ### Ratings (spec/04, worked discharges and the worked sequence) -/

/-- Set 6 of the worked sequence. -/
def set6 : RatingSet :=
  { id := 6, points := [⟨300, 0⟩, ⟨600, 850⟩, ⟨1000, 3900⟩, ⟨1400, 7600⟩, ⟨1500, 9200⟩],
    shifts := [⟨770000000#32, -20⟩], ext := 500 }

/-- Set 7 of the worked sequence. -/
def set7 : RatingSet :=
  { id := 7, points := set6.points ++ [⟨2200, 21500⟩], shifts := set6.shifts ++ [⟨775000000#32, 15⟩], ext := 500 }

/-- spec/04, worked discharges: the six rows with a stage. -/
theorem test_worked_discharges :
    set7.rate 780 769000000#32 = (2223, noRatingFlags) ∧ set7.rate 1445 772000000#32 = (8000, noRatingFlags) ∧
      set7.rate 1445 776000000#32 = (8560, noRatingFlags) ∧
      set7.rate 250 776000000#32 = (0, { noRatingFlags with below := true }) ∧
      set7.rate 2400 776000000#32 = (25278, { noRatingFlags with extrapolated := true }) ∧
      set7.rate 2800 776000000#32 = (30286, { noRatingFlags with beyond := true }) := by decide +kernel

/-- spec/04, the inverse: the four rows on set 7, and the two on a set that begins with a flat segment. -/
theorem test_worked_inverses :
    [8598, 850, 21500, 25000].map set7.inverse = [some 1462, some 600, some 2200, none] ∧
      [0, 400].map (RatingSet.inverse ⟨1, [⟨300, 0⟩, ⟨350, 0⟩, ⟨600, 850⟩], [], 0⟩) = [some 300, some 468] := by
  decide +kernel

/-- A part with set 6 ACTIVE and a draft of port T. -/
def editing (d : RatingSet) : State := { up with rating := ⟨some set6, .editing .t { d with id := 0 }, none⟩ }

/-- spec/04, worked sequence: first index 6 would leave index 5 empty. -/
theorem test_put_points_gap :
    got (exec (.draftPutPoints .t (6#8 :: (sle16 2200 ++ le32 21500))) (editing set6))
      (replied .t .badArgument []) = true := by decide +kernel

/-- spec/04, worked sequence: first index 5 extends the list to 6 points, with 1 shift. -/
theorem test_put_points_extends :
    got (exec (.draftPutPoints .t (5#8 :: (sle16 2200 ++ le32 21500))) (editing set6))
      (replied .t .ok [6#8, 1#8]) = true := by decide +kernel

/-- spec/04, worked sequence: the mistyped date fails the check, kind 2 at index 2. -/
theorem test_activate_check_fails :
    got (exec (.draftActivate .t []) (editing { set7 with shifts := set7.shifts ++ [⟨774000000#32, 10⟩] }))
      (replied .t .checkFailed [2#8, 2#8]) = true := by decide +kernel

/-- spec/04, worked sequence: an entry of time 0 and shift 0 at index 2 removes the highest one. -/
theorem test_put_shift_removes :
    got (exec (.draftPutShift .t (2#8 :: (le32 0 ++ le16 0)))
        (editing { set7 with shifts := set7.shifts ++ [⟨774000000#32, 10⟩] }))
      (fun t => replied .t .ok [6#8, 2#8] t && decide (t.rating.draft = .editing .t { set7 with id := 0 })) = true := by
  decide +kernel

/-- spec/04, worked sequence: the draft that passes is given id 7 and its reply is held. -/
theorem test_activate_assigns_id :
    got (exec (.draftActivate .t []) (editing set7)) (fun t =>
      decide (t.rating.draft = .activating .t) && decide ((t.rating.inFlight.map fun f => f.set.id) = some 7) &&
        decide ((t.port .t).request = some 0x27#8) && decide ((t.port .t).reply = none)) = true := by decide +kernel

/-- R165: the longest reply payload, GET_RATING with eight shift entries and thirty points, is 239 bytes. -/
theorem test_longest_reply :
    (SlotView.payload ⟨4, 0, ⟨1, List.replicate 64 ⟨0, 0⟩, List.replicate 8 ⟨0#32, 0⟩, 0⟩⟩ 0 0).length = 239 := by
  decide +kernel

/-! ### Flood warning (spec/05, worked sequences) -/

/-- The configuration of the worked flood. -/
def floodConfig : LiveConfig :=
  let set (c : LiveConfig) (x : Item × Int) := c.set x.1 x.2
  [(Item.stageEnter .watch, 1800), (.rateEnter .watch, 300), (.rateFloor .watch, 1200),
   (.stageEnter .warning, 2400), (.rateEnter .warning, 600), (.rateFloor .warning, 1800),
   (.stageEnter .danger, 3000), (.hyst .danger, 150), (.rateEnter .danger, 1200),
   (.rateFloor .danger, 2600)].foldl set openConfig

/-- A part in the worked flood at a level. -/
def flood (level : Level) (since : Option Nat) (siren : Siren) : State :=
  { up with
    cfg := floodConfig
    warn := { WarningUnit.fresh with
      level := level, clearSince := since, siren := siren, items := floodConfig.warnItems
      sirenStart := if siren = .sounding then some 44160 else none } }

/-- A sample record at an uptime with a stage and a rate. -/
def sampleAt (uptime : Nat) (stage rate : Option Int) : StageSample :=
  { time := 775000000#32, uptime := uptime, stage := stage, source := .float, floatStage := stage.getD 0,
    floatQuality := .good, pressStage := 0, pressQuality := .noSignal, rate := rate, extra := false,
    disagree := false, unset := false }

/-- spec/05, a flood: at 44,160 the rate alone raises the level to DANGER, and the siren sounds. -/
theorem test_level_rises_to_danger :
    let t := (flood .warning none .off).evaluate (sampleAt 44160 (some 2650) (some 1300))
    t.warn.level = .danger ∧ t.warn.siren = .sounding ∧ t.warn.sirenStart = some 44160 ∧
      kinds .t t = [.levelChanged] := by decide +kernel

/-- spec/05, a flood: at 52,500 the hold has run 1,740 s, at 52,560 its 1,800 s. -/
theorem test_level_falls_after_the_hold :
    ((flood .danger (some 50760) .silenced).evaluate (sampleAt 52500 (some 2610) (some (-510)))).warn.level = .danger ∧
      ((flood .danger (some 50760) .silenced).evaluate (sampleAt 52560 (some 2605) (some (-500)))).warn.level = .warning := by
  decide +kernel

/-- spec/05, a flood: ACK_SIREN from port L silences the siren and raises SIREN_ACKED. -/
theorem test_ack_siren :
    got (exec (.ackSiren .l []) (flood .danger none .sounding)) (fun t =>
      replied .l .ok [2#8] t && decide (t.warn.siren = .silenced) && decide (kinds .c t = [.sirenAcked])) = true := by
  decide +kernel

/-- spec/05, a flood: unacknowledged, the siren timer expires 600 s after 44,160, at 44,760. -/
theorem test_siren_timer :
    got (exec .sirenTimerExpiry { flood .danger none .sounding with uptime := 44759 })
        (fun t => decide (t.warn.siren = .sounding)) = true ∧
      got (exec .sirenTimerExpiry { flood .danger none .sounding with uptime := 44760 })
        (fun t => decide (t.warn.siren = .silenced) && decide (kinds .l t = [.sirenTimedOut])) = true := by
  decide +kernel

/-- spec/05, the stage lost: the third sample without a stage sets FAULT and clears the hold. -/
theorem test_stage_lost :
    let s := flood .warning none .off
    let t := ({ s with warn := { s.warn with stageLost := 2 } }).evaluate (sampleAt 60780 none none)
    t.warn.fault = true ∧ t.warn.level = .warning ∧ kinds .l t = [.stageLost] := by decide +kernel

/-! ### Meter and section discharge (spec/07, worked capture and worked gauging) -/

/-- The meter of the worked examples, with the bounds and mask of the worked sequence of spec/06. -/
def meterDesc : RunDescription :=
  { tag := List.replicate 8 0x41#8, cpr := 1, a1 := 260000, b1 := 20, nBreak := 800, a2 := 248000, b2 := 30,
    coef := 850, initial := 1000, farBank := 18000, linkSilent := true, sourceSwitch := true }

/-- A capture stopped with k contacts over Δ ticks. -/
def captured (k delta : Nat) : MeterCapture := ⟨false, k, some 0#32, some (BitVec.ofNat 32 delta), none⟩

/-- spec/07, worked capture: the six closures across the counter's wrap, and the point result. -/
theorem test_capture_across_the_wrap :
    let m := [4294540000, 4294540120, 4294900000, 4294967290, 100, 290000].foldl
      (fun (m : MeterCapture) n => m.closure (BitVec.ofNat 32 n)) MeterCapture.started
    m.k = 4 ∧ m.delta = 717296 ∧
      pointResult meterDesc .p8 m = ⟨.p8, 4, 717296, 418, 129, false, false⟩ := by decide +kernel

/-- spec/07, the rate and velocity rules at their limits: the six rows. -/
theorem test_velocity_limits :
    (pointResult meterDesc .p6 (captured 1 0) = ⟨.p6, 1, 0, 0, 0, true, false⟩) ∧
      (pointResult meterDesc .p6 (captured 0 0) = ⟨.p6, 0, 0, 0, 0, true, false⟩) ∧
      (pointResult { meterDesc with b1 := -30 } .p6 (captured 2 1000000) = ⟨.p6, 2, 1000000, 100, 0, false, true⟩) ∧
      (pointResult meterDesc .p6 (captured 9 1000000) = ⟨.p6, 9, 1000000, 800, 228, false, false⟩) ∧
      (pointResult meterDesc .p6 (captured 9 1001000) = ⟨.p6, 9, 1001000, 799, 228, false, false⟩) ∧
      (pointResult meterDesc .p6 (captured 201 200000) = ⟨.p6, 201, 200000, 65535, 8000, false, true⟩) := by
  decide +kernel

/-- The five verticals of the worked gauging: station, depth, mean velocity. -/
def workedTable (n : Nat) : List Vertical :=
  ([(2000, 0, 0), (6000, 1200, 650), (10000, 1800, 631), (14000, 1000, 267), (17000, 0, 0)].take n).foldl
    (fun t x => enterVertical t { station := x.1, depth := x.2.1, method := .edge, cosine := 0, points := [],
                                  v := x.2.2, w2 := 0, q := 0, a := 0, supersedes := false }) []

/-- spec/07, the table as it grows: the totals after each vertical. -/
theorem test_table_grows :
    [1, 2, 3, 4, 5].map (fun n => (sumQ (workedTable n), sumA (workedTable n))) =
      [(0, 0), (1560, 240), (5392, 840), (8197, 1400), (8598, 1550)] := by decide +kernel

/-- A run OPEN on port C in the worked gauging with its first n verticals. -/
def gauging (n : Nat) : Run :=
  { up.newRun meterDesc with
    id := 23, table := workedTable n, totalQ := sumQ (workedTable n), totalA := sumA (workedTable n) }

/-- A part with a run. -/
def withRun (r : Run) : State := { up with run := some r, newestRunId := r.id }

/-- The vertical at 14,000 measured again: 0.6 with k 45 over 3,900,000 ticks, cosine 940. -/
def again14000 : OpenVertical :=
  ⟨14000, 1100, .onePoint, 940, [pointResult meterDesc .p6 (captured 45 3900000)]⟩

/-- spec/07, replacing the vertical at 14,000: mean velocity 291, q 1120, a 385, SUPERSEDES, totals 8783 and 1585. -/
theorem test_vertical_end_replaces :
    got (exec (.verticalEnd .c []) (withRun { gauging 5 with openVertical := some again14000 }))
      (replied .c .ok (le16 291 ++ le32 1120 ++ le32 385 ++ [5#8, 1#8] ++ le32 8783 ++ le32 1585)) = true := by
  decide +kernel

/-- spec/07, the vertical at 10,000: the mean of its two points is 631. -/
theorem test_vertical_end_two_point :
    got (exec (.verticalEnd .c []) (withRun { gauging 2 with openVertical := some ⟨10000, 1800, .twoPoint, 0,
        [pointResult meterDesc .p2 (captured 121 3960000), pointResult meterDesc .p8 (captured 73 3960000)]⟩ }))
      (replied .c .ok (le16 631 ++ le32 2272 ++ le32 360 ++ [3#8, 0#8] ++ le32 5392 ++ le32 840)) = true := by
  decide +kernel

/-- The run of the worked gauging before its close. -/
def beforeClose : State :=
  { withRun { gauging 5 with stageSum := 35040, stageCount := 24, stageLeast := 1451, stageGreatest := 1468 } with
    backup := { up.backup with clock := 769412400#32 }
    rating := ⟨some set6, .empty, none⟩ }

/-- spec/07, the close: every quantity of its table. -/
theorem test_close_computation :
    let c := (gauging 5).closeComputation beforeClose .complete
    let d := { gauging 5 with stageSum := 35040, stageCount := 24, stageLeast := 1451, stageGreatest := 1468
               }.closeComputation beforeClose .complete
    c.meanVelocity = some 555 ∧ d.meanStage = 1460 ∧ d.unsteady = false ∧ d.concentrated = true ∧
      d.rated = some (8560, noRatingFlags) ∧ d.deviation = some 4 ∧ d.shift = some 2 ∧ d.ratingId = some 6 := by
  decide +kernel

/-- R101: RUN_CLOSE holds its reply and hands the trailer. -/
theorem test_run_close_holds_its_reply :
    got (exec (.runClose .c []) beforeClose) (fun t =>
      decide ((t.port .c).request = some 0x46#8) && decide ((t.port .c).reply = none) &&
        decide (t.store.journalQueue.length = 1) && decide ((t.run.map Run.state) = some .closing)) = true := by
  decide +kernel

/-- R135: a comparison entry is 38 bytes. -/
theorem test_comparison_entry_length : ((gauging 5).closeComputation beforeClose .complete).bytes.length = 38 := by
  decide +kernel

/-! ### Runs (spec/06, worked sequence) -/

/-- RUN_OPEN's payload in the worked sequence: coefficient 0, bounds 1000 to 18,000, mask both. -/
def openRunPayload : List Byte := { meterDesc with coef := 0 }.bytes

/-- spec/06, a run parked and resumed: run 41 opens, with coefficient 850 from the configuration. -/
theorem test_run_open :
    got (exec (.runOpen .c openRunPayload) { up with newestRunId := 40 }) (fun t =>
      replied .c .ok (le16 41 ++ le16 0 ++ [0#8] ++ le16 0 ++ [0#8]) t &&
        decide (t.run.map (fun r => r.desc.coef) = some 850) && decide (t.store.journalQueue.length = 1)) = true := by
  decide +kernel

/-- spec/06, a run parked and resumed: RUN_RESUME at 52,590 after a park at 44,160 reports 8,430 s, 2 verticals. -/
theorem test_run_resume :
    got (exec (.runResume .c []) { withRun ((gauging 2).parked .level 44160) with uptime := 52590 }) (fun t =>
      replied .c .ok (le32 8430 ++ [2#8]) t && decide (kinds .t t = [.runResumed])) = true := by decide +kernel

/-- spec/06, a run parked and resumed: RUN_RESUME at DANGER with run_limit WARNING is refused LOCKOUT. -/
theorem test_run_resume_lockout :
    got (exec (.runResume .c [])
        { withRun ((gauging 2).parked .level 44160) with warn := { up.warn with level := .danger } })
      (replied .c .lockout []) = true := by decide +kernel

/-- R96, R97: a POINT_START of 10 s is taken as 20 s, CLAMPED, and replies with the duration used and the tick. -/
theorem test_point_start_clamped :
    got (exec (.pointStart .c [3#8, 10#8])
        (withRun { gauging 2 with openVertical := some ⟨10000, 1800, .twoPoint, 0, []⟩ }))
      (replied .c .clamped ([20#8] ++ le16 5000)) = true := by decide +kernel

/-- R95: VERTICAL_BEGIN at 14,000 when it is in the table replies so, with the count. -/
theorem test_vertical_begin_in_table :
    got (exec (.verticalBegin .c (le32 14000 ++ le16 1100 ++ [0#8] ++ le16 940)) (withRun (gauging 5)))
      (replied .c .ok [1#8, 5#8]) = true := by decide +kernel

/-- spec/09, a break during an observation: PARKED with reason 2, RUN_PARKED and RECALL in port C's emptied set. -/
theorem test_break_parks_the_run :
    got (exec .portCBreak { withRun { gauging 2 with state := .observing, obs := some ⟨.p8, 40, 0#32⟩ } with
        ports := { up.ports with c := { PortState.fresh with events := [⟨.pointDone, 0#32, 3⟩] } } }) (fun t =>
      decide (t.run.map Run.parkReason = some (some .linkReset)) && decide (kinds .c t = [.runParked, .recall]) &&
        decide (kinds .l t = [.runParked])) = true := by decide +kernel

/-! ### The record memory (spec/08) -/

/-- spec/08, erase-ahead under a flood cadence: blocks 500 to 504 as they stand when 501 has been taken into use. -/
def wrappedLog : State :=
  let flash : Flash :=
    [(500 * 256, .header .log false 9 1250920#32), (501 * 256, .header .log false 10 1251175#32),
     (502 * 256, .header .log false 1 1000000#32), (503 * 256, .header .log false 2 1000255#32),
     (504 * 256, .header .log false 3 1000510#32)]
  { up with
    store := { Store.fresh flash with
      firstSeq := 1000000#32, nextSeq := 1251176#32, logCur := some ⟨501, 2, 0, false⟩
      erases := [⟨502, .logAhead⟩] }
    ports := { l := { PortState.fresh with cursor := 1251170#32 }
               t := { PortState.fresh with cursor := 1000100#32 }
               c := { PortState.fresh with cursor := 1000300#32 } } }

/-- spec/08, erase-ahead under a flood cadence: the erase of 502 starts. -/
theorem test_erase_ahead_drags_cursors :
    got (exec .eraseAheadStart wrappedLog) (fun t =>
      decide (t.store.firstSeq = 1000255#32) && decide ((t.port .t).cursor = 1000255#32) &&
        decide ((t.port .t).lost = 155) && decide (kinds .t t = [.logLost]) &&
        decide ((t.port .c).cursor = 1000300#32) && decide (kinds .c t = []) &&
        decide (t.store.flash.headerOf 502 = .erased)) = true := by decide +kernel

/-- R141: a log record is 32 bytes with its CRC. -/
theorem test_record_length : (LogRecord.mk 5#32 0 (.mark 1#32 2#32 true .danger)).bytes.length = 32 := by
  decide +kernel

/-- R147: an erase gives way to a read when it has run 5 ms, 500 ticks. -/
theorem test_erase_gives_way :
    let s (n : Nat) : State := { up with store := { up.store with
      channel := .erasing ⟨⟨502, .logAhead⟩, [], n, n, false, []⟩, reads := [⟨.t, true, .readLog 7⟩] } }
    (s 499).suspendDue = false ∧ (s 500).suspendDue = true := by decide +kernel

/-- The journal of run 23, with a header, an edge vertical and the trailer of the worked gauging. -/
def journal23 : Store :=
  let trailer := (gauging 5).closeComputation beforeClose .complete
  let edge : Vertical := (workedTable 1).headD ⟨0, 0, .edge, 0, [], 0, 0, 0, 0, false⟩
  let header : RunHeader := ⟨23, 769400000#32, meterDesc, some 1452⟩
  Store.fresh
    [(6 * 256, .header .journal false 1 0#32), (6 * 256 + 1, .entry (.header header) 0),
     (6 * 256 + 2, .entry (.header header) 1), (6 * 256 + 3, .entry (.vertical 23 edge) 0),
     (6 * 256 + 4, .garbled), (6 * 256 + 5, .entry (.vertical 23 edge) 1),
     (6 * 256 + 6, .entry (.vertical 23 edge) 2), (6 * 256 + 7, .entry (.trailer trailer) 0),
     (6 * 256 + 8, .entry (.trailer trailer) 1)]

/-- spec/08, reading a run's journal: part 1 is a vertical with more to come, the last part the trailer, and a part
beyond the last is BAD_ARGUMENT. The head of the payload is the run id, the part, the kind and "more". -/
theorem test_read_journal_parts :
    ((journal23.journalAnswer 23 1).payload.take 5 = [23#8, 0#8, 1#8, 1#8, 1#8]) ∧
      ((journal23.journalAnswer 23 2).payload.take 5 = [23#8, 0#8, 2#8, 3#8, 0#8]) ∧
      ((journal23.journalAnswer 23 3).status = .badArgument) := by decide +kernel

/-- spec/05, worked restart in DANGER: READY finds the newest record at DANGER, and the siren sounds. -/
theorem test_restart_in_danger :
    let c : ComposedSample := ⟨sampleAt 0 (some 3100) none, none, noRatingFlags, 0, .danger, false⟩
    let flash : Flash := [(38 * 256, .header .log false 1 0#32), (38 * 256 + 1, .record ⟨0#32, 0, .sample c⟩)]
    let s : State := { State.reset with store := .fresh flash, uptime := 4 }
    got (exec (.readyEntry []) s) (fun t =>
      decide (t.warn.level = .danger) && decide (t.warn.siren = .sounding) && decide (t.warn.sirenStart = some 4) &&
        decide (t.backup.clock = 775000001#32) && decide (kinds .t t = [.stationRestarted]) &&
        decide (t.floatCh.refStage = 3100) && t.beacon && t.sirenOut && t.warnOut) = true := by decide +kernel

/-! ### Links and events (spec/09, spec/10) -/

/-- spec/09, check values: the nine ASCII characters, and the GET_TIME request frame. -/
theorem test_crc_check_values :
    crc16 [0x31#8, 0x32#8, 0x33#8, 0x34#8, 0x35#8, 0x36#8, 0x37#8, 0x38#8, 0x39#8] = 0x29B1#16 ∧
      requestFrame 0x02#8 [] = [0x02#8, 0x00#8, 0x6D#8, 0x7B#8] := by decide +kernel

/-- spec/09, an overrun on port L: a request in service, dropped requests flagged 0x1A. -/
def inService : State :=
  { up with ports := { up.ports with l := { PortState.fresh with request := some 0x50#8 } } }

/-- spec/09, an overrun on port L: GET_TIME finds the slot busy, and the next FETCH sends the flags 0x1A. -/
theorem test_overrun_flags :
    inService.portFlags .l = 0x02#8 ∧
      got (exec (.getTime .l []) inService) (fun t =>
        decide (t.portFlags .l = 0x1A#8) && decide (kinds .l t = [.requestOverrun]) &&
          decide (kinds .t t = [])) = true := by decide +kernel

/-- spec/09, an overrun on port L: a FETCH of one more byte sends FF and the flags, and clears OVERRUN. -/
theorem test_fetch_reports_the_flags :
    got (exec (.fetch .l 1) (nextOr up (exec (.getTime .l []) inService))) (fun t =>
      decide ((t.port .l).sent = [0xFF#8, 0x1A#8]) && decide (t.portFlags .l = 0x12#8)) = true := by decide +kernel

/-- spec/10, a fetch after a busy quarter hour: the set of port T, times in seconds after 14:00. -/
def busySet : List EventEntry :=
  [⟨.floatSuspect, 60#32, 1⟩, ⟨.sourceSwitched, 120#32, 3⟩, ⟨.levelChanged, 120#32, 2⟩, ⟨.pointDone, 220#32, 1⟩,
   ⟨.sourcesDisagree, 240#32, 1⟩, ⟨.runParked, 300#32, 1⟩, ⟨.logLost, 330#32, 1⟩, ⟨.configSaved, 360#32, 1⟩,
   ⟨.clockStepped, 420#32, 1⟩]

/-- spec/10, a fetch after a busy quarter hour: the eight returned, in order, and the one left. -/
theorem test_fetch_order :
    (fetched busySet).map EventEntry.kind =
        [.levelChanged, .pointDone, .runParked, .floatSuspect, .sourceSwitched, .sourcesDisagree, .logLost,
          .configSaved] ∧
      unfetched busySet = [⟨.clockStepped, 420#32, 1⟩] := by decide +kernel

/-- spec/10, a fetch after a busy quarter hour: with STAGE disabled six entries are left. -/
theorem test_set_event_groups :
    got (exec (.setEventGroups .t [0x1B#8])
        { up with ports := { up.ports with t := { PortState.fresh with events := busySet } } })
      (fun t => replied .t .ok [0x1B#8, 6#8] t && decide ((t.port .t).events.length = 6)) = true := by decide +kernel

/-! ### Configuration (spec/11) -/

/-- R24: an interval of 850 s is stored as 600, CLAMPED. -/
theorem test_interval_is_a_member :
    got (exec (.setConfig .l (0x10#8 :: le32 850)) up)
      (fun t => replied .l .clamped (0x10#8 :: le32 600) t && decide (t.cfg.get (.interval .normal) = 600)) = true := by
  decide +kernel

/-- R186: GET_CONFIG of the interval at NORMAL: value, least, greatest and default. -/
theorem test_get_config :
    got (exec (.getConfig .l [0x10#8]) up)
      (replied .l .ok (0x10#8 :: (le32 900 ++ le32 10 ++ le32 3600 ++ le32 900))) = true := by decide +kernel

/-- R179: a port may not take ADMIN from itself. -/
theorem test_set_permissions_keeps_admin :
    got (exec (.setPermissions .l [1#8, 0x3F#8] true) up) (replied .l .badArgument []) = true := by decide +kernel

/-- R154, R189: STORE_STATUS's 24 bytes and GET_IDENT's 23. -/
theorem test_status_lengths : (up.storePayload .l).length = 24 ∧ up.identPayload.length = 23 := by decide +kernel

/-! ### Witnesses: each statement with hypotheses has a concrete state that meets them, clause by clause -/

/-- A part that is off. -/
def off : State := { State.reset with phase := .off }

/-- A part whose program has reached its bound. -/
def atBound : State :=
  { up with store := { up.store with channel := .programming ⟨9728, .garbled, none, .save⟩ 200 } }

theorem witness_EmptyQueueRunsWhatIsDue :
    (({ up with sched := ⟨775000000#32, none, none⟩ }).pending = [] ∧
      ({ up with sched := ⟨775000000#32, none, none⟩ }).dueEvent = some .scheduledSample) ∧
    (atBound.pending = [] ∧ atBound.dueEvent = none ∧ atBound.timeBlocked = true) ∧
    (off.pending = [] ∧ off.dueEvent = none ∧ off.timeBlocked = false ∧ off.phase = .off) ∧
    (up.pending = [] ∧ up.dueEvent = none ∧ up.timeBlocked = false ∧ up.phase ≠ .off) := by decide +kernel

/-! #### The invariants: a state that is not bare meets each, and a step from it goes on -/

theorem witness_FlashArrayStaysCanonical :
    wrappedLog.store.flash.wf = true ∧
      got (step { wrappedLog with pending := [.eraseAheadStart] }) (fun t => t.store.flash.wf) = true := by
  decide +kernel

theorem witness_VerticalTableStaysConsistent :
    let s : State := { withRun { gauging 5 with openVertical := some again14000 } with pending := [.verticalEnd .c []] }
    s.tableHolds = true ∧ got (step s) (fun t => t.tableHolds) = true := by decide +kernel

theorem witness_PendingSetsStayWellFormed :
    let s : State := { up with ports := { up.ports with t := { PortState.fresh with events := busySet } }
                               pending := [.fetchEvents .t []] }
    s.eventsHold = true ∧ got (step s) (fun t => t.eventsHold) = true := by decide +kernel

theorem witness_SirenStaysWithinItsLevel :
    let s : State := { flood .danger none .sounding with pending := [.ackSiren .l []] }
    s.sirenHolds = true ∧ got (step s) (fun t => t.sirenHolds) = true := by decide +kernel

/-- A run OPEN at WATCH with run_limit about to be lowered to NORMAL. -/
def limitLowered : State :=
  { withRun (gauging 2) with
    warn := { up.warn with level := .watch }
    pending := [.setConfig .l (le8 Item.runLimit.row.code ++ le32 0)] }

theorem witness_NoActiveRunAboveRunLimit :
    limitLowered.lockoutHolds = true ∧ got (step limitLowered) (fun t => t.lockoutHolds) = true := by decide +kernel

theorem witness_BufferAndJournalQueueStayInBounds :
    let s : State := { afterOutage with pending := [.setTime .t (le32 775013415)] }
    s.queuesHold = true ∧
      got (step s) (fun t => t.queuesHold && decide (t.store.buffer.length = 1)) = true := by decide +kernel

theorem witness_DraftSlotMatchesActivationInFlight :
    let s : State := { editing set7 with pending := [.draftActivate .t []] }
    s.draftHolds = true ∧
      got (step s) (fun t => t.draftHolds && t.rating.activatingFor .t && t.rating.repliesTo .t) = true := by
  decide +kernel

theorem witness_ConfigurationAndRatingSetsStayValid :
    (let s : State := { up with pending := [.setConfig .l (0x10#8 :: le32 850)] }
     s.configHolds = true ∧ got (step s) (fun t => t.configHolds) = true) ∧
    (let s : State := { editing set7 with pending := [.draftActivate .t []] }
     s.ratingHolds = true ∧ got (step s) (fun t => t.ratingHolds) = true) := by decide +kernel

/-! #### The governing selector -/

/-- A part at whose station time a sample is due. -/
def sampleTime : State := { up with sched := ⟨775000000#32, none, some 990⟩ }

/-- What the channels hand over to a sample, and what its selector finds (the sample's end hangs on a free value). -/
def handedTo (s : State) : Handed := s.sampleLoad.sampleStall.handed

/-- The source a sample takes. -/
def sourceOf (s : State) : Source :=
  ((s.sampleLoad.sampleStall.sel.counted (handedTo s).floatQuality).choice (handedTo s)).1

/-- A part about to sample whose float reads a stage as GOOD and whose pressure reads one as GOOD. -/
def sensing (float press : Int) : State :=
  { sampleTime with
    floatCh := { FloatChannel.fresh with refStage := float, origin := .set }
    pressCh := { PressureChannel.fresh with newest := some ⟨2500000, 1000⟩ }
    cfg := openConfig.set .datum (press - 750) }

/-- The same part after AUTO has left the float, with a return count. -/
def away (count : Nat) : State :=
  { sensing 1500 1500 with sel := { Selector.fresh with current := some .pressure, away := true, returnCount := count } }

/-- The same part with a history of a float that stands still while the pressure stage moves by 51 mm. -/
def stalling (n : Nat) : State :=
  { sensing 1500 1551 with sel := { Selector.fresh with current := some .float, history := List.replicate n ⟨0#32, 1500, true⟩ } }

/-- The same part with a run OPEN, whose source changes from pressure to float. -/
def switching : State :=
  { sensing 1500 1500 with
    sel := { Selector.fresh with current := some .pressure }
    run := some (gauging 2), window := [⟨900, 1490⟩] }

/-- The same part with ranks, the newest at an uptime. -/
def ranked (n newest : Nat) : State :=
  { sensing 1500 1500 with
    sel := { Selector.fresh with current := some .float }
    window := (List.range n).map fun k => ⟨newest - 60 * (n - 1 - k), 1400⟩ }

theorem witness_GoverningSourceIsChosenAndSwitched :
    (let s := sensing 1500 1500
     s.phase = .ready ∧ s.backup.clock = s.sched.nextSample ∧ s.cfg.inRange = true ∧ sourceOf s = .float ∧
       handedTo s = ⟨1500, .good, 1500, .good⟩) ∧
    ((stalling 5).cfg.inRange = true ∧ (stalling 5).sampleLoad.sampleStall.floatCh.stallMark = true ∧
      (stalling 4).sampleLoad.sampleStall.floatCh.stallMark = false ∧ sourceOf (stalling 5) = .pressure) ∧
    ((away 2).cfg.inRange = true ∧ sourceOf (away 2) = .float ∧ sourceOf (away 1) = .pressure) ∧
    (sourceOf { sensing 1500 1500 with cfg := (sensing 1500 1500).cfg.set .sourceMode 1 } = .float ∧
      sourceOf { sensing 1500 1500 with cfg := (sensing 1500 1500).cfg.set .sourceMode 2 } = .pressure ∧
      sourceOf { jammed with cfg := jammed.cfg.set .sourceMode 1 } = .none ∧
      sourceOf { up with cfg := up.cfg.set .sourceMode 2 } = .none) ∧
    ((sensing 1500 1531).cfg.get .disagreeLimit = 30 ∧
      (({ Selector.fresh with disagreeCount := 2 }).judged (handedTo (sensing 1500 1531))).disagree = true ∧
      (({ Selector.fresh with disagreeCount := 1 }).judged (handedTo (sensing 1500 1531))).disagree = false ∧
      (({ Selector.fresh with disagreeCount := 2 }).judged (handedTo (sensing 1500 1530))).disagree = false) ∧
    ((switching.run.map Run.active) = some true ∧ (gauging 2).desc.sourceSwitch = true ∧
      switching.sel.current = some .pressure ∧ sourceOf switching = .float) ∧
    ((ranked 12 940).window.getLast? = some ⟨940, 1400⟩ ∧ 940 + 60 = (ranked 12 940).uptime ∧
      (ranked 12 940).window.length = 12 ∧ (ranked 12 941).window.getLast? = some ⟨941, 1400⟩ ∧
      windowRate (offerRank (ranked 12 940).window 1000 1500) 1800 660 = some 545 ∧
      windowRate (offerRank (ranked 12 940).window 1000 1500) 1800 661 = none) := by decide +kernel

/-! #### Requests at the port -/

/-- A part in STARTING. -/
def starting : State := State.reset

/-- A part in READY with the default families. -/
def byDefault : State := { up with cfg := defaultConfig }

/-- A part whose ports hold replies of two payload bytes. -/
def replying : State :=
  { up with ports := { up.ports with
      l := { PortState.fresh with reply := some ⟨.ok, 0x02#8, [1#8, 2#8], false⟩ }
      c := { PortState.fresh with reply := some ⟨.ok, 0x02#8, [1#8, 2#8], false⟩ } } }

/-- A part whose port C sends a reply, a number of ticks after the start byte began. -/
def sending (ticks : Nat) : State :=
  { up with
    lineC := { up.lineC with tx := some ⟨.ok, 0x02#8, [1#8, 2#8], false⟩, txTicks := ticks }
    ports := { up.ports with c := { PortState.fresh with sent := [0x7E#8], frameError := true, frameAgain := true } } }

/-- The same with a further reply in port C's slot. -/
def replyWaits (ticks : Nat) : State :=
  { sending ticks with ports := { (sending ticks).ports with c := { PortState.fresh with
    reply := some ⟨.ok, 0x10#8, [], false⟩, sent := [0x7E#8] } } }

theorem witness_PortJudgesEveryRequestFirst :
    (requestOf (.getTime .l []) = some ⟨.l, 0x02#8, []⟩ ∧ off.deaf .l = true) ∧
    (requestOf (.getTime .l tooLong) = some ⟨.l, 0x02#8, tooLong⟩ ∧ up.deaf .l = false ∧
      maxPayload < tooLong.length) ∧
    (inService.deaf .l = false ∧ (List.replicate 240 0x00#8).length ≤ maxPayload ∧ inService.slotBusy .l = true ∧
      0x02#8 ≠ linkResetCode) ∧
    (requestOf (.getStage .l []) = some ⟨.l, 0x10#8, []⟩ ∧ starting.deaf .l = false ∧ starting.slotBusy .l = false ∧
      starting.phase ≠ .ready) ∧
    (requestOf (.saveConfig .c []) = some ⟨.c, 0x62#8, []⟩ ∧ byDefault.deaf .c = false ∧
      byDefault.slotBusy .c = false ∧ codeClass 0x62 = .family .config ∧ byDefault.cfg.permits .c .config = false) ∧
    ((inService.lineServed .l).slotBusy .l = true ∧ (starting.lineServed .l).slotBusy .l = false ∧
      (byDefault.lineServed .c).slotBusy .c = false) ∧
    ((replyWaits 60).deaf .c = false ∧ ((replyWaits 60).lineServed .c).slotBusy .c = true ∧
      replying.deaf .c = false ∧ replying.slotBusy .c = true ∧ (replying.lineServed .c).slotBusy .c = false ∧
      ((replyWaits 469).lineServed .c).slotBusy .c = false) ∧
    (requestOf (.writeIdent .l [] true) = some ⟨.l, 0x64#8, []⟩) := by decide +kernel

theorem witness_WrongPayloadLengthIsBadArgument :
    (requestOf (.getTime .l [0#8]) = some ⟨.l, 0x02#8, [0#8]⟩ ∧ up.takes .l 0x02#8 [0#8] = true ∧
      payloadLengthFits 0x02#8 1 = false) ∧
    (up.takes .t 0x23#8 [0#8] = true ∧ payloadLengthFits 0x23#8 1 = false ∧ payloadLengthFits 0x23#8 127 = false ∧
      payloadLengthFits 0x23#8 7 = true ∧ payloadLengthFits 0x23#8 121 = true) := by decide +kernel

theorem witness_TakenRequestIsAnsweredOrInService :
    (requestOf (.getTime .l []) = some ⟨.l, 0x02#8, []⟩ ∧ up.takes .l 0x02#8 [] = true ∧
      got (exec (.getTime .l []) up) (fun t => decide ((t.port .l).request = none)) = true) ∧
    (requestOf (.readJournal .l [1#8, 0#8, 0#8]) = some ⟨.l, 0x53#8, [1#8, 0#8, 0#8]⟩ ∧
      up.takes .l 0x53#8 [1#8, 0#8, 0#8] = true ∧
      got (exec (.readJournal .l [1#8, 0#8, 0#8]) up) (fun t => decide ((t.port .l).request = some 0x53#8)) = true) := by
  decide +kernel

theorem witness_BadFramesChangeOnlyTheirPort :
    (up.deaf .l = false ∧ (BadFrame.firstByte 0x00#8 3).isDiscarded .l = true) ∧
    ((BadFrame.bytes [0x02#8, 0xF1#8]).isDiscarded .c = true ∧ (BadFrame.stopBit []).isDiscarded .c = true) ∧
    (up.deaf .c = false ∧ frameUnderWay [] = true ∧ frameUnderWay [0x02#8, 0x00#8, 0x6D#8] = true) ∧
    (inService.deaf .l = false ∧ tooLong.length = maxPayload + 1 ∧ (inService.lineServed .l).slotBusy .l = true ∧
      ((replyWaits 60).lineServed .c).slotBusy .c = true ∧ 0x02#8 ≠ linkResetCode) ∧
    ((up.lineServed .l).slotBusy .l = false ∧ (replying.lineServed .c).slotBusy .c = false ∧ codeClass (0x7F#8).toNat = .unknown ∧ codeClass (0x00#8).toNat = .unknown) := by
  decide +kernel

theorem witness_RaisingReachesEveryEnabledPort :
    let s : State := { up with ports := { up.ports with
      l := { PortState.fresh with enables := 0x1E#5 }
      t := { PortState.fresh with events := [⟨.levelChanged, 0#32, 255⟩, ⟨.sirenAcked, 0#32, 1⟩] } } }
    s.phase = .ready ∧ (s.port .l).eventsHold = true ∧ (s.port .t).eventsHold = true ∧
      (s.port .l).enables.getLsbD EventKind.levelChanged.group.bit = false ∧
      (s.port .t).enables.getLsbD EventKind.levelChanged.group.bit = true ∧
      (∃ e ∈ (s.port .t).events, e.kind = .levelChanged) ∧ (∀ e ∈ (s.port .c).events, e.kind ≠ .levelChanged) := by
  decide +kernel

/-! #### Links -/

theorem witness_FetchSendsFlagsOrReply :
    (up.running = true ∧ Port.l ≠ .c ∧ (up.port .l).reply = none) ∧
    (replying.running = true ∧ (replying.port .l).reply = some ⟨.ok, 0x02#8, [1#8, 2#8], false⟩ ∧
      (replyFrame (replying.portFlags .l) ⟨.ok, 0x02#8, [1#8, 2#8], false⟩).length ≤ 8 ∧
      7 < (replyFrame (replying.portFlags .l) ⟨.ok, 0x02#8, [1#8, 2#8], false⟩).length) := by decide +kernel

theorem witness_FramesAreBuiltAndReceivedWhole :
    (List.replicate 240 0x00#8).length ≤ maxPayload ∧ ([] : List Byte).length ≤ maxPayload := by decide +kernel

/-- At the default divider a character takes 52.08 ticks: one 53, two 105, nine 469 (R172). -/
theorem witness_PortCTransmitsAndLoadsItsDivider :
    (replying.running = true ∧ replying.lineC.tx = none ∧ replying.lineC.charLeft = 0 ∧
      replying.ports.c.reply = some ⟨.ok, 0x02#8, [1#8, 2#8], false⟩) ∧
    ((sending 52).lineC.charTicks 1 = 53 ∧ (sending 52).lineC.charTicks 2 = 105 ∧
      ∀ n ∈ [52, 53, 104], (sending n).pending = [] ∧ (sending n).dueEvent = none ∧
        (sending n).timeBlocked = false ∧ (sending n).phase ≠ .off ∧
        (sending n).lineC.tx = some ⟨.ok, 0x02#8, [1#8, 2#8], false⟩) ∧
    ((sending 469).lineC.charTicks 9 = 469 ∧ ¬(sending 469).lineC.txTicks < 469 ∧
      (sending 468).lineC.txTicks < 469) ∧
    ((replyWaits 469).running = true ∧ (replyWaits 469).lineC.charTicks (2 + 7) ≤ (replyWaits 469).lineC.txTicks ∧
      (replyWaits 469).ports.c.reply = some ⟨.ok, 0x10#8, [], false⟩) ∧
    ((replyWaits 468).lineC.txTicks < (replyWaits 468).lineC.charTicks (2 + 7)) ∧
    (let s : State := { up with lineC := { up.lineC with charLeft := 1 } }
     s.lineC.tx = none ∧ s.lineC.charLeft ≠ 0 ∧ s.pending = [] ∧ s.dueEvent = none ∧ s.timeBlocked = false ∧
       s.phase ≠ .off) ∧
    (up.running = true ∧ up.ports.c.rx = [] ∧ up.lineC.tx = none ∧ up.lineC.charLeft = 0 ∧ up.ports.c.reply = none) ∧
    replying.lineIdle = false := by decide +kernel

/-- R174: a reply that finds the line free is sent at once, so a request that follows is taken and answered, and only one
whose reply waits for the line is dropped. -/
theorem test_reply_takes_the_free_line :
    got (exec (.getTime .c []) replying) (fun t => !t.ports.c.overrun && t.lineC.tx.isSome &&
        decide (t.ports.c.reply.map Reply.echo = some 0x02#8)) = true ∧
      got (exec (.getTime .c []) (replyWaits 60)) (fun t => t.ports.c.overrun &&
        decide (t.ports.c.reply.map Reply.echo = some 0x10#8)) = true := by decide +kernel

/-- R175: a break at tick 60 leaves the second character, which ends at tick 105, on the line for 45 ticks, and a reply made
meanwhile waits for it. -/
theorem test_cut_character_keeps_the_line :
    got (exec .portCBreak (sending 60)) (fun t => decide (t.lineC.charLeft = 45)) = true ∧
      got (exec .replyTransmitStart { replying with lineC := { replying.lineC with charLeft := 1 } })
        (fun t => t.lineC.tx.isNone) = true ∧
      got (exec .replyTransmitStart { replying with lineC := { replying.lineC with charLeft := 0 } })
        (fun t => t.lineC.tx.isSome) = true := by decide +kernel

/-- R167, R174: the frame is formed with the flags of the moment the flags byte begins, one character after the start
byte, and the flags clear one character later. -/
theorem test_flags_of_the_moment :
    got (step (sending 52)) (fun t => decide (t.ports.c.sent = 0x7E#8 :: replyFrame ((sending 52).portFlags .c)
        ⟨.ok, 0x02#8, [1#8, 2#8], false⟩) && t.ports.c.frameError) = true ∧
      got (step { sending 104 with ports := { up.ports with c := { PortState.fresh with frameError := true } } })
        (fun t => !t.ports.c.frameError) = true := by decide +kernel

/-- R175, R177: a break stops the reply after the character on the line, here the second. -/
theorem test_break_cuts_the_reply :
    got (exec .portCBreak (nextOr up (step (sending 52)))) (fun t =>
      decide (t.ports.c.sent.length = 2) && decide (t.lineC.tx = none)) = true := by decide +kernel

/-- R170: a SEND transaction on an SPI port returns 0xFF for each byte, here SEND, the code, the length and the CRC. -/
theorem test_send_returns_ff :
    got (exec (.getTime .l []) up) (fun t => decide ((t.port .l).sent = List.replicate 5 0xFF#8)) = true := by
  decide +kernel

theorem witness_PortResetClearsItsPortAlone :
    (up.phase = .ready ∧ up.deaf .l = false ∧ inService.deaf .l = false ∧ inService.slotBusy .l = true ∧
      up.deaf .c = false) ∧
    ((editing set7).deaf .t = false ∧ (editing set7).rating.draft = .editing .t { set7 with id := 0 } ∧
      (editing set7).deaf .l = false) ∧
    (let s : State := { up with rating := ⟨some set6, .activating .t, some ⟨set7, none, some .t, some .t⟩⟩ }
     s.deaf .t = false ∧ s.rating.inFlight = some ⟨set7, none, some .t, some .t⟩) ∧
    ((withRun (gauging 2)).deaf .c = false ∧ (withRun (gauging 2)).parksAtReset .c = true ∧
      (withRun (gauging 2)).parksAtReset .t = false ∧
      (withRun { gauging 2 with state := .closing }).parksAtReset .c = false) ∧
    ((withRun (gauging 2)).running = true ∧ (withRun (gauging 2)).lineC.low = false ∧ (sending 60).running = true ∧
      (sending 60).lineC.low = false ∧ (sending 60).lineC.charsBegun = 2 ∧
      ((replyWaits 60).lineServed .c).lineC.txTicks = 60 ∧ ((replyWaits 469).lineServed .c).lineC.txTicks = 0 ∧
      (replying.lineServed .c).lineC.tx ≠ none) ∧
    (let s : State := { up with resetReq := some ⟨.t, 5, false⟩ }
     s.phase = .ready ∧ s.deaf .t = false ∧ s.deaf .l = false) ∧
    (starting.running = true ∧ starting.phase ≠ .ready) ∧
    (off.running = false ∧ ({ up with lineC := { up.lineC with low := true } }).lineC.low = true) := by decide +kernel

theorem witness_EventsAreFetchedAndGroupsSet :
    (up.takes .t 0x06#8 [] = true ∧ kindsDiffer busySet = true) ∧
    (up.takes .t 0x07#8 [31#8] = true ∧ (31#8).toNat < 32 ∧ up.takes .t 0x07#8 [32#8] = true ∧ 32 ≤ (32#8).toNat) := by
  decide +kernel

/-! #### Requests that read -/

/-- A composed sample of the worked sequences. -/
def aSample : ComposedSample := ⟨sampleAt 900 (some 1452) none, some 8000, noRatingFlags, 6, .normal, false⟩

/-- A part with everything the reading requests look for. -/
def filled : State :=
  { withRun { gauging 5 with openVertical := some again14000 } with
    sel := { Selector.fresh with newest := some aSample, current := some .float }
    rating := ⟨some set6, .empty, none⟩
    gaugings := [(gauging 5).closeComputation beforeClose .complete] }

theorem witness_ReadsReplyAndChangeNothing :
    (up.takes .l 0x01#8 [] = true ∧ up.phase = .ready) ∧
    (({ starting with identRead := true }).takes .l 0x01#8 [] = true) ∧
    up.takes .l 0x02#8 [] = true ∧ (filled.takes .l 0x10#8 [] = true ∧ filled.sel.newest = some aSample) ∧
    (up.takes .l 0x10#8 [] = true ∧ up.sel.newest = none) ∧ up.takes .l 0x11#8 [] = true ∧
    up.takes .l 0x30#8 [] = true ∧ up.takes .c 0x49#8 [] = true ∧ up.takes .l 0x52#8 [] = true ∧
    (filled.takes .l 0x20#8 [0#8, 5#8] = true ∧ filled.takes .l 0x20#8 [0#8, 6#8] = true ∧
      filled.takes .l 0x20#8 [2#8, 0#8] = true) ∧
    (filled.takes .l 0x4A#8 [0xFF#8, 0xFF#8, 0xFF#8, 0xFF#8] = true ∧
      u32 0xFF#8 0xFF#8 0xFF#8 0xFF#8 = openStation ∧ filled.takes .l 0x4A#8 (le32 14000) = true) ∧
    (filled.takes .l 0x4B#8 [1#8] = true ∧ filled.takes .l 0x4B#8 [2#8] = true) ∧
    (up.takes .l 0x60#8 [0x10#8] = true ∧ up.takes .l 0x60#8 [0x00#8] = true) := by decide +kernel

theorem witness_QueryDischargeRatesAnyStageAndTime :
    (up.takes .l 0x21#8 [] = true ∧ ([] : List Byte).length ≠ 6) ∧
    (up.takes .l 0x21#8 (sle16 (-10000) ++ le32 0) = true ∧ sle16 (-10000) = [0xF0#8, 0xD8#8] ∧
      s16 0xF0#8 0xD8#8 < -9999) ∧
    (up.takes .l 0x21#8 (sle16 30000 ++ le32 0) = true ∧ sle16 30000 = [0x30#8, 0x75#8] ∧ 29999 < s16 0x30#8 0x75#8) ∧
    (up.takes .l 0x21#8 (sle16 (-9999) ++ le32 0) = true ∧ sle16 (-9999) = [0xF1#8, 0xD8#8] ∧
      -9999 ≤ s16 0xF1#8 0xD8#8 ∧ s16 0xF1#8 0xD8#8 ≤ 29999 ∧ up.rating.active = none) ∧
    (filled.takes .l 0x21#8 (sle16 29999 ++ le32 0) = true ∧ sle16 29999 = [0x2F#8, 0x75#8] ∧
      -9999 ≤ s16 0x2F#8 0x75#8 ∧ s16 0x2F#8 0x75#8 ≤ 29999 ∧ filled.rating.active = some set6) := by decide +kernel

/-! #### Stage sensors -/

theorem witness_EncoderCountsLegalTransitions :
    up.running = true ∧ up.floatCh.prevPair = none ∧ encoderAt.running = true ∧
      encoderAt.floatCh.prevPair = some (false, false) ∧
      (false ≠ true ∧ (false ≠ true ↔ false = false) ∧ (true = !false ∧ false = false)) ∧
      ((false ≠ false ↔ false = true) ∧ ¬(false = !false ∧ true = false)) ∧
      ((workedFloat 115160).unclamped = 30000 ∧ (workedFloat 115159).unclamped = 30000 ∧
        (workedFloat 115157).unclamped = 29999 ∧ (workedFloat 109160).unclamped = 28500 ∧
        (workedFloat 109157).unclamped = 28499 ∧ (workedFloat 109157).floatTop = 28500) ∧
      (({ workedFloat 1234 with phaseErrors := 8 }).quality = .suspect ∧
        ({ workedFloat 1234 with phaseErrors := 7 }).quality = .good ∧
        ({ workedFloat 1234 with stallMark := true }).quality = .stalled) := by decide +kernel

/-- A part with a pressure signal whose newest measurement completed at uptime 1000. -/
def signalled (now : Nat) : State :=
  { up with uptime := now, pressCh := { PressureChannel.fresh with signalSeen := true, newest := some ⟨2500000, 1000⟩ } }

theorem witness_MeasurementHoldsItsFrequency :
    (up.running = true ∧ (1 : Nat) ≤ 1 ∧ (16000000 : Nat) ≤ 16000000 ∧ (16000000 : Nat) < 16000001) ∧
    ((signalled 1003).running = true ∧ (signalled 1003).pressCh.signalSeen = true ∧
      (signalled 1003).pressCh.newest = some ⟨2500000, 1000⟩ ∧ 1000 + 2 < (signalled 1003).uptime) ∧
    up.pressCh.signalSeen = false ∧
    ((signalled 1002).pressCh.newest = some ⟨2500000, 1000⟩ ∧ (signalled 1002).uptime ≤ 1000 + 2) ∧
    ((signalled 1002).pressCh.quality 1002 = .good ∧ (signalled 1002).pressCh.quality 1003 = .noSignal) ∧
    (({ (signalled 1002).pressCh with newest := some ⟨400000, 1000⟩ }).quality 1002 = .good ∧
      ({ (signalled 1002).pressCh with newest := some ⟨399999, 1000⟩ }).quality 1002 = .outOfRange ∧
      ({ (signalled 1002).pressCh with newest := some ⟨6000001, 1000⟩ }).quality 1002 = .outOfRange) := by decide +kernel

theorem witness_SetReferenceTiesChannelsToTheStaff :
    (jammed.takes .l 0x12#8 [0xCE#8, 0x09#8, 3#8] = true ∧ s16 0xCE#8 0x09#8 = 2510 ∧
      jammed.floatCh.quality ≠ .outOfRange ∧ jammed.pressCh.quality jammed.uptime = .good ∧
      -100000 ≤ 2510 - jammed.pressCh.head ∧ 2510 - jammed.pressCh.head ≤ 100000) ∧
    (jammed.takes .l 0x12#8 [0x2F#8, 0x75#8, 1#8] = true ∧ s16 0x2F#8 0x75#8 = 29999 ∧
      (1#8).getLsbD 0 = true ∧ (1#8).getLsbD 1 = false) ∧
    (jammed.takes .l 0x12#8 [0xF1#8, 0xD8#8, 2#8] = true ∧ s16 0xF1#8 0xD8#8 = -9999 ∧
      (2#8).getLsbD 0 = false ∧ (2#8).getLsbD 1 = true) ∧
    (jammed.takes .l 0x12#8 [0xCE#8, 0x09#8, 0#8] = true ∧ jammed.takes .l 0x12#8 [0xCE#8, 0x09#8, 4#8] = true ∧
      jammed.takes .l 0x12#8 [0x30#8, 0x75#8, 1#8] = true ∧ s16 0x30#8 0x75#8 = 30000) ∧
    (let s : State := { jammed with floatCh := { jammed.floatCh with refStage := 40000 } }
     s.takes .l 0x12#8 [0xCE#8, 0x09#8, 1#8] = true ∧ s.floatCh.quality = .outOfRange) ∧
    (up.takes .l 0x12#8 [0xCE#8, 0x09#8, 2#8] = true ∧ up.floatCh.quality ≠ .outOfRange ∧
      up.pressCh.quality up.uptime ≠ .good) ∧
    (let s : State := { jammed with pressCh := { jammed.pressCh with gaugeFactor := 200000, zeroReading := 7000000,
                                                                     datum := -147490 } }
     s.takes .l 0x12#8 [0xCE#8, 0x09#8, 2#8] = true ∧ s.pressCh.quality s.uptime = .good ∧
       2510 - s.pressCh.head < -100000) := by decide +kernel

/-! #### Station time and samples -/

theorem witness_NextSampleIsTheSmallestLaterMultiple :
    ((1 : Nat) ≤ 900 ∧ (775000801 : Nat) < 775001700 ∧ (900 : Nat) ∣ 775001700 ∧ (775001700 : Nat) < 2 ^ 32) ∧
    (let s := { up with sched := ⟨775000800#32, none, none⟩ }
     nextSampleAfter (s.cfg.intervalOf .danger) s.backup.clock.toNat < s.sched.nextSample ∧
       ¬nextSampleAfter (s.cfg.intervalOf .normal) s.backup.clock.toNat < s.sched.nextSample) := by decide +kernel

theorem witness_SetTimeStepsTheClock :
    (up.takes .l 0x03#8 (le32 775000060) = true ∧ ((775000060 : Int) - up.backup.clock.toNat).natAbs ≤ 60) ∧
    (up.takes .l 0x03#8 (le32 774999939) = true ∧ 60 < ((774999939 : Int) - up.backup.clock.toNat).natAbs ∧
      up.store.degraded = false ∧ up.store.buffer.length < 32 ∧ up.sampleDue = false) ∧
    (sampleTime.takes .l 0x03#8 (le32 775000060) = true ∧ sampleTime.takes .l 0x03#8 (le32 774999939) = true ∧
      sampleTime.sampleDue = true ∧ sampleTime.store.degraded = false ∧ sampleTime.store.buffer.length ≤ 32) ∧
    (let full (degraded : Bool) (n : Nat) : State := { up with store := { up.store with
       degraded := degraded, buffer := List.replicate n ⟨0#32, 0, .mark 0#32 0#32 false .normal⟩ } }
     (full false 32).takes .l 0x03#8 (le32 774999939) = true ∧ (full false 32).sampleDue = false ∧
       (full false 32).store.degraded = false ∧
       (full true 31).takes .l 0x03#8 (le32 774999939) = true ∧ (full true 31).sampleDue = false ∧
       (full true 31).store.degraded = true ∧ (full true 31).store.buffer.length < 32 ∧
       (full true 32).takes .l 0x03#8 (le32 774999939) = true ∧ (full true 32).sampleDue = false ∧
       32 ≤ (full true 32).store.buffer.length ∧ behind 0#32 1#32 ((full true 32).port .l).cursor = true) := by
  decide +kernel

/-- R189: a trim of -0.1 ppm shortens 100 seconds by one tick: each carries a hundredth of a tick into the next, and the one
before which 99 hundredths have gathered takes 99,999 ticks. -/
theorem test_trim_gathers_to_a_tick :
    let clock (trim : Int) (phase : Nat) : State := { up with backup := { up.backup with trim := trim, subSecond := phase } }
    let after (s : State) := (nextOr s (exec .stationClockAdvance s)).backup.subSecond
    (clock (-1) (99999 * 10000000)).clockDue = false ∧ (clock (-1) (100000 * 10000000)).clockDue = true ∧
      after (clock (-1) (100000 * 10000000)) = 100000 ∧ (clock (-1) (99 * 100000 + 99999 * 10000000)).clockDue = true ∧
      after (clock (-1) (99 * 100000 + 99999 * 10000000)) = 0 ∧ (clock 1 (100000 * 10000000)).clockDue = false ∧
      after (clock 1 (100001 * 10000000)) = 99 * 100000 := by decide +kernel

theorem witness_StationClockAdvances :
    (up.sampleDue = false ∧ up.backup.held = false ∧ up.phase ≠ .off) ∧
    (starting.sampleDue = false ∧ starting.backup.held = true ∧ starting.phase ≠ .off) ∧
    (off.phase = .off ∧ off.backup.valid = false) ∧ (sampleTime.configHolds = true ∧ sampleTime.sampleDue = true) ∧
    (({ off with backup := { off.backup with valid := true, held := false } }).sampleDue = false) := by decide +kernel

theorem witness_SampleIsComposedAndLogged :
    (sampleTime.phase = .ready ∧ sampleTime.backup.clock = sampleTime.sched.nextSample ∧
      sampleTime.configHolds = true) ∧
    (sampleTime.takes .l 0x14#8 [] = true ∧ sampleTime.sched.lastUptime = some 990 ∧ 990 + 10 ≤ sampleTime.uptime) ∧
    (({ sampleTime with uptime := 999 }).takes .l 0x14#8 [] = true ∧
      ({ sampleTime with uptime := 999 }).uptime < 990 + 10) ∧
    (let ring (n : Nat) : State := { sampleTime with store := { sampleTime.store with
       degraded := true, buffer := List.replicate n ⟨0#32, 0, .mark 0#32 0#32 false .normal⟩ } }
     (ring 31).store.degraded = true ∧ (ring 31).store.buffer.length < bufferLimit ∧
       bufferLimit ≤ (ring 32).store.buffer.length ∧ (ring 32).phase = .ready) ∧
    (let s : State := { sampleTime with run := some (gauging 2) }
     s.run = some (gauging 2) ∧ (gauging 2).active = true ∧ ((gauging 2).parked .level 900).active = false ∧
       s.warn.fault = false ∧
       (({ s with cfg := floodConfig }).evaluate (sampleAt 1000 (some 1800) none)).warn.level ≠ s.warn.level) := by
  decide +kernel

/-- R44, R78, R109: a sample of 3,000 mm reaches the warning unit, which rises to DANGER and parks the run, and one of
1,799 mm joins the run's accumulators; both whatever the order that log 9 leaves open. -/
theorem test_sample_reaches_warning_and_run :
    let s : State := { flood .normal none .off with run := some (gauging 2) }
    let high := s.weigh (sampleAt 44160 (some 3000) none)
    let low := s.weigh (sampleAt 44160 (some 1799) none)
    high.warn.level = .danger ∧ high.run.map Run.state = some .parked ∧
      low.warn.level = .normal ∧ low.run.map Run.stageSum = some 1799 ∧ low.run.map Run.stageCount = some 1 := by
  simp only [State.weigh]
  cases Config.stageBeforePark _ <;> decide +kernel

/-! #### Rating sets -/

/-- A part with a DRAFT slot as given and set 6 ACTIVE. -/
def drafting (d : Draft) (f : Option InFlight) : State := { up with rating := ⟨some set6, d, f⟩ }

theorem witness_DraftCommandsFollowTheSlot :
    (requestOf (.draftTruncate .l [0#8]) = some ⟨.l, 0x24#8, [0#8]⟩ ∧ (editing set7).takes .l 0x24#8 [0#8] = true ∧
      payloadLengthFits 0x24#8 1 = true ∧ (editing set7).rating.draft = .editing .t { set7 with id := 0 } ∧
      Port.t ≠ .l) ∧
    ((drafting (.activating .l) (some ⟨set7, none, some .l, some .l⟩)).takes .l 0x22#8 [0#8] = true) ∧
    (up.rating.draft = .empty ∧ up.takes .l 0x28#8 [] = true ∧ (0x28#8 : Byte) ≠ 0x22#8) ∧
    ((drafting (.previous set7) none).takes .l 0x23#8 (0#8 :: (sle16 0 ++ le32 0)) = true ∧
      payloadLengthFits 0x23#8 7 = true) ∧
    ((drafting (.previous set7) (some ⟨set7, none, none, none⟩)).takes .l 0x27#8 [] = true) := by decide +kernel

theorem witness_DraftBeginsAndIsDiscarded :
    (up.takes .l 0x22#8 [1#8] = true ∧ up.rating.draft = .empty ∧ up.rating.active = none) ∧
    ((editing set7).takes .t 0x22#8 [0#8] = true ∧ (editing set7).takes .t 0x22#8 [1#8] = true ∧
      (editing set7).rating.active = some set6 ∧ (editing set7).takes .t 0x22#8 [2#8] = true) ∧
    ((editing set7).takes .t 0x28#8 [] = true ∧ (drafting (.previous set7) none).takes .l 0x28#8 [] = true) := by
  decide +kernel

theorem witness_DraftPutPointsWritesInOrder :
    (up.takes .t 0x23#8 (List.replicate 127 0#8) = true ∧ 121 < 127 ∧ up.takes .t 0x23#8 [] = true) ∧
    (editing set6).takes .t 0x23#8 (5#8 :: [(⟨2200, 21500⟩ : RatingPoint)].flatMap fun x => sle16 x.stage ++ le32 x.q) =
        true ∧
      (editing set6).rating.draft = .editing .t { set6 with id := 0 } ∧
      ((5#8 : Byte).toNat ≤ set6.points.length ∧ ¬(6#8 : Byte).toNat ≤ set6.points.length) ∧
      (∀ x ∈ [(⟨29999, 100000000⟩ : RatingPoint), ⟨-9999, 0⟩], -9999 ≤ x.stage ∧ x.stage ≤ 29999 ∧ x.q ≤ 100000000) ∧
      (∀ x ∈ [(⟨-32768, 4294967295⟩ : RatingPoint)], -32768 ≤ x.stage ∧ x.stage ≤ 32767 ∧ x.q < 2 ^ 32) := by
  decide +kernel

theorem witness_DraftIsTruncatedAndExtended :
    ((editing set6).takes .t 0x24#8 [5#8] = true ∧ (5#8 : Byte).toNat ≤ set6.points.length) ∧
    ((editing set6).takes .t 0x24#8 [6#8] = true ∧ set6.points.length < (6#8 : Byte).toNat) ∧
    ((editing set6).takes .t 0x26#8 (sle16 5001) = true ∧ (editing set6).takes .t 0x26#8 (sle16 (-32768)) = true) := by
  decide +kernel

theorem witness_DraftPutShiftWritesOrRemoves :
    (editing set7).takes .t 0x25#8 (2#8 :: (leWord 775500000#32 ++ sle16 2000)) = true ∧
      (editing set7).rating.draft = .editing .t { set7 with id := 0 } ∧ set7.shifts.length = 2 ∧
      ((2#8 : Byte).toNat ≤ 7 ∧ (2#8 : Byte).toNat ≤ set7.shifts.length ∧ (-2000 : Int) ≤ 2000) ∧
      (¬(3#8 : Byte).toNat ≤ set7.shifts.length) ∧
      ((1#8 : Byte).toNat + 1 = set7.shifts.length ∧ (0#8 : Byte).toNat + 1 ≠ set7.shifts.length) := by decide +kernel

theorem witness_DraftActivateStartsTheActivation :
    ((editing ⟨0, [], [], 0⟩).takes .t 0x27#8 [] = true ∧ (editing ⟨0, [], [], 0⟩).rating.releasedInFlight = false ∧
      RatingSet.activationFault ⟨0, [], [], 0⟩ = some (0, 0)) ∧
    ((editing set7).takes .t 0x27#8 [] = true ∧ RatingSet.activationFault { set7 with id := 0 } = none ∧
      (editing set7).store.degraded = false) ∧
    ((drafting (.previous set7) none).takes .l 0x27#8 [] = true ∧
      (drafting (.previous set7) none).rating.releasedInFlight = false) ∧
    (({ drafting (.previous set7) none with store := { up.store with degraded := true } }).takes .l 0x27#8 [] =
      true) ∧
    (({ editing set7 with store := { up.store with degraded := true } }).takes .t 0x27#8 [] = true) := by decide +kernel

theorem witness_ShiftInForceIsTheLatestEffective :
    set7.shifts.Pairwise (fun a b => a.effective < b.effective) ∧
      ((⟨775000000#32, 15⟩ : ShiftEntry) ∈ set7.shifts ∧ (775000000#32 : Word32) ≤ 775000000#32 ∧
        ∀ x ∈ set7.shifts, x.effective ≤ 775000000#32 → x.effective ≤ 775000000#32) ∧
      (∀ e ∈ set7.shifts, 769999999#32 < e.effective) := by decide +kernel

theorem witness_DischargeFollowsTheSegments :
    set7.valid = true ∧ set7.points.head? = some ⟨300, 0⟩ ∧ set7.points.getLast? = some ⟨2200, 21500⟩ ∧
      set7.points[set7.points.length - 2]? = some ⟨1500, 9200⟩ ∧
      ((300 : Int) + set7.shiftAt 0#32 ≤ 300) ∧
      (set7.points[1]? = some ⟨600, 850⟩ ∧ set7.points[1 + 1]? = some ⟨1000, 3900⟩ ∧ (600 : Int) ≤ 600 + set7.shiftAt 0#32 ∧
        600 + set7.shiftAt 0#32 < 1000) ∧
      ((2200 : Int) ≤ 2200 + set7.shiftAt 0#32 ∧ 2700 + set7.shiftAt 0#32 ≤ 2200 + set7.ext) ∧
      (2200 + set7.ext < 2701 + set7.shiftAt 0#32) := by decide +kernel

/-! #### Flood warning -/

theorem witness_ComputedLevelIsTheHighestThatQualifies :
    (sampleAt 44160 (some 3000) none).stage = some 3000 ∧ floodConfig.get (.stageEnter .danger) ≤ 3000 ∧
      (¬floodConfig.get (.stageEnter .danger) ≤ 2999 ∧ floodConfig.get (.stageEnter .warning) ≤ 2999) ∧
      (¬floodConfig.get (.stageEnter .warning) ≤ 2399 ∧ floodConfig.get (.stageEnter .watch) ≤ 2399) ∧
      ¬floodConfig.get (.stageEnter .watch) ≤ 1799 ∧
      (floodConfig.get (.rateEnter .danger) ≤ 1200 ∧ floodConfig.get (.rateFloor .danger) ≤ 2600) ∧
      floodConfig.inRange = true := by decide +kernel

theorem witness_LevelRisesAtOnceAndFallsAfterTheHold :
    ((flood .normal none .test).warn.level.rank < Level.rank .danger ∧
      floodConfig.warnItems.computed 2600 (some 1200) = .danger) ∧
    ((flood .normal none .test).warn.level.rank < Level.rank .watch ∧ (flood .normal none .test).warn.siren = .test ∧
      floodConfig.warnItems.computed 1800 none = .watch) ∧
    ((floodConfig.warnItems.computed 2850 none).rank ≤ (flood .danger none .silenced).warn.level.rank ∧
      floodConfig.warnItems.of .danger = some floodConfig.warnItems.danger ∧
      floodConfig.warnItems.danger.clear 2850 none = false) ∧
    (floodConfig.warnItems.danger.clear 2849 none = true ∧
      ((52559 : Nat) : Int) - (50760 : Nat) < floodConfig.get .holdTime ∧
      floodConfig.get .holdTime ≤ ((52560 : Nat) : Int) - (50760 : Nat)) ∧
    ((sampleAt 900 none none).stage = none ∧ floodConfig.get .stageLostSamples = 3 ∧ (sampleAt 900 (some 0) none).stage ≠ none) ∧
    (let s : State := { flood .normal none .off with run := some (gauging 2) }
     (gauging 2).active = true ∧ s.cfg.get .runLimit = 2 ∧ s.cfg.get .runLimit < ((Level.rank .danger : Nat) : Int) ∧
       ((Level.rank .warning : Nat) : Int) ≤ s.cfg.get .runLimit ∧
       ({ gauging 2 with state := .parked } : Run).active = false) ∧
    (floodConfig.warnItems.computed 1799 none = .normal ∧ (flood .normal none .off).warn.level = .normal) := by
  decide +kernel

/-- R78, R79: a rise above run_limit raises LEVEL_CHANGED and parks the run with the reason LEVEL, and a fall raises
LEVEL_CHANGED alone. -/
theorem test_level_change_is_raised_and_parks :
    (let t := { flood .normal none .off with run := some (gauging 2) }.evaluate (sampleAt 44160 (some 3000) none)
     kinds .c t = [.levelChanged, .runParked, .recall] ∧ kinds .l t = [.levelChanged, .runParked] ∧
       t.run.map Run.parkReason = some (some .level)) ∧
    (let t := { flood .watch (some 0) .off with run := some (gauging 2) }.evaluate (sampleAt 44160 (some 0) none)
     kinds .c t = [.levelChanged] ∧ t.run.map Run.state = some .opened) := by decide +kernel

theorem witness_SirenIsSilencedTestedAndTimed :
    ((flood .danger none .sounding).takes .l 0x31#8 [] = true ∧ (flood .danger none .sounding).warn.siren = .sounding) ∧
    (up.takes .l 0x31#8 [] = true ∧ up.warn.siren ≠ .sounding) ∧
    (up.takes .l 0x32#8 [] = true ∧ up.warn.level = .normal ∧ up.warn.siren = .off) ∧
    ((flood .watch none .off).takes .l 0x32#8 [] = true ∧ (flood .watch none .off).warn.level ≠ .normal) ∧
    ((flood .danger none .sounding).warn.sirenStart = some 44160 ∧
      (flood .danger none .sounding).cfg.get .sirenMax ≤ ((44760 : Nat) : Int) - (44160 : Nat) ∧
      ((44759 : Nat) : Int) - (44160 : Nat) < (flood .danger none .sounding).cfg.get .sirenMax) ∧
    ((flood .danger none .sounding).limits.sirenMax ≤ ((44760 : Nat) : Int) - (44160 : Nat)) ∧
    (up.pending = [] ∧ up.dueEvent = none ∧ up.timeBlocked = false ∧ up.phase ≠ .off ∧ up.uptimeSub + 1 < 100000 ∧
      ({ up with uptimeSub := 99999 }).dueEvent = none) ∧
    (({ up with warn := { up.warn with siren := .test, testStart := some 995 } }).warn.testStart = some 995 ∧
      995 + 5 ≤ up.uptime) ∧
    ((flood .danger none .sounding).phase = .ready ∧ (flood .danger none .sounding).sirenHolds = true ∧
      (flood .danger none .sounding).sirenOut = true ∧ off.phase ≠ .ready) := by decide +kernel

/-- R81: a siren_max lowered below the time run expires at the next uptime second, not within this one. -/
theorem test_lowered_siren_max :
    let s : State := { flood .danger none .sounding with
      uptime := 44300, uptimeSub := 99998, cfg := floodConfig.set .sirenMax 60 }
    s.dueEvent = none ∧ (nextOr s (step s)).dueEvent = none ∧
      (nextOr s (step (nextOr s (step s)))).dueEvent = some .sirenTimerExpiry := by decide +kernel

/-! #### Cableway gauging runs -/

/-- A part with a journal queue of n entries. -/
def queued (n : Nat) (s : State) : State :=
  { s with store := { s.store with journalQueue := List.replicate n ⟨.removal 9 1000, 0⟩ } }

/-- What RUN_OPEN's payload says. -/
def openDesc : RunDescription := { meterDesc with coef := 0 }

theorem witness_RunOpensOrIsRefusedInOrder :
    (up.takes .c 0x40#8 openRunPayload = true ∧ parseRunOpen openRunPayload = some (openDesc, 3)) ∧
    ((withRun (gauging 1)).takes .c 0x40#8 openRunPayload = true ∧ (gauging 1).state = .opened) ∧
    (withRun { gauging 1 with state := .closing }).takes .c 0x40#8 openRunPayload = true ∧
    (up.run = none ∧ runOpenFits openDesc 3 = true ∧ up.takes .c 0x40#8 (openRunPayload.dropLast ++ [4#8]) = true ∧
      (parseRunOpen (openRunPayload.dropLast ++ [4#8])).map (fun x => runOpenFits x.1 x.2) = some false) ∧
    (({ up with warn := { up.warn with level := .danger } }).lockedOut = true ∧ up.lockedOut = false) ∧
    (({ up with store := { up.store with degraded := true } }).takes .c 0x40#8 openRunPayload = true) ∧
    ((queued 4 up).takes .c 0x40#8 openRunPayload = true ∧ 4 ≤ (queued 4 up).store.journalQueue.length) ∧
    ((queued 3 up).store.degraded = false ∧ (queued 3 up).store.journalQueue.length < 4) ∧
    ((queued 2 (withRun ((gauging 2).parked .level 900))).takes .c 0x40#8 openRunPayload = true ∧
      ((gauging 2).parked .level 900).state = .parked ∧ ((gauging 2).parked .level 900).notStored = false ∧
      (queued 2 (withRun ((gauging 2).parked .level 900))).store.journalQueue.length < 3) ∧
    (let r := { (gauging 2).parked .level 900 with notStored := true }
     (withRun r).takes .c 0x40#8 openRunPayload = true ∧ r.state = .parked ∧ r.notStored = true ∧
       (withRun r).lockedOut = false ∧ (withRun r).store.degraded = false ∧
       (withRun r).store.journalQueue.length < 3) := by decide +kernel

/-- An open vertical of two points. -/
def openTwo : OpenVertical := ⟨10000, 1800, .twoPoint, 0, []⟩

/-- An observation of 20 s that began at tick 0. -/
def anObservation : Observation := ⟨.p8, 20, 0#32⟩

/-- A run OBSERVING that observation, at a tick. -/
def observing (tick : Nat) : State :=
  { withRun { gauging 2 with state := .observing, obs := some anObservation, openVertical := some openTwo } with
    ticks := BitVec.ofNat 32 tick, meter := ⟨true, 2, some 0#32, some 1000#32, some 1000#32⟩ }

theorem witness_VerticalIsBegunMeasuredAndCancelled :
    ((withRun (gauging 2)).takes .c 0x41#8 (le32 18000 ++ le16 30000 ++ [3#8] ++ le16 1000) = true ∧
      (withRun (gauging 2)).run = some (gauging 2) ∧ (gauging 2).state = .opened ∧ (gauging 2).openVertical = none ∧
      (gauging 2).desc.initial ≤ 18000 ∧ 18000 ≤ (gauging 2).desc.farBank ∧ ¬18001 ≤ (gauging 2).desc.farBank) ∧
    ((withRun { gauging 2 with openVertical := some openTwo }).takes .c 0x42#8 [3#8, 200#8] = true ∧
      BitVec.ofNat 8 Fraction.p8.code = 3#8 ∧ Fraction.p8 ∈ openTwo.method.fractions ∧
      Fraction.p6 ∉ openTwo.method.fractions ∧ openTwo.depth ≠ 0) ∧
    (up.running = true ∧ up.meter.counting = false) ∧
    ((observing 1199).meter.lastAccepted = some 1000#32 ∧ ((observing 1199).ticks - 1000#32).toNat < 200 ∧
      200 ≤ ((observing 1200).ticks - 1000#32).toNat) ∧
    ((observing 2000000).run.map Run.obs = some (some anObservation) ∧
      anObservation.duration * 100000 ≤ ((observing 2000000).ticks - anObservation.start).toNat ∧
      ((observing 1999999).ticks - anObservation.start).toNat < anObservation.duration * 100000) ∧
    ((observing 0).takes .c 0x44#8 [] = true ∧
      (withRun { gauging 2 with openVertical := some openTwo }).takes .c 0x44#8 [] = true ∧
      (withRun (gauging 2)).takes .c 0x44#8 [] = true) ∧
    (let pl := le32 18000 ++ le16 30000 ++ [3#8] ++ le16 1000
     up.run = none ∧ up.takes .c 0x44#8 [] = true ∧ up.takes .c 0x41#8 pl = true ∧ pl.length = 9 ∧
       up.takes .c 0x42#8 [1#8, 60#8] = true ∧ (observing 0).takes .c 0x41#8 pl = true ∧
       (observing 0).run.map Run.state = some .observing ∧ (observing 0).takes .c 0x42#8 [1#8, 60#8] = true) ∧
    (let s := withRun ((gauging 2).parked .level 900)
     s.takes .c 0x41#8 (le32 1000 ++ le16 0 ++ [0#8] ++ le16 0) = true ∧ s.takes .c 0x42#8 [1#8, 60#8] = true ∧
       (withRun { gauging 2 with openVertical := some again14000 }).takes .c 0x42#8 [4#8, 60#8] = true ∧
       (withRun (gauging 2)).takes .c 0x42#8 [1#8, 60#8] = true) := by decide +kernel

/-- An edge vertical at a station. -/
def edgeAt (station : Nat) : OpenVertical := ⟨station, 0, .edge, 0, []⟩

/-- A run whose table is full: forty verticals at stations 1000, 1100, …. -/
def fullRun : Run :=
  let t := (List.range 40).foldl (fun t n => enterVertical t ((edgeAt (1000 + 100 * n)).record 850 false)) []
  { gauging 0 with table := t, totalQ := sumQ t, totalA := sumA t, openVertical := some (edgeAt 9000) }

theorem witness_VerticalEntersAndLeavesTheTable :
    ((withRun { gauging 5 with openVertical := some again14000 }).takes .c 0x43#8 [] = true ∧
      (gauging 5).tableHolds = true ∧ (gauging 5).notStored = false ∧ up.store.degraded = false ∧
      holdsStation (gauging 5).table 14000 = true ∧
      (∀ f ∈ again14000.method.fractions, ∃ x ∈ again14000.points, x.fraction = f)) ∧
    (¬∀ f ∈ openTwo.method.fractions, ∃ x ∈ openTwo.points, x.fraction = f) ∧
    ((withRun fullRun).takes .c 0x43#8 [] = true ∧ fullRun.tableHolds = true ∧ fullRun.table.length = 40 ∧
      holdsStation fullRun.table 9000 = false ∧ fullRun.openVertical = some (edgeAt 9000)) ∧
    (4 ≤ (queued 4 up).store.journalQueue.length ∧ (queued 3 up).store.journalQueue.length < 4) ∧
    (let r := { gauging 5 with openVertical := some again14000, notStored := true }
     (queued 4 (withRun r)).takes .c 0x43#8 [] = true ∧ r.tableHolds = true ∧ r.notStored = true ∧
       (queued 4 (withRun r)).takes .c 0x45#8 (le32 14000) = true) ∧
    (let s := withRun { gauging 5 with openVertical := some again14000 }
     let t : State := { s with store := { s.store with degraded := true } }
     t.takes .c 0x43#8 [] = true ∧ t.takes .c 0x45#8 (le32 14000) = true ∧ t.store.degraded = true ∧
       t.store.journalQueue.length < 4) ∧
    ((withRun (gauging 5)).takes .c 0x45#8 (le32 14000) = true ∧ holdsStation (gauging 5).table 12000 = false) ∧
    (let parked := withRun ((gauging 5).parked .level 900)
     up.run = none ∧ up.takes .c 0x43#8 [] = true ∧ up.takes .c 0x45#8 (le32 14000) = true ∧
       (observing 0).takes .c 0x43#8 [] = true ∧ (observing 0).takes .c 0x45#8 (le32 14000) = true ∧
       parked.takes .c 0x43#8 [] = true ∧ parked.takes .c 0x45#8 (le32 14000) = true ∧
       (withRun (gauging 5)).takes .c 0x43#8 [] = true) := by decide +kernel

/-- R90: every run command outside the states that take it, by the table; in IDLE all are refused WRONG_STATE, during an
observation POINT_START, VERTICAL_END and VERTICAL_REMOVE are BUSY. -/
theorem test_run_commands_by_state :
    let begin := Instr.verticalBegin .c (le32 18000 ++ le16 30000 ++ [3#8] ++ le16 1000)
    let point := Instr.pointStart .c [1#8, 60#8]
    let remove := Instr.verticalRemove .c (le32 14000)
    let parked := withRun ((gauging 5).parked .level 900)
    let refused (s : State) (st : Status) (i : Instr) := got (exec i s) (replied .c st [])
    [begin, point, .verticalEnd .c [], .verticalCancel .c [], remove, .runClose .c [], .runAbandon .c [],
      .runResume .c []].all (refused up .wrongState) = true ∧
      [point, .verticalEnd .c [], remove].all (refused (observing 0) .busy) = true ∧
      refused (observing 0) .wrongState begin = true ∧
      [begin, point, .verticalEnd .c [], remove].all (refused parked .wrongState) = true := by decide +kernel

theorem witness_RunIsClosedAbandonedAndResumed :
    (beforeClose.takes .c 0x46#8 [] = true ∧ (gauging 3).state = .opened ∧ 3 ≤ (gauging 3).table.length ∧
      (gauging 3).openVertical = none ∧ (gauging 3).notStored = false ∧ (queued 3 beforeClose).store.degraded = false ∧
      (queued 3 beforeClose).store.journalQueue.length < 4) ∧
    (4 ≤ (queued 4 beforeClose).store.journalQueue.length ∧ (queued 4 beforeClose).takes .c 0x46#8 [] = true ∧
      (queued 4 beforeClose).store.degraded = false) ∧
    (up.run = none ∧ up.takes .c 0x46#8 [] = true ∧ up.takes .c 0x47#8 [] = true ∧ up.takes .c 0x48#8 [] = true) ∧
    (gauging 2).table.length < 3 ∧
    ((withRun { gauging 2 with state := .closing }).takes .c 0x47#8 [] = true ∧
      (observing 0).takes .c 0x47#8 [] = true) ∧
    (let s := withRun ((gauging 2).parked .level 900)
     s.takes .c 0x48#8 [] = true ∧ s.run.map Run.parkUptime = some (some 900) ∧ s.lockedOut = false ∧
       ({ s with warn := { s.warn with level := .danger } }).lockedOut = true) ∧
    ((withRun (gauging 2)).takes .c 0x48#8 [] = true ∧ (gauging 2).state ≠ .parked) ∧
    ((withRun { gauging 2 with notStored := true }).takes .c 0x47#8 [] = true ∧ (gauging 2).state ≠ .closing ∧
      ({ withRun (gauging 2) with store := { up.store with degraded := true } }).takes .c 0x47#8 [] = true) ∧
    ((withRun { gauging 3 with notStored := true }).takes .c 0x46#8 [] = true ∧ 3 ≤ (gauging 3).table.length ∧
      ({ withRun (gauging 3) with store := { up.store with degraded := true } }).takes .c 0x46#8 [] = true) ∧
    (set7.valid = true ∧ set7.points[0]? = some ⟨300, 0⟩ ∧ set7.points[1]? = some ⟨600, 850⟩ ∧ (0 : Nat) < 1 ∧
      (849 : Nat) < 850 ∧ ∀ a ∈ set7.points, a.q < 21501) := by decide +kernel

theorem witness_RunTimersParkAndEndTheRun :
    (let r := { gauging 2 with silenceStart := some 940 }
     r.active = true ∧ up.cfg.get .silenceLimit ≤ (up.uptime : Int) - (940 : Nat) ∧
       up.limits.silenceLimit ≤ (up.uptime : Int) - (940 : Nat) ∧
       (up.uptime : Int) - (941 : Nat) < up.cfg.get .silenceLimit) ∧
    (let r := (gauging 2).parked .level 0
     r.state = .parked ∧ r.parkUptime = some 0 ∧ r.notStored = false ∧
       up.cfg.get .parkLifetime ≤ ((21600 : Nat) : Int) - (0 : Nat) ∧
       up.limits.parkLifetime ≤ ((21600 : Nat) : Int) - (0 : Nat) ∧
       ((21599 : Nat) : Int) - (0 : Nat) < up.cfg.get .parkLifetime) ∧
    (let r := { (gauging 2).parked .level 0 with notStored := true }
     (withRun r).run = some r ∧ r.state = .parked ∧ r.parkUptime = some 0 ∧ r.notStored = true) ∧
    (let c := (gauging 2).parkedRecord up
     let r := { gauging 2 with state := .closing, closeRec := some c, trailerHeld := true }
     (withRun r).run = some r ∧ r.trailerHeld = true ∧ r.closeRec = some c ∧ (withRun r).store.degraded = false ∧
       (queued 3 (withRun r)).store.journalQueue.length < 4) := by decide +kernel

theorem witness_PointVelocityFollowsTheMeterRating :
    (captured 1 0).k < 2 ∧ 2 ≤ (captured 2 1000000).k ∧
      (pointResult meterDesc .p6 (captured 2 1000000)).n ≠ 0 ∧ (pointResult meterDesc .p6 (captured 1 0)).n = 0 := by
  decide +kernel

theorem witness_DoubleWidthsSpanTheSection :
    stationsRise (workedTable 5) = true ∧ stationsRise (workedTable 1) = true ∧ (workedTable 1).length = 1 ∧
      (workedTable 5).length = 5 ∧ stationsRise ([] : List Vertical) = true := by decide +kernel

/-! #### The record memory -/

/-- The oldest record of a buffer. -/
def aRecord : LogRecord := ⟨0#32, 0, .sample aSample⟩

/-- A record memory in READY, as a change of a fresh one. -/
def memory (f : Store → Store) : State := { up with store := f (Store.fresh [(9728, .header .log false 1 0#32)]) }

/-- A saved configuration under way, at a place. -/
def saving (place next : Nat) (erased : Bool) : State :=
  memory fun st => { st with class4 := [.save defaultConfig place erased next 0] }

theorem witness_GrantsStartUnitPrograms :
    (let s := memory fun st => { st with buffer := [aRecord], logCur := some ⟨38, 255, 0, false⟩ }
     s.arbiter = some .append ∧ 38 ∉ s.store.bad) ∧
    (let s := memory fun st => { st with buffer := [aRecord], logCur := some ⟨38, 256, 0, false⟩ }
     s.arbiter = some .append ∧ Region.log.next s.store.bad (some 38) = some 39 ∧
       s.store.flash.headerOf 39 = .erased ∧ s.store.flash.read (256 * 39 + 1) = none) ∧
    (let s := memory fun st => { st with
       flash := st.flash ++ [(256 * 39 + 1, .garbled), (256 * 39 + 2, .garbled)], buffer := [aRecord]
       logCur := some ⟨38, 256, 0, false⟩ }
     s.arbiter = some .append ∧ s.store.flash.headerOf 39 = .erased ∧ s.store.flash.read (256 * 39 + 3) = none ∧
       ∀ x ∈ [1, 2], s.store.flash.read (256 * 39 + x) ≠ none) ∧
    (let s := memory fun st => { st with journalQueue := [⟨.removal 9 1000, 0⟩], journalCur := some ⟨6, 255, 0, false⟩ }
     s.arbiter = some .journal ∧ 255 + (JournalEntry.units (.removal 9 1000) - 0) ≤ 256) ∧
    (let s := memory fun st => { st with class4 := [.image set7 1 0 false], ratingCur := some ⟨2, 236, 0, false⟩ }
     s.arbiter = some .work ∧ 236 + 20 ≤ 256) ∧
    (let s := memory fun st => { st with class4 := [.image set7 1 0 true], ratingCur := some ⟨2, 237, 1, false⟩ }
     s.arbiter = some .work ∧ 237 + 1 ≤ 256) ∧
    ((saving 0 2 true).arbiter = some .work ∧ (saving 0 1 false).arbiter = some .work) ∧
    (let s := memory fun st => { st with class4 := [.ident (List.replicate 16 0x41#8) 0 (some .l)],
                                         flash := [(2, .garbled), (3, .garbled)] }
     s.arbiter = some .work ∧ s.store.flash.read 4 = none ∧ s.store.flash.read 2 ≠ none ∧
       s.store.flash.read 3 ≠ none) ∧
    (up.arbiter ≠ some .append ∧ up.arbiter ≠ some .journal ∧ up.arbiter ≠ some .work) ∧
    (off.phase ≠ .ready ∧ up.phase = .ready ∧ up.store.channel = .free ∧ up.store.reads = []) ∧
    (let s := memory fun st => { st with channel := .searched [.t], reads := [⟨.t, true, .readLog 1⟩] }
     s.phase = .ready ∧ ∀ w ∈ s.store.reads, w.port ∈ [Port.t]) := by decide +kernel

/-- R146: with work of every class ready, each is granted when those before it are taken away; with the append buffer
waiting for a block not yet erased, the erase it waits for is granted. -/
theorem test_arbiter_takes_the_classes_in_order :
    let all : Store → Store := fun st => { st with
      reads := [⟨.t, true, .readLog 1⟩], buffer := [aRecord], logCur := some ⟨38, 255, 0, false⟩
      journalQueue := [⟨.removal 9 1000, 0⟩], journalCur := some ⟨6, 255, 0, false⟩
      class4 := [.image set7 1 0 false], erases := [⟨39, .logAhead⟩] }
    (memory all).arbiter = some .read ∧
      (memory fun st => { all st with reads := [] }).arbiter = some .append ∧
      (memory fun st => { all st with reads := [], buffer := [] }).arbiter = some .journal ∧
      (memory fun st => { all st with reads := [], buffer := [], journalQueue := [] }).arbiter = some .work ∧
      (memory fun st => { all st with reads := [], journalQueue := [], class4 := []
                                      logCur := some ⟨38, 256, 0, false⟩ }).arbiter = some .erase ∧
      (memory fun st => { all st with
        channel := .erasing ⟨⟨40, .eraseLog⟩, [], 9, 9, false, []⟩ }).arbiter = none ∧
      (memory fun st => { all st with
        channel := .erasing ⟨⟨40, .eraseLog⟩, [], 900, 0, true, []⟩ }).arbiter = some .read := by decide +kernel

/-- R153 (log 63): of two units that hold one sequence, the search and READ_LOG take the later, and the search passes over
no record that lies in the other block. -/
theorem test_search_takes_the_unit_read :
    let mark (seq time : Word32) : FlashUnit := .record ⟨seq, 0, .mark 0#32 time false .normal⟩
    let st : Store := { Store.fresh [(9728, .header .log false 1 0#32), (9729, mark 0#32 500#32), (9730, mark 1#32 600#32),
        (9984, .header .log false 2 2#32), (9985, mark 0#32 100#32), (9986, mark 2#32 700#32)] with nextSeq := 3#32 }
    (st.lookup 0#32).map LogRecord.time = some 100#32 ∧ st.seekStep 400#32 0#32 = .more 1#32 ∧
      st.seekStep 400#32 1#32 = .done (st.lookup 1#32) ∧ st.seekStep 650#32 1#32 = .more 2#32 ∧
      st.seekStep 650#32 2#32 = .done (st.lookup 2#32) ∧ (st.lookup 2#32).map LogRecord.time = some 700#32 := by
  decide +kernel

/-- R153: between two steps of a SEEK_LOG the channel serves the append buffer, where the search would come first by its
class; a second search has its own step before; with nothing else ready the search goes on. -/
theorem test_search_gives_way :
    let granted (passed reads : List Port) (buffer : List LogRecord) :=
      let s := memory fun st => { st with
        reads := reads.map fun p => ⟨p, true, .seekLog 0#32 0#32⟩, buffer := buffer
        logCur := some ⟨38, 255, 0, false⟩, channel := if passed = [] then .free else .searched passed }
      (s.arbiter, s.grantedRead.map WaitingRead.port)
    granted [] [.t] [aRecord] = (some .read, some .t) ∧ granted [.t] [.t] [aRecord] = (some .append, none) ∧
      granted [.l] [.l, .t] [aRecord] = (some .read, some .t) ∧
      granted [.l, .t] [.l, .t] [aRecord] = (some .append, none) ∧ granted [.t] [.t] [] = (some .read, some .t) := by
  decide +kernel

/-- R147, R153: what a step of a SEEK_LOG leaves of the channel, and what the end of another read does. -/
theorem test_search_marks_the_channel :
    Channel.free.stepped .t = .searched [.t] ∧ (Channel.searched [.t]).stepped .l = .searched [.t, .l] ∧
      (Channel.searched [.t]).stepped .t = .searched [.t] ∧ (Channel.searched [.t]).resumed = .free := by decide +kernel

/-- R138: a block whose header reads erased after a first grant cut short, and whose first unit does not, is used from
its first erased unit on. -/
theorem test_no_unit_programmed_twice :
    got (exec .appendGrant (memory fun st => { st with
        flash := st.flash ++ [(39 * 256 + 1, .garbled)], buffer := [aRecord], logCur := some ⟨38, 256, 0, false⟩ }))
      (fun t => decide (t.store.logCur = some ⟨39, 3, 0, false⟩) &&
        (match t.store.channel with
         | .programming j _ => decide (j.addr = 39 * 256 + 2)
         | _ => false)) = true := by decide +kernel

/-- R146: with a read of each port waiting, the turns are L, T and C from the port after the last one served. -/
theorem test_round_robin :
    let reads : List WaitingRead := [⟨.c, true, .readLog 1⟩, ⟨.t, true, .readLog 2⟩, ⟨.l, true, .readLog 3⟩]
    let served (robin : Port) (rs : List WaitingRead) :=
      ((memory fun st => { st with reads := rs, robin := robin }).grantedRead).map WaitingRead.port
    served .l reads = some .l ∧ served .t reads = some .t ∧ served .c reads = some .c ∧
      served .l (reads.take 1) = some .c ∧ served .c (reads.drop 1) = some .l := by decide +kernel

/-- R148, R159: the first unit of an image that failed with 20 units left at its start is retried in the block's next
unit. -/
theorem test_image_first_unit_retried :
    got (exec .ratingImageGrant (memory fun st =>
        { st with class4 := [.image set7 1 0 true], ratingCur := some ⟨2, 237, 1, false⟩ }))
      (fun t => decide (t.store.channel = .programming ⟨2 * 256 + 237, .image 1 0 set7, none, .image⟩ 0)) = true := by
  decide +kernel

/-- A program under way without a header. -/
def aJob (u : FlashUnit) (p : ProgramPurpose) (addr : Nat) : Channel := .programming ⟨addr, u, none, p⟩ 150

/-- The trailer of a run that ends by RUN_CLOSE. -/
def aTrailer : CloseRecord := (gauging 5).closeComputation beforeClose .complete

/-- A run in CLOSING for an ending whose trailer is being programmed. -/
def closingBy (e : Ending) (code : Byte) : State :=
  { beforeClose with
    run := some ((gauging 5).closed aTrailer e (some .c))
    store := { beforeClose.store with
      channel := aJob (.entry (.trailer aTrailer) 1) .entry 1538, journalQueue := [⟨.trailer aTrailer, 1⟩] }
    ports := { up.ports with c := { PortState.fresh with request := some code } } }

/-- A run in CLOSING by RUN_CLOSE whose trailer is being programmed. -/
def closing : State := closingBy .close 0x46#8

/-- A part whose activation's image and whose record share the memory with 19 BAD blocks. -/
def onTheBrink : State :=
  { withRun (gauging 2) with
    rating := ⟨some set6, .activating .t, some ⟨set7, none, some .t, some .t⟩⟩
    ports := { up.ports with t := { PortState.fresh with request := some 0x27#8 } }
    store := { up.store with
      channel := aJob (.record aRecord) (.record aRecord) 15363, buffer := [aRecord], logCur := some ⟨60, 4, 1, false⟩
      bad := List.range' 38 19, class4 := [.image set7 1 0 false], journalQueue := [⟨.removal 23 1000, 0⟩]
      givenUp := [8] } }

/-- R150, R151, R156: the twentieth BAD block puts the store in DEGRADED; what was given up stays given up. -/
theorem test_degraded_keeps_what_is_given_up :
    got (exec (.unitProgramComplete true false) onTheBrink) (fun t =>
      t.store.degraded && decide (t.store.bad.length = 20) && decide (t.store.givenUp = [8]) &&
        decide (t.run.map Run.notStored = some true) &&
        decide (t.rating.draft = .editing .t { set7 with id := 0 })) = true := by decide +kernel

theorem witness_UnitProgramsEndInProgress :
    (let s := memory fun st => { st with channel := aJob (.record aRecord) (.record aRecord) 9729, buffer := [aRecord] }
     s.store.channel = .programming ⟨9729, .record aRecord, none, .record aRecord⟩ 150 ∧ s.store.buffer = [aRecord]) ∧
    (let c : CurrentBlock := ⟨38, 2, 0, false⟩
     c.block = 9729 / 256 ∧ c.failures = 0 ∧ ({ c with failures := 1 }).failures = 1 ∧ 38 ≤ c.block ∧
       (List.range' 38 18).length < 19 ∧ ∀ b ∈ List.range' 38 18, 6 ≤ b) ∧
    (6 ≤ 1536 / 256) ∧
    (closing.store.channel = .programming ⟨1538, .entry (.trailer aTrailer) 1, none, .entry⟩ 150 ∧
      closing.store.journalQueue = [⟨.trailer aTrailer, 1⟩] ∧
      (closing.run.map fun r => (r.closeRec, r.ending, r.replyTo, r.notStored)) =
        some (some aTrailer, some .close, some .c, aTrailer.notStored) ∧
      aTrailer.result ≠ .abandoned ∧ (closing.port .c).request = some 0x46#8) ∧
    (let s : State := { memory fun st => { st with channel := aJob (.imageCommit 1 set7) .image 532,
                                                    class4 := [.image set7 1 19 true] } with
        rating := ⟨some set6, .activating .t, some ⟨set7, none, some .t, some .t⟩⟩
        ports := { up.ports with t := { PortState.fresh with request := some 0x27#8 } } }
     s.rating.inFlight = some ⟨set7, none, some .t, some .t⟩ ∧ (s.port .t).request = some 0x27#8) ∧
    (let s : State := { memory fun st => { st with channel := aJob (.ident (List.replicate 16 0x41#8)) .ident 2,
                                                    class4 := [.ident (List.replicate 16 0x41#8) 1 (some .l)] } with
        ports := { up.ports with l := { PortState.fresh with request := some 0x64#8 } } }
     (s.port .l).request = some 0x64#8 ∧ (1 : Nat) ≤ 1) := by decide +kernel

/-- A run in CLOSING for an ending stands where that ending's clause wants it. -/
def closingReady (e : Ending) (code : Byte) : Bool :=
  let s := closingBy e code
  decide (s.store.channel = .programming ⟨1538, .entry (.trailer aTrailer) 1, none, .entry⟩ 150) &&
    decide (s.store.journalQueue = [⟨.trailer aTrailer, 1⟩]) &&
    decide ((s.run.map fun r => (r.closeRec, r.ending, r.replyTo, r.notStored)) =
      some (some aTrailer, some e, some .c, aTrailer.notStored)) &&
    decide ((s.port .c).request = some code) && !s.lockedOut && !s.store.degraded &&
    { s with warn := { s.warn with level := .danger } }.lockedOut

theorem witness_UnitProgramsEndInProgress_endings :
    (closingReady .abandon 0x47#8 && closingReady .expiry 0x00#8 && closingReady (.supersede meterDesc) 0x40#8) = true ∧
    (onTheBrink.phase = .ready ∧ onTheBrink.store.logCur = some ⟨60, 4, 1, false⟩ ∧ 60 = 15363 / 256 ∧
      60 ∉ onTheBrink.store.bad ∧ onTheBrink.store.bad.length = 19 ∧ onTheBrink.store.degraded = false ∧
      onTheBrink.run = some (gauging 2) ∧ (gauging 2).state ≠ .closing ∧ (gauging 2).closeRec = none ∧
      onTheBrink.store.journalQueue = [⟨.removal 23 1000, 0⟩] ∧
      ({ onTheBrink with run := none }).store.class4 = [.image set7 1 0 false] ∧
      (onTheBrink.port .t).request = some 0x27#8) := by decide +kernel

theorem witness_UnitProgramsEndInProgress_save :
    let s := memory fun st => { st with channel := aJob (.configCommit saveUnits defaultConfig) .save 300,
                                        class4 := [.save defaultConfig saveUnits true 45 0] }
    s.store.channel = .programming ⟨300, .configCommit saveUnits defaultConfig, none, .save⟩ 150 ∧
      s.store.class4 = [.save defaultConfig saveUnits true 45 0] := ⟨rfl, rfl⟩

/-- An erase of a LOG block under way for ERASE_LOG. -/
def erasing (since : Nat) (reads : List WaitingRead) : State :=
  memory fun st => { st with channel := .erasing ⟨⟨40, .eraseLog⟩, [], since, since, false, []⟩, reads := reads,
                             eraseLogActive := true }

/-- A part with an erase of a block under way for a purpose, with BAD blocks to retire after it. -/
def erasingFor (purpose : ErasePurpose) (block : Nat) (retire : List Nat) : State :=
  memory fun st => { st with channel := .erasing ⟨⟨block, purpose⟩, [], 900, 900, false, retire⟩ }

theorem witness_ErasesStartGiveWayAndEnd :
    (wrappedLog.arbiter = some .erase ∧ wrappedLog.store.erases = [⟨502, .logAhead⟩] ∧
      behind wrappedLog.store.firstSeq 1000255#32 (wrappedLog.port .t).cursor = true ∧
      behind wrappedLog.store.firstSeq 1000255#32 (wrappedLog.port .l).cursor = false) ∧
    ((Region.log.after 502).take 1 = [503] ∧ 503 ∉ wrappedLog.store.bad ∧
      wrappedLog.store.flash.headerOf 503 = .inUse 2 1000255#32) ∧
    (let st := { wrappedLog.store with bad := [503] }
     (Region.log.after 501).take 2 = [502, 503] ∧ st.passedOver .log (some ⟨501, 2, 0, false⟩) 504 = [503]) ∧
    (let s := memory fun st => { st with erases := [⟨7, .journalAhead⟩] }
     s.arbiter = some .erase ∧ s.store.erases = [⟨7, .journalAhead⟩]) ∧
    (let s := memory fun st => { st with erases := [⟨40, .retire⟩] }
     s.arbiter = some .erase ∧ s.store.erases = [⟨40, .retire⟩]) ∧
    (let s := memory fun st => { st with erases := [⟨40, .eraseLog⟩] }
     s.arbiter = some .erase) ∧
    up.arbiter ≠ some .erase ∧
    ((erasing 500 [⟨.t, true, .readLog 7⟩]).store.reads ≠ [] ∧ (500 : Nat) ≤ 500 ∧ (499 : Nat) < 500) ∧
    ((erasing 900 []).store.channel = .erasing ⟨⟨40, .eraseLog⟩, [], 900, 900, false, []⟩ ∧
      6 ≤ 40 ∧ (erasing 900 []).store.bad.length < 19 ∧ ∀ b ∈ (erasing 900 []).store.bad, 6 ≤ b) ∧
    ((erasingFor .logAhead 502 [503]).store.eraseLogActive = false ∧ (erasingFor .logAhead 502 [503]).store.degraded = false ∧
      Region.log.next ((erasingFor .logAhead 502 []).store.bad ++ [502]) (some 502) = some 503 ∧
      Region.journal.next ((erasingFor .journalAhead 37 []).store.bad ++ [37]) (some 37) = some 6) ∧
    ((erasingFor .retire 503 []).store.channel = .erasing ⟨⟨503, .retire⟩, [], 900, 900, false, []⟩ ∧
      (erasingFor .image 3 []).store.eraseLogActive = false) := by decide +kernel

/-- R154, R155: a block whose erase-ahead runs as ERASE_LOG is taken is asked for too and counted once, and one whose
retirement runs is left to it. -/
theorem test_erase_log_over_a_running_erase :
    (let left (at502 : ErasePurpose) (erases : List EraseRequest) :=
       { (erasingFor at502 502 []).store with erases := erases, eraseLogActive := true }.blocksLeft
     (erasingFor .logAhead 502 []).store.eraseLogRequest 502 = some ⟨502, .eraseLog⟩ ∧
       left .logAhead [⟨502, .eraseLog⟩, ⟨503, .eraseLog⟩, ⟨7, .journalAhead⟩] = 2 ∧
       (erasingFor .retire 502 []).store.eraseLogRequest 502 = none ∧
       (erasingFor .retire 502 []).store.eraseLogRequest 503 = some ⟨503, .eraseLog⟩ ∧
       left .retire [⟨503, .eraseLog⟩] = 2) := by decide +kernel

theorem witness_RecordMemoryTakesItsRequests :
    (up.takes .l 0x50#8 [1#8] = true ∧ up.store.inBuffer (up.port .l).cursor = true ∧ up.takes .l 0x50#8 [0#8] = true ∧
      up.takes .l 0x50#8 [8#8] = true) ∧
    (wrappedLog.takes .l 0x50#8 [7#8] = true ∧ wrappedLog.store.inBuffer (wrappedLog.port .l).cursor = false) ∧
    (wrappedLog.takes .l 0x51#8 (le32 0) = true ∧ wrappedLog.store.inBuffer wrappedLog.store.firstSeq = false) ∧
    (up.takes .l 0x51#8 (le32 0) = true ∧ up.store.inBuffer up.store.firstSeq = true) ∧
    up.takes .l 0x53#8 [23#8, 0#8, 6#8] = true ∧
    ((erasing 0 []).takes .l 0x54#8 [] = true ∧ (erasing 0 []).store.eraseLogActive = true) ∧
    (wrappedLog.takes .l 0x54#8 [] = true ∧ wrappedLog.store.eraseLogActive = false ∧
      behind wrappedLog.store.firstSeq wrappedLog.store.nextSeq (wrappedLog.port .l).cursor = true ∧
      behind up.store.firstSeq up.store.nextSeq (up.port .l).cursor = false) ∧
    ((erasingFor .retire 503 []).takes .l 0x54#8 [] = true ∧ (erasingFor .retire 503 []).store.eraseLogActive = false ∧
      (erasingFor .retire 503 []).store.degraded = false ∧ (erasingFor .retire 503 []).store.erases = [] ∧
      (memory fun st => { st with bad := [38] }).store.flash.headerOf 38 = .inUse 1 0#32) ∧
    (let s : State := { up with store := { up.store with degraded := true } }
     s.takes .l 0x54#8 [] = true ∧ s.store.eraseLogActive = false ∧ s.takes .l 0x62#8 [] = true) ∧
    ((saving 0 1 false).takes .l 0x62#8 [] = true ∧ (saving 0 1 false).store.class4.any Class4.isSave = true) ∧
    (up.takes .l 0x54#8 [] = true ∧ up.takes .l 0x62#8 [] = true ∧ up.store.degraded = false) ∧
    ((up.withMaint true).takes .l 0x64#8 (List.replicate 16 0x7E#8) = true ∧
      (up.withMaint true).takes .l 0x64#8 (List.replicate 16 0x7F#8) = true ∧
      (∀ b ∈ List.replicate 16 0x20#8, 0x20 ≤ b.toNat ∧ b.toNat ≤ 0x7E) ∧ up.store.flash.identifier = none) := by
  decide +kernel

/-- A part whose arbiter grants a read of port T. -/
def reading (kind : ReadKind) (code : Byte) : State :=
  { wrappedLog with
    store := { wrappedLog.store with erases := [], reads := [⟨.t, true, kind⟩] }
    ports := { wrappedLog.ports with t := { wrappedLog.ports.t with request := some code } } }

theorem witness_GrantedReadsReplyAndMoveTheCursor :
    ((reading (.readLog 7) 0x50#8).grantedRead = some ⟨.t, true, .readLog 7⟩ ∧
      ((reading (.readLog 7) 0x50#8).port .t).request = some 0x50#8) ∧
    (let s := reading (.seekLog 0#32 1000000#32) 0x51#8
     s.grantedRead = some ⟨.t, true, .seekLog 0#32 1000000#32⟩ ∧
       s.store.seekStep 0#32 (s.store.seekFrom 1000000#32) = .done none) ∧
    (let s := reading (.seekLog 775000001#32 1000000#32) 0x51#8
     let u : State := { s with store := { s.store with flash := s.store.flash ++
       [(504 * 256 + 1, .record ⟨1000510#32, 0, .sample aSample⟩), (600 * 256, .header .log false 5 1000700#32),
        (600 * 256 + 1, .record ⟨1000700#32, 0, .sample aSample⟩)] } }
     u.store.seekStep 775000001#32 (u.store.seekFrom 1000000#32) = .more 1000511#32) ∧
    ((reading (.readJournal 23 0) 0x53#8).grantedRead = some ⟨.t, true, .readJournal 23 0⟩) ∧
    (let s := reading (.readLog 7) 0x50#8
     s.store.robin = .l ∧ s.arbiter = some .read ∧ s.store.reads = [] ++ ⟨.t, true, .readLog 7⟩ :: [] ∧
       (¬∃ x ∈ s.store.reads, x.port = .l) ∧ up.arbiter ≠ some .read) ∧
    (let s := memory fun st => { st with channel := .searched [.l], reads := [⟨.l, true, .readLog 1⟩, ⟨.t, true, .readLog 1⟩] }
     s.store.robin = .l ∧ s.arbiter = some .read ∧ Port.t ∉ [Port.l] ∧ ¬∀ x ∈ s.store.reads, x.port ∈ [Port.l]) := by
  decide +kernel

/-! #### Configuration, identity and start-up -/

theorem witness_ConfigurationIsWrittenWithinItsRules :
    (up.takes .l 0x61#8 (le8 (Item.row .holdTime).code ++ sle32 (-2147483648)) = true ∧
      up.takes .l 0x61#8 (le8 (Item.row (.perm .l)).code ++ sle32 127) = true) ∧
    ((Item.row .sourceMode).least ≤ 2 ∧ 2 ≤ (Item.row .sourceMode).greatest ∧ ¬3 ≤ (Item.row .sourceMode).greatest) ∧
    ((up.warn.level.rank : Int) ≤ 0 ∧ (0 : Int) < limitLowered.warn.level.rank ∧ limitLowered.run = some (gauging 2) ∧
      (gauging 2).active = true ∧ limitLowered.takes .l 0x61#8 (le8 (Item.row .runLimit).code ++ sle32 0) = true) ∧
    Level.watch ≠ up.warn.level ∧
    (let s : State := { up with sched := ⟨775000800#32, none, none⟩ }
     s.warn.level = .normal ∧ s.takes .l 0x61#8 (le8 (Item.row (.interval .normal)).code ++ sle32 899) = true ∧
       600 ∈ intervalMembers ∧ (600 : Int) ≤ 899 ∧ 600 ≠ s.cfg.intervalOf .normal ∧
       nextSampleAfter 10 s.backup.clock.toNat < s.sched.nextSample) ∧
    (up.takes .l 0x61#8 [0x00#8, 0#8, 0#8, 0#8, 0#8] = true ∧ ∀ i ∈ allItems, i.row.code ≠ (0x00#8 : Byte).toNat) ∧
    (up.takes .l 0x13#8 [2#8] = true ∧ up.takes .l 0x13#8 [3#8] = true) ∧
    ((up.withMaint false).takes .l 0x63#8 [BitVec.ofNat 8 Port.t.number, 0x7F#8] = true ∧
      (up.withMaint true).takes .l 0x63#8 [BitVec.ofNat 8 Port.l.number, 0x3F#8] = true ∧
      (0x3F#8 : Byte).getLsbD 6 = false ∧ (up.withMaint true).takes .l 0x63#8 [BitVec.ofNat 8 Port.t.number, 0x80#8] = true ∧
      (0x7F#8 : Byte).toNat < 128 ∧ 128 ≤ (0x80#8 : Byte).toNat) := by decide +kernel

theorem witness_ResetIsArrangedAndIdentDeferred :
    up.takes .l 0x05#8 [] = true ∧
    (let s : State := { up with resetReq := some ⟨.l, 10000, false⟩ }
     s.running = true ∧ s.resetReq = some ⟨.l, 10000, false⟩ ∧ (10000 : Nat) ≤ 10000 ∧ (9999 : Nat) < 10000) ∧
    (let s : State := { starting with ports := { starting.ports with
       t := { PortState.fresh with request := some 0x01#8 } } }
     s.phase = .starting ∧ (s.port .t).request = some 0x01#8) ∧
    (starting.phase = .starting ∧ starting.identRead = false ∧ starting.takes .l 0x01#8 [] = true) := by decide +kernel

theorem witness_SupplyAndResetPinStartThePart :
    (off.phase = .off ∧ off.backup.valid = false ∧ off.resetLow = false) ∧
    (({ off with backup := up.backup }).backup.valid = true) ∧ up.phase ≠ .off ∧
    (up.resetLow = false ∧ ({ up with phase := .held, resetLow := true }).phase = .held ∧ up.phase ≠ .held) ∧
    (up.store.channel = .free ∧ up.phase ≠ .starting ∧ starting.phase = .starting ∧ starting.store.channel = .free ∧ starting.unclosed = [] ∧
      ({ starting with resetLow := true }).resetLow = true) := by decide +kernel

/-- A part in STARTING whose journal holds the header of a run without a trailer. -/
def unclosed : State :=
  let header : RunHeader := ⟨23, 769400000#32, meterDesc, some 1452⟩
  let flash : Flash := [(6 * 256, .header .journal false 1 0#32), (6 * 256 + 1, .entry (.header header) 0),
    (6 * 256 + 2, .entry (.header header) 1)]
  { State.reset with store := .fresh flash }

/-- R192: a scan broken off after the first unit of its ABANDONED trailer has verified leaves that unit in flash. -/
theorem test_scan_broken_off :
    (unclosed.scannedSoFar [true] false).store.flash.length = 4 ∧
      (unclosed.scannedSoFar [] true).store.flash.length = 3 ∧
      (unclosed.scannedSoFar [] true).store.channel ≠ .free := by decide +kernel

/-- The same run's header in the block after a full current block, which its trailer needs. -/
def unclosedInTheWay : State :=
  let header : RunHeader := ⟨23, 769400000#32, meterDesc, some 1452⟩
  let flash : Flash := (7 * 256, .header .journal false 2 0#32) ::
    (List.range 255).map (fun k => (7 * 256 + 1 + k, .garbled)) ++
    [(8 * 256, .header .journal false 1 0#32), (8 * 256 + 1, .entry (.header header) 0),
      (8 * 256 + 2, .entry (.header header) 1)]
  { State.reset with store := .fresh flash }

/-- Whether a unit is the first of a trailer of run 23. -/
def isTrailerUnit : FlashUnit → Bool
  | .entry (.trailer t) 0 => decide (t.runId = 23)
  | _ => false

/-- R113: the newest run id is that of the lost run also where its trailer takes the place of its header. -/
theorem test_scan_keeps_the_lost_run_id :
    unclosedInTheWay.unclosed = [23] ∧ (unclosedInTheWay.scan []).newestRunId = 23 ∧
      ((unclosedInTheWay.scan []).store.flash.read (8 * 256 + 1)).any isTrailerUnit = true := by decide +kernel

theorem witness_ReadyEntryRestoresFromTheLog :
    (starting.phase = .starting ∧ starting.backup.held = true ∧ starting.store.flash.scanLog.newest = none) ∧
    (let s : State := { starting with
       store := .fresh [(9728, .header .log false 1 0#32), (9729, .record aRecord)]
       backup := { up.backup with held := false } }
     s.phase = .starting ∧ s.backup.held = false ∧ s.store.flash.scanLog.newest = some aRecord) := by decide +kernel

end Sys2Proof.Tests
end

section
/-! PROOFS. The fields of a payload, read back as they were written (spec/00), and what the readers of the
rating commands' payloads take and do not take (R54, R56, R57, R70). -/

namespace Sys2Proof.Machine

/-! ### The fields of a payload -/

/-- A 2-byte field carries a number modulo 2^16. -/
theorem u16_le16 (n : Nat) : u16 (BitVec.ofNat 8 n) (BitVec.ofNat 8 (n / 256)) = n % 65536 := by
  simp only [u16, BitVec.toNat_ofNat]
  omega

/-- A signed 2-byte field carries a number of its range. -/
theorem s16_sle16 {x : Int} (hlo : -32768 ≤ x) (hhi : x ≤ 32767) :
    s16 (BitVec.ofNat 8 (BitVec.ofInt 16 x).toNat) (BitVec.ofNat 8 ((BitVec.ofInt 16 x).toNat / 256)) = x := by
  rw [s16, u16_le16, Nat.mod_eq_of_lt (BitVec.isLt _), BitVec.ofNat_toNat, BitVec.setWidth_eq, BitVec.toInt_ofInt]
  exact Int.bmod_eq_of_le (by omega) (by omega)

/-- A 4-byte field carries a number modulo 2^32. -/
theorem u32_le32 (n : Nat) : u32 (BitVec.ofNat 8 n) (BitVec.ofNat 8 (n / 256)) (BitVec.ofNat 8 (n / 65536))
    (BitVec.ofNat 8 (n / 65536 / 256)) = n % 2 ^ 32 := by
  rw [u32, u16_le16, u16_le16]
  omega

/-- A 4-byte field carries a wrapping 32-bit quantity. -/
theorem word32_leWord (w : Word32) : word32 (BitVec.ofNat 8 w.toNat) (BitVec.ofNat 8 (w.toNat / 256))
    (BitVec.ofNat 8 (w.toNat / 65536)) (BitVec.ofNat 8 (w.toNat / 65536 / 256)) = w := by
  rw [word32, u32_le32, Nat.mod_eq_of_lt w.isLt, BitVec.ofNat_toNat, BitVec.setWidth_eq]

/-- The extension limit of DRAFT_SET_EXTENSION is read as it was written (R57). -/
theorem parseSigned_sle16 {x : Int} (hlo : -32768 ≤ x) (hhi : x ≤ 32767) : parseSigned (sle16 x) = some x :=
  congrArg some (s16_sle16 hlo hhi)

/-- The entry of DRAFT_PUT_SHIFT is read as it was written (R56). -/
theorem parseShift_written (i : Byte) (t : Word32) {x : Int} (hlo : -32768 ≤ x) (hhi : x ≤ 32767) :
    parseShift (i :: (leWord t ++ sle16 x)) = some (i.toNat, ⟨t, x⟩) := by
  simp only [leWord, le32, le16, sle16, List.cons_append, List.nil_append, parseShift]
  rw [word32_leWord, s16_sle16 hlo hhi]

/-- Points are read as they were written (R54). -/
theorem parsePoints_written {ps : List RatingPoint}
    (hps : ∀ x ∈ ps, -32768 ≤ x.stage ∧ x.stage ≤ 32767 ∧ x.q < 2 ^ 32) :
    parsePoints (ps.flatMap fun x => sle16 x.stage ++ le32 x.q) = some ps := by
  induction ps with
  | nil => rfl
  | cons p ps ih =>
    obtain ⟨hlo, hhi, hq⟩ := hps p List.mem_cons_self
    have hrest := ih fun x hx => hps x (List.mem_cons_of_mem _ hx)
    simp only [sle16, le32, le16, List.flatMap_cons, List.cons_append, List.nil_append] at hrest ⊢
    rw [parsePoints, hrest, s16_sle16 hlo hhi, u32_le32, Nat.mod_eq_of_lt hq]
    rfl

/-- Only whole points are read (R54). -/
theorem length_of_parsePoints {bs : List Byte} {ps : List RatingPoint} (h : parsePoints bs = some ps) :
    bs.length = 6 * ps.length := by
  induction bs using parsePoints.induct generalizing ps with
  | case1 =>
    cases h
    rfl
  | case2 a b q0 q1 q2 q3 rest ih =>
    obtain ⟨ps', hps', rfl⟩ := Option.map_eq_some_iff.1 h
    simp only [List.length_cons, ih hps']
    omega
  | case3 bs hnil hshort => simp [parsePoints.eq_3 bs hnil hshort] at h

/-- DRAFT_PUT_POINTS is read as it was written, its first index before 1 to 20 points (R54). -/
theorem parsePutPoints_written (first : Byte) {ps : List RatingPoint} (hone : 1 ≤ ps.length) (hmost : ps.length ≤ 20)
    (hps : ∀ x ∈ ps, -32768 ≤ x.stage ∧ x.stage ≤ 32767 ∧ x.q < 2 ^ 32) :
    parsePutPoints (first :: ps.flatMap fun x => sle16 x.stage ++ le32 x.q) = some (first.toNat, ps) := by
  simp [parsePutPoints, parsePoints_written hps, hone, hmost]

/-- A payload that is not one byte and 1 to 20 points is not read (R54). -/
theorem parsePutPoints_none {pl : List Byte} (h : pl.length % 6 ≠ 1 ∨ pl.length < 7 ∨ 121 < pl.length) :
    parsePutPoints pl = none := by
  unfold parsePutPoints
  split
  · next i rest =>
    split
    · next ps hps =>
      have hlen := length_of_parsePoints hps
      rw [List.length_cons, hlen] at h
      exact if_neg (by omega)
    · rfl
  · rfl

/-- A payload of another length is no QUERY_DISCHARGE (R70). -/
theorem parseQuery_none {pl : List Byte} (h : pl.length ≠ 6) : parseQuery pl = none := by
  unfold parseQuery
  split
  · simp at h
  · rfl

end Sys2Proof.Machine
end

section
/-! PROOFS. The rating commands (spec/04): the answer of a request that is taken, what each edit makes of a
draft (R52 to R58), and QUERY_DISCHARGE (R70). -/

namespace Sys2Proof.Machine

/-! ### The answer of a request that is taken -/

/-- A request whose block changes nothing and answers at once leaves its arrival and the reply (R165, R168). -/
theorem State.serve_of_answer {s : State} {p : Port} {code : Byte} {payload : List Byte}
    {body : State → State × Option Answer} {a : Answer} (ht : s.takes p code payload = true)
    (hb : body ((s.arrived p payload).serving p code) = ((s.arrived p payload).serving p code, some a)) :
    s.serve p code payload body = (s.arrived p payload).answered p code a.status a.payload := by
  rw [State.serve_taken _ _ _ _ _ ht, hb, State.finish_answer _ _ code _ (by simp), State.serving_answered]

/-- A request whose block replaces the DRAFT slot and answers at once leaves its arrival, the slot and the reply. -/
theorem State.serve_of_draft {s : State} {p : Port} {code : Byte} {payload : List Byte}
    {body : State → State × Option Answer} {d : Draft} {a : Answer} (ht : s.takes p code payload = true)
    (hb : body ((s.arrived p payload).serving p code) =
      (((s.arrived p payload).serving p code).setDraft d, some a)) :
    s.serve p code payload body = ((s.arrived p payload).setDraft d).answered p code a.status a.payload := by
  have hcomm : ((s.arrived p payload).serving p code).setDraft d = ((s.arrived p payload).setDraft d).serving p code :=
    rfl
  rw [State.serve_taken _ _ _ _ _ ht, hb, hcomm, State.finish_answer _ _ code _ (by simp), State.serving_answered]

/-! ### Edits of a draft (R52) -/

section
variable {s : State} {p : Port} {d : RatingSet} (hd : s.rating.draft = .editing p d)
  {edit : RatingSet → Option (RatingSet × Answer)}
include hd

/-- The table takes an edit of the owner. -/
theorem RatingUnit.draftCheck_owner {c : DraftCommand} (hc : c ≠ .activate) : s.rating.draftCheck p c = none := by
  simp [RatingUnit.draftCheck, hd, hc]

/-- An edit whose own check fails is refused. -/
theorem editDraft_refused (he : edit d = none) : editDraft p s edit = (s, some ⟨.badArgument, []⟩) := by
  simp [editDraft, RatingUnit.draftCheck_owner hd, hd, he, refuse]

/-- An edit whose own check passes replaces the draft. -/
theorem editDraft_done {d' : RatingSet} {a : Answer} (he : edit d = some (d', a)) :
    editDraft p s edit = (s.setDraft (.editing p d'), some a) := by
  simp [editDraft, RatingUnit.draftCheck_owner hd, hd, he]

variable {code : Byte} {payload : List Byte} (ht : s.takes p code payload = true)
include ht

/-- A draft command of the owner whose own check fails is refused BAD_ARGUMENT. -/
theorem State.serve_edit_refused (he : edit d = none) : s.serve p code payload (fun u => editDraft p u edit) =
    (s.arrived p payload).answered p code .badArgument [] :=
  State.serve_of_answer (a := ⟨.badArgument, []⟩) ht (editDraft_refused (by simpa using hd) he)

/-- A draft command of the owner whose own check passes replaces the draft and is answered at once. -/
theorem State.serve_edit_done {d' : RatingSet} {a : Answer} (he : edit d = some (d', a)) :
    s.serve p code payload (fun u => editDraft p u edit) =
      ((s.arrived p payload).setDraft (.editing p d')).answered p code a.status a.payload :=
  State.serve_of_draft ht (editDraft_done (by simpa using hd) he)

end

/-! ### What each edit makes of a draft (R54 to R57) -/

/-- A draft as an edit leaves it that replies the counts (R54 to R56). -/
def RatingSet.edited (d : RatingSet) : RatingSet × Answer := (d, ⟨.ok, d.countsPayload⟩)

/-- A draft command of the owner that passes its own check and replies the counts (R54 to R56). -/
theorem State.serve_edit_counts {s : State} {p : Port} {d d' : RatingSet} {code : Byte} {payload : List Byte}
    {edit : RatingSet → Option (RatingSet × Answer)} (hd : s.rating.draft = .editing p d)
    (ht : s.takes p code payload = true) (he : edit d = some d'.edited) :
    s.serve p code payload (fun u => editDraft p u edit) =
      ((s.arrived p payload).setDraft (.editing p d')).answered p code .ok
        [BitVec.ofNat 8 d'.points.length, BitVec.ofNat 8 d'.shifts.length] :=
  State.serve_edit_done hd ht he

/-- A range holds what lies between its ends. -/
theorem inRange_iff (lo hi x : Int) : inRange lo hi x = true ↔ lo ≤ x ∧ x ≤ hi := by simp [inRange]

/-- R49's ranges of a point. -/
theorem RatingPoint.inRange_iff (x : RatingPoint) :
    x.inRange = true ↔ -9999 ≤ x.stage ∧ x.stage ≤ 29999 ∧ x.q ≤ 100000000 := by
  simp only [RatingPoint.inRange, Bool.and_eq_true, Machine.inRange_iff, decide_eq_true_eq, and_assoc]
  rfl

section
variable {d : RatingSet} {first : Nat} {ps : List RatingPoint}

/-- Points that fit are written in order (R54). -/
theorem RatingSet.withPoints_fits (h : first ≤ d.points.length ∧ first + ps.length ≤ 64 ∧
      ∀ x ∈ ps, -9999 ≤ x.stage ∧ x.stage ≤ 29999 ∧ x.q ≤ 100000000) :
    d.withPoints first ps = some { d with points := putPoints d.points ps first }.edited := by
  refine if_neg ?_
  simpa [RatingPoint.inRange_iff] using h

/-- Points that do not fit are not written (R54). -/
theorem RatingSet.withPoints_not_fits (h : ¬(first ≤ d.points.length ∧ first + ps.length ≤ 64 ∧
      ∀ x ∈ ps, -9999 ≤ x.stage ∧ x.stage ≤ 29999 ∧ x.q ≤ 100000000)) : d.withPoints first ps = none := by
  refine if_pos (Decidable.byContradiction fun hpass => h ?_)
  simpa [RatingPoint.inRange_iff] using hpass

/-- Points written at an index within the list or right after it leave no gap: the list ends with the longer of the
two (R54). -/
theorem length_putPoints (hfirst : first ≤ d.points.length) :
    (putPoints d.points ps first).length = max d.points.length (first + ps.length) := by
  simp only [putPoints, List.length_append, List.length_take, List.length_drop]
  omega

/-- A count within the list truncates it there (R55). -/
theorem RatingSet.truncated_within {count : Nat} (h : count ≤ d.points.length) :
    d.truncated count = some { d with points := d.points.take count }.edited := if_neg (Nat.not_lt.2 h)

/-- A count above the present one does not (R55). -/
theorem RatingSet.truncated_above {count : Nat} (h : d.points.length < count) : d.truncated count = none := if_pos h

/-- The stored extension limit is the nearest of its range, CLAMPED when it is another (R57). -/
theorem RatingSet.withExtension_eq (d : RatingSet) (x : Int) :
    d.withExtension x = some ({ d with ext := max 0 (min 5000 x) },
      ⟨if 0 ≤ x ∧ x ≤ 5000 then .ok else .clamped, sle16 (max 0 (min 5000 x))⟩) := by
  have hstored : clampInt 0 5000 x = max 0 (min 5000 x) := by
    unfold clampInt
    split <;> omega
  have hsame : max 0 (min 5000 x) = x ↔ 0 ≤ x ∧ x ≤ 5000 := by omega
  simp only [RatingSet.withExtension, hstored, hsame]

end

section
variable {d : RatingSet} {i : Nat} {e : ShiftEntry}

/-- An entry that does not fit is not written (R56). -/
theorem RatingSet.withShift_not_fits (h : ¬(i ≤ 7 ∧ i ≤ d.shifts.length ∧ -2000 ≤ e.shift ∧ e.shift ≤ 2000)) :
    d.withShift i e = none := by
  refine if_pos (Decidable.byContradiction fun hpass => h ?_)
  simpa [inRange_iff] using hpass

variable (hfits : i ≤ 7 ∧ i ≤ d.shifts.length ∧ -2000 ≤ e.shift ∧ e.shift ≤ 2000)
include hfits

/-- An entry that fits is a removal, at the highest index only, or is written at its index (R56). -/
theorem RatingSet.withShift_fits : d.withShift i e =
    if e.effective = 0 ∧ e.shift = 0 then
      if i + 1 = d.shifts.length then some { d with shifts := d.shifts.take i }.edited else none
    else some { d with shifts := d.shifts.take i ++ e :: d.shifts.drop (i + 1) }.edited := by
  refine if_neg ?_
  simpa [inRange_iff] using hfits

/-- A removal at the highest index drops the last entry. -/
theorem RatingSet.withShift_removes (hr : e.effective = 0 ∧ e.shift = 0) (hi : i + 1 = d.shifts.length) :
    d.withShift i e = some { d with shifts := d.shifts.dropLast }.edited := by
  rw [RatingSet.withShift_fits hfits, if_pos hr, if_pos hi, List.dropLast_eq_take, ← hi, Nat.add_sub_cancel]

/-- A removal at another index is refused. -/
theorem RatingSet.withShift_removes_not (hr : e.effective = 0 ∧ e.shift = 0) (hi : i + 1 ≠ d.shifts.length) :
    d.withShift i e = none := by
  rw [RatingSet.withShift_fits hfits, if_pos hr, if_neg hi]

/-- An entry below the count is overwritten. -/
theorem RatingSet.withShift_overwrites (hr : ¬(e.effective = 0 ∧ e.shift = 0)) (hi : i < d.shifts.length) :
    d.withShift i e = some { d with shifts := d.shifts.set i e }.edited := by
  rw [RatingSet.withShift_fits hfits, if_neg hr, List.set_eq_take_append_cons_drop, if_pos hi]

/-- An entry at the count extends the list. -/
theorem RatingSet.withShift_extends (hr : ¬(e.effective = 0 ∧ e.shift = 0)) (hi : i = d.shifts.length) :
    d.withShift i e = some { d with shifts := d.shifts ++ [e] }.edited := by
  rw [RatingSet.withShift_fits hfits, if_neg hr, hi, List.take_length, List.drop_eq_nil_of_le (Nat.le_succ _)]

end

/-! ### The commands and their payloads -/

/-! The meaning of a rating command: its request is served by the block's function. -/

section
variable (p : Port) (payload : List Byte) (s : State)

theorem exec_queryDischarge :
    exec (.queryDischarge p payload) s = .next (s.serve p 0x21#8 payload (queryDischarge payload)) := rfl

theorem exec_draftBegin :
    exec (.draftBegin p payload) s = .next (s.serve p 0x22#8 payload (draftBegin p payload)) := rfl

theorem exec_draftPutPoints :
    exec (.draftPutPoints p payload) s = .next (s.serve p 0x23#8 payload (draftPutPoints p payload)) := rfl

theorem exec_draftTruncate :
    exec (.draftTruncate p payload) s = .next (s.serve p 0x24#8 payload (draftTruncate p payload)) := rfl

theorem exec_draftPutShift :
    exec (.draftPutShift p payload) s = .next (s.serve p 0x25#8 payload (draftPutShift p payload)) := rfl

theorem exec_draftSetExtension :
    exec (.draftSetExtension p payload) s = .next (s.serve p 0x26#8 payload (draftSetExtension p payload)) := rfl

theorem exec_draftDiscard :
    exec (.draftDiscard p payload) s = .next (s.serve p 0x28#8 payload (draftDiscard p payload)) := rfl

end

/-! What the block's function does with a payload that is read, and with one that is not. -/

section
variable {payload : List Byte}

theorem draftPutPoints_read (p : Port) {first : Nat} {ps : List RatingPoint}
    (h : parsePutPoints payload = some (first, ps)) :
    draftPutPoints p payload = fun s => editDraft p s fun d => d.withPoints first ps := by
  funext s
  simp [draftPutPoints, h]

theorem draftPutPoints_unread (p : Port) (h : parsePutPoints payload = none) :
    draftPutPoints p payload = fun s => refuse s .badArgument := by
  funext s
  simp [draftPutPoints, h]

theorem queryDischarge_unread (h : parseQuery payload = none) :
    queryDischarge payload = fun s => refuse s .badArgument := by
  funext s
  simp [queryDischarge, h]

theorem draftTruncate_read (p : Port) (b : Byte) :
    draftTruncate p [b] = fun s => editDraft p s fun d => d.truncated b.toNat := rfl

theorem draftPutShift_read (p : Port) {i : Nat} {e : ShiftEntry} (h : parseShift payload = some (i, e)) :
    draftPutShift p payload = fun s => editDraft p s fun d => d.withShift i e := by
  funext s
  simp [draftPutShift, h]

theorem draftSetExtension_read (p : Port) {x : Int} (h : parseSigned payload = some x) :
    draftSetExtension p payload = fun s => editDraft p s fun d => d.withExtension x := by
  funext s
  simp [draftSetExtension, h]

end

/-! ### Begin and discard (R53, R58) -/

/-- A draft may be begun over an empty slot, the owner's own draft and the PREVIOUS set (R52). -/
theorem RatingUnit.draftCheck_begin {u : RatingUnit} {p : Port}
    (h : u.draft = .empty ∨ (∃ d, u.draft = .editing p d) ∨ ∃ d, u.draft = .previous d) :
    u.draftCheck p .begin = none := by
  rcases h with h | ⟨d, h⟩ | ⟨d, h⟩ <;> simp [RatingUnit.draftCheck, h]

/-- The owner may discard its draft, and any port the PREVIOUS set (R52). -/
theorem RatingUnit.draftCheck_discard {u : RatingUnit} {p : Port}
    (h : (∃ d, u.draft = .editing p d) ∨ ∃ d, u.draft = .previous d) : u.draftCheck p .discard = none := by
  rcases h with ⟨d, h⟩ | ⟨d, h⟩ <;> simp [RatingUnit.draftCheck, h]

/-- DRAFT_BEGIN over a slot that the table lets it take: the byte is 0 or 1, or it is refused (R53). -/
theorem draftBegin_taken {s : State} {p : Port} (b : Byte) (h : s.rating.draftCheck p .begin = none) :
    draftBegin p [b] s = if 1 < b.toNat then refuse s .badArgument
      else ok (s.setDraft (.editing p (s.rating.begun (decide (b.toNat = 1)))))
        (s.rating.begun (decide (b.toNat = 1))).countsPayload := by
  simp [draftBegin, parseByte, h]

/-- A draft begun as a copy is the ACTIVE set without its id (R53). -/
theorem RatingUnit.begun_copy {u : RatingUnit} {r : RatingSet} (h : u.active = some r) :
    u.begun true = { r with id := 0 } := by
  simp [RatingUnit.begun, h]

/-- Any other draft begins empty, with an extension limit of 500 (R53). -/
theorem RatingUnit.begun_empty {u : RatingUnit} {copy : Bool} (h : copy = false ∨ u.active = none) :
    u.begun copy = { id := 0, points := [], shifts := [], ext := 500 } := by
  rcases h with rfl | h
  · rfl
  · cases copy <;> simp [RatingUnit.begun, h]

/-! ### The query (R70) -/

section
variable {s : State} {payload : List Byte} {x : Int} {t : Word32} (hread : parseQuery payload = some (x, t))
include hread

/-- A stage out of range is refused (R70). -/
theorem queryDischarge_out_of_range (h : x < -9999 ∨ 29999 < x) :
    queryDischarge payload s = refuse s .badArgument := by
  have hrange : inRange stageMin stageMax x = false := Bool.eq_false_iff.2 fun hin => by
    have : -9999 ≤ x ∧ x ≤ 29999 := (inRange_iff ..).1 hin
    omega
  simp [queryDischarge, hread, hrange]

/-- A query of a stage in range is answered from ACTIVE, and refused while there is none (R70). -/
theorem queryDischarge_in_range (hlo : -9999 ≤ x) (hhi : x ≤ 29999) :
    (s.rating.active = none → queryDischarge payload s = refuse s .wrongState) ∧
      ∀ r, s.rating.active = some r → queryDischarge payload s = ok s (r.queryPayload x t) := by
  have hrange : inRange stageMin stageMax x = true := (inRange_iff ..).2 ⟨hlo, hhi⟩
  constructor
  · intro hactive
    simp [queryDischarge, hread, hrange, hactive]
  · intro r hactive
    simp [queryDischarge, hread, hrange, hactive]

end

/-- The reply's index byte is 255 where no entry is in force (R70). -/
theorem RatingSet.queryPayload_eq (r : RatingSet) (x : Int) (t : Word32) : r.queryPayload x t =
    le16 r.id ++ le8 (((r.shiftEntry t).map Prod.fst).getD 0xFF) ++ sle16 (r.shiftAt t) ++ sle16 (x + r.shiftAt t) ++
      le32 (r.atRated (x + r.shiftAt t)).1 ++ flagsByte (r.atRated (x + r.shiftAt t)).2.bits := by
  unfold RatingSet.queryPayload
  cases r.shiftEntry t <;> rfl

/-! ### The obligations about the commands -/

/-- Settles O26: the checks of R70 in their order, and then the reply. -/
theorem queryDischargeRatesAnyStageAndTime : Obligations.QueryDischargeRatesAnyStageAndTime := by
  refine ⟨by decide, fun p s pl ht hlen => ?_, ?_⟩
  · rw [exec_queryDischarge, queryDischarge_unread (parseQuery_none hlen), State.serve_of_answer ht rfl]
  · intro p s a b t0 t1 t2 t3 ht x t
    have hread : parseQuery [a, b, t0, t1, t2, t3] = some (x, t) := rfl
    rw [exec_queryDischarge]
    refine ⟨fun hout => ?_, fun hlo hhi hnone => ?_, fun r hlo hhi hsome => ?_⟩
    · rw [State.serve_of_answer ht (queryDischarge_out_of_range hread hout)]
    · rw [State.serve_of_answer ht ((queryDischarge_in_range hread hlo hhi).1 (by simpa using hnone))]
    · rw [State.serve_of_answer ht ((queryDischarge_in_range hread hlo hhi).2 r (by simpa using hsome)),
        RatingSet.queryPayload_eq]

/-- Settles O35: the slot may be taken, and the byte then says what the draft begins as. -/
theorem draftBeginsAndIsDiscarded : Obligations.DraftBeginsAndIsDiscarded := by
  constructor
  · intro p b s ht hslot
    rw [exec_draftBegin]
    have hbegin := draftBegin_taken (s := (s.arrived p [b]).serving p 0x22#8) b
      (RatingUnit.draftCheck_begin (by simpa using hslot))
    simp only [State.serving_rating, State.arrived_rating] at hbegin
    refine ⟨fun h => ?_, fun r hb hr => ?_, fun hb => ?_⟩
    · rw [if_neg (by omega), RatingUnit.begun_empty (h.imp (fun hb => decide_eq_false (by omega)) And.right)] at hbegin
      rw [State.serve_of_draft ht hbegin]
      rfl
    · rw [if_neg (by omega), decide_eq_true hb, RatingUnit.begun_copy hr] at hbegin
      rw [State.serve_of_draft ht hbegin]
      rfl
    · rw [if_pos hb] at hbegin
      rw [State.serve_of_answer ht hbegin]
  · intro p s ht hslot
    have hbody : draftDiscard p [] ((s.arrived p []).serving p 0x28#8) =
        ok (((s.arrived p []).serving p 0x28#8).setDraft .empty) [] := by
      simp [draftDiscard, parseEmpty, RatingUnit.draftCheck_discard hslot]
    rw [exec_draftDiscard, State.serve_of_draft ht hbody]

/-- Settles O36: the payload is read as it was written, and the points then fit the draft or do not. -/
theorem draftPutPointsWritesInOrder : Obligations.DraftPutPointsWritesInOrder := by
  constructor
  · intro p pl s ht hlen
    rw [exec_draftPutPoints, draftPutPoints_unread p (parsePutPoints_none hlen), State.serve_of_answer ht rfl]
  · intro p first ps d s pl ht hd hone hmost hps fits points
    rw [exec_draftPutPoints, draftPutPoints_read p (parsePutPoints_written first hone hmost hps)]
    constructor
    · intro hfits
      rw [State.serve_edit_counts hd ht (RatingSet.withPoints_fits hfits), length_putPoints hfits.1]
      rfl
    · intro hfits
      rw [State.serve_edit_refused hd ht (RatingSet.withPoints_not_fits hfits)]

/-- Settles O37: a count within the list keeps as many points, and the extension limit is read as it was written. -/
theorem draftIsTruncatedAndExtended : Obligations.DraftIsTruncatedAndExtended := by
  refine ⟨fun p b d s ht hd => ?_, fun d => ⟨rfl, List.take_length⟩, fun p x d s ht hd hlo hhi => ?_⟩
  · rw [exec_draftTruncate, draftTruncate_read]
    constructor
    · intro hle
      rw [State.serve_edit_counts hd ht (RatingSet.truncated_within hle), List.length_take_of_le hle,
        BitVec.ofNat_toNat, BitVec.setWidth_eq]
    · intro hlt
      rw [State.serve_edit_refused hd ht (RatingSet.truncated_above hlt)]
  · rw [exec_draftSetExtension, draftSetExtension_read p (parseSigned_sle16 hlo hhi),
      State.serve_edit_done hd ht (RatingSet.withExtension_eq d x)]

/-- Settles O38: the payload is read as it was written, and each clause is a case of the edit. -/
theorem draftPutShiftWritesOrRemoves : Obligations.DraftPutShiftWritesOrRemoves := by
  intro p i t x d s pl ht hd hlo hhi fits removal badly well
  have hserve : exec (.draftPutShift p pl) s =
      .next (s.serve p 0x25#8 pl fun u => editDraft p u fun d => d.withShift i.toNat ⟨t, x⟩) := by
    rw [exec_draftPutShift, draftPutShift_read p (parseShift_written i t hlo hhi)]
  have hbadly (he : d.withShift i.toNat ⟨t, x⟩ = none) : badly :=
    hserve.trans (congrArg _ (State.serve_edit_refused hd ht he))
  have hwell {shifts : List ShiftEntry}
      (he : d.withShift i.toNat ⟨t, x⟩ = some { d with shifts := shifts }.edited) : well shifts :=
    hserve.trans (congrArg _ (State.serve_edit_counts hd ht he))
  exact ⟨fun hfits => hbadly (RatingSet.withShift_not_fits hfits),
    fun hfits hr hi => hwell (RatingSet.withShift_removes hfits hr hi),
    fun hfits hr hi => hbadly (RatingSet.withShift_removes_not hfits hr hi),
    fun hfits hr hi => hwell (RatingSet.withShift_overwrites hfits hr hi),
    fun hfits hr hi => hwell (RatingSet.withShift_extends hfits hr hi)⟩

end Sys2Proof.Machine
end

section
/-! PROOFS. The shift in force at a station time (R65). -/

namespace Sys2Proof.Machine

/-- The search goes through a list part by part. -/
theorem shiftEntryFrom_append (t : Word32) (front rest : List ShiftEntry) (i : Nat)
    (best : Option (Nat × ShiftEntry)) :
    shiftEntryFrom t i (front ++ rest) best =
      shiftEntryFrom t (i + front.length) rest (shiftEntryFrom t i front best) := by
  induction front generalizing i best with
  | nil => rfl
  | cons e es ih => simp [shiftEntryFrom, ih, Nat.add_assoc, Nat.add_comm 1]

/-- Entries that are not yet effective do not change what the search holds. -/
theorem shiftEntryFrom_not_effective {t : Word32} {es : List ShiftEntry} (i : Nat) (best : Option (Nat × ShiftEntry))
    (h : ∀ e ∈ es, t < e.effective) : shiftEntryFrom t i es best = best := by
  induction es generalizing i with
  | nil => rfl
  | cons e es ih =>
    have he : ¬e.effective ≤ t := BitVec.not_le.2 (h e List.mem_cons_self)
    simp only [shiftEntryFrom, laterShift, he, if_false]
    exact ih _ fun x hx => h x (List.mem_cons_of_mem _ hx)

/-- A step of the search holds one of the two candidates. -/
theorem laterShift_cases (t : Word32) (best : Option (Nat × ShiftEntry)) (i : Nat) (e : ShiftEntry) :
    laterShift t best i e = best ∨ laterShift t best i e = some (i, e) := by
  unfold laterShift
  split
  · split
    · exact .inr rfl
    · split
      · exact .inr rfl
      · exact .inl rfl
  · exact .inl rfl

/-- What the search holds is effective before a time if all its candidates are. -/
theorem shiftEntryFrom_before {t u : Word32} {es : List ShiftEntry} (i : Nat) {best : Option (Nat × ShiftEntry)}
    (hes : ∀ e ∈ es, e.effective < u) (hbest : ∀ b ∈ best, b.2.effective < u) :
    ∀ b ∈ shiftEntryFrom t i es best, b.2.effective < u := by
  induction es generalizing i best with
  | nil => exact hbest
  | cons e es ih =>
    refine ih _ (fun x hx => hes x (List.mem_cons_of_mem _ hx)) ?_
    rcases laterShift_cases t best i e with h | h <;> rw [h]
    · exact hbest
    · rintro b ⟨⟩
      exact hes e List.mem_cons_self

/-- An effective entry replaces one that is effective before it. -/
theorem laterShift_replaces {t : Word32} {best : Option (Nat × ShiftEntry)} (i : Nat) {e : ShiftEntry}
    (he : e.effective ≤ t) (hbest : ∀ b ∈ best, b.2.effective < e.effective) :
    laterShift t best i e = some (i, e) := by
  cases best with
  | none => simp [laterShift, he]
  | some b => simp [laterShift, he, hbest b rfl]

/-- The shift at a time is that of an effective entry between entries that are effective before it and entries that
are not yet. -/
theorem RatingSet.shiftAt_split {r : RatingSet} {t : Word32} {front back : List ShiftEntry} {e : ShiftEntry}
    (hr : r.shifts = front ++ e :: back) (he : e.effective ≤ t) (hfront : ∀ x ∈ front, x.effective < e.effective)
    (hback : ∀ x ∈ back, t < x.effective) : r.shiftAt t = e.shift := by
  have hfound : r.shiftEntry t = some (0 + front.length, e) := by
    rw [RatingSet.shiftEntry, hr, shiftEntryFrom_append, shiftEntryFrom,
      laterShift_replaces _ he (shiftEntryFrom_before 0 hfront (by simp)), shiftEntryFrom_not_effective _ _ hback]
  simp [RatingSet.shiftAt, hfound]

/-- No shift is in force before the first entry is effective. -/
theorem RatingSet.shiftAt_not_effective {r : RatingSet} {t : Word32} (h : ∀ e ∈ r.shifts, t < e.effective) :
    r.shiftAt t = 0 := by
  simp [RatingSet.shiftAt, RatingSet.shiftEntry, shiftEntryFrom_not_effective _ _ h]

/-- Settles O40: the times rise, so the greatest effective entry parts the list into those before it and those that
are not yet effective. -/
theorem shiftInForceIsTheLatestEffective : Obligations.ShiftInForceIsTheLatestEffective := by
  refine fun r t hrising => ⟨fun e he heff hmax => ?_, RatingSet.shiftAt_not_effective⟩
  obtain ⟨front, back, hr⟩ := List.append_of_mem he
  rw [hr, List.pairwise_append, List.pairwise_cons] at hrising
  obtain ⟨-, ⟨hback, -⟩, hfront⟩ := hrising
  refine RatingSet.shiftAt_split hr heff (fun x hx => hfront x hx e List.mem_cons_self) fun x hx => ?_
  refine BitVec.not_le.1 fun hx' => BitVec.not_le.2 (hback x hx) (hmax x ?_ hx')
  simp [hr, hx]

end Sys2Proof.Machine
end

section
/-! PROOFS. The discharge of a valid set at a stage and a station time (R66). -/

namespace Sys2Proof.Machine

/-! ### What a valid set says of its points (R49, R59) -/

theorem pointFollows_iff (a b : RatingPoint) : pointFollows a b = true ↔ a.stage < b.stage ∧ a.q ≤ b.q := by
  simp [pointFollows]

/-- A list without a fault rises in stage and does not fall in discharge, from any point to any later one. -/
theorem pointFault_none {ps : List RatingPoint} {i : Nat} (h : pointFault i ps = none) :
    ps.Pairwise fun a b => a.stage < b.stage ∧ a.q ≤ b.q := by
  induction ps generalizing i with
  | nil => exact .nil
  | cons a rest ih =>
    cases rest with
    | nil => exact List.pairwise_singleton _ _
    | cons b rest =>
      unfold pointFault at h
      split at h
      · next hab =>
        have hrest := ih h
        rw [pointFollows_iff] at hab
        refine List.pairwise_cons.2 ⟨?_, hrest⟩
        rintro c (_ | ⟨_, hc⟩)
        · exact hab
        · obtain ⟨hstage, hq⟩ := (List.pairwise_cons.1 hrest).1 c hc
          exact ⟨Int.lt_trans hab.1 hstage, Nat.le_trans hab.2 hq⟩
      · simp at h

/-- What the discharge needs of a valid set: two points or more, in rising order, none above the greatest discharge of
a point, and an extension limit that is not negative. -/
theorem RatingSet.rises_of_valid {r : RatingSet} (h : r.valid = true) :
    2 ≤ r.points.length ∧ (r.points.Pairwise fun a b => a.stage < b.stage ∧ a.q ≤ b.q) ∧
      (∀ p ∈ r.points, p.q ≤ 100000000) ∧ 0 ≤ r.ext := by
  simp only [RatingSet.valid, Bool.and_eq_true, Option.isNone_iff_eq_none, List.all_eq_true, RatingPoint.inRange,
    Machine.inRange, decide_eq_true_eq] at h
  obtain ⟨⟨⟨⟨-, hfault⟩, hpoints⟩, hext, -⟩, -⟩ := h
  unfold RatingSet.activationFault at hfault
  split at hfault
  · simp at hfault
  · next hlen =>
    refine ⟨by omega, ?_, fun p hp => (hpoints p hp).2, hext⟩
    split at hfault
    · simp at hfault
    · next hnone => exact pointFault_none hnone

/-! ### The formula of a segment (R66) -/

/-- A greater dividend rounds no lower. -/
theorem roundHalfUp_mono {n m : Nat} (d : Nat) (h : n ≤ m) : roundHalfUp n d ≤ roundHalfUp m d :=
  Nat.div_le_div_right (by omega)

/-- A whole quotient is not changed by the rounding. -/
theorem roundHalfUp_mul (n : Nat) {d : Nat} (h : 0 < d) : roundHalfUp (n * d) d = n := by
  have hsum : 2 * (n * d) + d = d + n * (2 * d) := by
    rw [Nat.mul_left_comm, Nat.add_comm]
  rw [roundHalfUp, hsum, Nat.add_mul_div_right _ _ (by omega), Nat.div_eq_of_lt (by omega), Nat.zero_add]

/-- The formula begins at the discharge of the segment's first point. -/
theorem le_interpolate (a b : RatingPoint) (h : Int) : a.q ≤ interpolate a b h := Nat.le_add_right _ _

/-- The formula does not fall with the stage. -/
theorem interpolate_mono (a b : RatingPoint) {h h' : Int} (hle : h ≤ h') : interpolate a b h ≤ interpolate a b h' := by
  refine Nat.add_le_add_left (roundHalfUp_mono _ (Nat.mul_le_mul_left _ ?_)) _
  omega

/-- The formula gives the second point's discharge at its stage. -/
theorem interpolate_end {a b : RatingPoint} (hstage : a.stage < b.stage) (hq : a.q ≤ b.q) :
    interpolate a b b.stage = b.q := by
  rw [interpolate, roundHalfUp_mul _ (by omega)]
  omega

/-! ### The discharge on the points (R66) -/

section
variable {ps : List RatingPoint} (hps : ps.Pairwise fun a b => a.stage < b.stage ∧ a.q ≤ b.q)
include hps

/-- A point lies below those after it. -/
theorem stage_lt_of_index_lt {i j : Nat} {a b : RatingPoint} (ha : ps[i]? = some a) (hb : ps[j]? = some b)
    (hij : i < j) : a.stage < b.stage := by
  obtain ⟨hi, rfl⟩ := List.getElem?_eq_some_iff.1 ha
  obtain ⟨hj, rfl⟩ := List.getElem?_eq_some_iff.1 hb
  exact (List.pairwise_iff_getElem.1 hps i j hi hj hij).1

/-- The discharge is that of the segment that holds the stage, the last segment reaching beyond its end. -/
theorem dischargeOn_segment {j : Nat} {a b : RatingPoint} {h : Int} (ha : ps[j]? = some a) (hb : ps[j + 1]? = some b)
    (hah : a.stage ≤ h) (hhb : h < b.stage ∨ j + 2 = ps.length) : dischargeOn ps h = interpolate a b h := by
  induction ps generalizing j with
  | nil => simp at ha
  | cons x rest ih =>
    obtain ⟨hx, hrest⟩ := List.pairwise_cons.1 hps
    match rest, j with
    | [], j => simp at hb
    | [y], 0 =>
      obtain ⟨rfl, rfl⟩ : x = a ∧ y = b := by simpa using And.intro ha hb
      rfl
    | [y], j + 1 => simp at hb
    | y :: z :: rest, 0 =>
      obtain ⟨rfl, rfl⟩ : x = a ∧ y = b := by simpa using And.intro ha hb
      have hlt : h < y.stage := by simpa using hhb
      simp [dischargeOn, hlt]
    | y :: z :: rest, j + 1 =>
      have hy : y.stage ≤ a.stage := by
        rcases List.mem_cons.1 (List.mem_of_getElem? ha : a ∈ y :: z :: rest) with rfl | hmem
        · exact Int.le_refl _
        · exact Int.le_of_lt ((List.pairwise_cons.1 hrest).1 a hmem).1
      have hlt : ¬h < y.stage := by omega
      simp only [dischargeOn, hlt, if_false]
      exact ih hrest ha hb (by simpa using hhb)

/-- The discharge is nowhere below the first point's. -/
theorem le_dischargeOn {first : RatingPoint} (hfirst : ps.head? = some first) (h : Int) :
    first.q ≤ dischargeOn ps h := by
  induction ps generalizing first with
  | nil => simp at hfirst
  | cons x rest ih =>
    obtain rfl : x = first := by simpa using hfirst
    obtain ⟨hx, hrest⟩ := List.pairwise_cons.1 hps
    match rest with
    | [] => exact Nat.le_refl _
    | [y] => exact le_interpolate _ _ _
    | y :: z :: rest =>
      unfold dischargeOn
      split
      · exact le_interpolate _ _ _
      · exact Nat.le_trans (hx y List.mem_cons_self).2 (ih hrest rfl)

/-- The discharge does not fall with the stage. -/
theorem dischargeOn_mono {h h' : Int} (hle : h ≤ h') : dischargeOn ps h ≤ dischargeOn ps h' := by
  induction ps with
  | nil => exact Nat.le_refl _
  | cons x rest ih =>
    obtain ⟨hx, hrest⟩ := List.pairwise_cons.1 hps
    match rest with
    | [] => exact Nat.le_refl _
    | [y] => exact interpolate_mono _ _ hle
    | y :: z :: rest =>
      obtain ⟨hstage, hq⟩ := hx y List.mem_cons_self
      simp only [dischargeOn]
      split
      · next hlt =>
        split
        · exact interpolate_mono _ _ hle
        · calc interpolate x y h ≤ interpolate x y y.stage := interpolate_mono _ _ (Int.le_of_lt hlt)
            _ = y.q := interpolate_end hstage hq
            _ ≤ dischargeOn (y :: z :: rest) h' := le_dischargeOn hrest rfl _
      · rw [if_neg (by omega)]
        exact ih hrest

end

/-! ### The cases of a set's discharge (R66) -/

/-- No discharge is marked before the cap. -/
theorem RatingSet.uncapped_capped (r : RatingSet) (h : Int) : (r.uncapped h).2.capped = false := by
  unfold RatingSet.uncapped
  split
  · rfl
  · split
    · rfl
    · split <;> rfl

/-- The cap bounds the discharge and marks one it took effect on. -/
theorem RatingSet.atRated_eq (r : RatingSet) (h : Int) : r.atRated h = (min dischargeCap (r.uncapped h).1,
    { (r.uncapped h).2 with capped := decide (dischargeCap < (r.uncapped h).1) }) := by
  unfold RatingSet.atRated
  by_cases hq : dischargeCap < (r.uncapped h).1
  · simp [hq, Nat.min_eq_left (Nat.le_of_lt hq)]
  · simp [hq, Nat.min_eq_right (Nat.not_lt.1 hq), ← r.uncapped_capped h]

section
variable {r : RatingSet} {first last : RatingPoint} (hfirst : r.points.head? = some first)
  (hlast : r.points.getLast? = some last)
include hfirst hlast

/-- The cases of the table, from the lowest stage upward. -/
theorem RatingSet.uncapped_eq (h : Int) : r.uncapped h =
    if h ≤ first.stage then (first.q, { noRatingFlags with below := true })
    else if last.stage + r.ext < h then
      (dischargeOn r.points (last.stage + r.ext), { noRatingFlags with beyond := true })
    else (dischargeOn r.points h, { noRatingFlags with extrapolated := decide (last.stage < h) }) := by
  obtain ⟨rest, hpoints⟩ := List.head?_eq_some_iff.1 hfirst
  have hstage : lastStage r.points = last.stage := by simp [lastStage, hlast]
  unfold RatingSet.uncapped
  rw [hstage]
  split
  · next hnil => simp [hpoints] at hnil
  · next hcons =>
    obtain ⟨rfl, -⟩ := List.cons_eq_cons.1 (hcons.symm.trans hpoints)
    rfl

variable (hvalid : r.valid = true)
include hvalid

/-- Before the cap a valid set's discharge lies between the first point's and that at the extension limit. -/
theorem RatingSet.uncapped_bounds (h : Int) :
    first.q ≤ (r.uncapped h).1 ∧ (r.uncapped h).1 ≤ dischargeOn r.points (last.stage + r.ext) := by
  obtain ⟨-, hrises, -, -⟩ := RatingSet.rises_of_valid hvalid
  have hleast := le_dischargeOn hrises hfirst
  rw [RatingSet.uncapped_eq hfirst hlast]
  split
  · exact ⟨Nat.le_refl _, hleast _⟩
  · split
    · exact ⟨hleast _, Nat.le_refl _⟩
    · next hle => exact ⟨hleast _, dischargeOn_mono hrises (Int.not_lt.1 hle)⟩

end

/-- Settles O41: each case of R66's table is a case of the model's, the stage lies on one segment of the rising points,
and the discharge does not fall as the stage rises. -/
theorem dischargeFollowsTheSegments : Obligations.DischargeFollowsTheSegments := by
  intro r stage t first last before hvalid hfirst hlast hbefore h segment atLimit capped
  obtain ⟨hlen, hrises, hq, hext⟩ := RatingSet.rises_of_valid hvalid
  have hhead : r.points[0]? = some first := by rw [← hfirst, List.head?_eq_getElem?]
  have hend : r.points[r.points.length - 1]? = some last := by rw [← hlast, List.getLast?_eq_getElem?]
  have hends : first.stage < last.stage := stage_lt_of_index_lt hrises hhead hend (by omega)
  have hbeforeLast : before.stage < last.stage := stage_lt_of_index_lt hrises hbefore hend (by omega)
  have hrate : r.rate stage t = _ := r.atRated_eq h
  have hcase := RatingSet.uncapped_eq hfirst hlast h
  have honLast : ∀ x, last.stage ≤ x → dischargeOn r.points x = segment before last x := fun x hx =>
    dischargeOn_segment hrises hbefore (by rwa [show r.points.length - 2 + 1 = r.points.length - 1 by omega])
      (Int.le_trans (Int.le_of_lt hbeforeLast) hx) (.inr (by omega))
  have hlimit : dischargeOn r.points (last.stage + r.ext) = atLimit := honLast _ (by omega)
  refine ⟨fun hle => ?_, fun j a b ha hb hlt hah hhb => ?_, fun hle hwithin => ?_, fun hbeyond => ?_, ?_⟩
  · rw [if_pos hle] at hcase
    rw [hrate, hcase]
    rfl
  · have hj : j + 1 < r.points.length := (List.getElem?_eq_some_iff.1 hb).1
    have hbLast : b.stage ≤ last.stage := by
      rcases Nat.lt_or_ge (j + 1) (r.points.length - 1) with hj' | hj'
      · exact Int.le_of_lt (stage_lt_of_index_lt hrises hb hend hj')
      · rw [show j + 1 = r.points.length - 1 by omega, hend] at hb
        exact Int.le_of_eq (congrArg RatingPoint.stage (Option.some.inj hb)).symm
    rw [if_neg (by omega), if_neg (by omega), dischargeOn_segment hrises ha hb hah (.inl hhb),
      decide_eq_false (by omega)] at hcase
    rw [hrate, hcase]
    rfl
  · rw [if_neg (by omega), if_neg (by omega), honLast h hle] at hcase
    rw [hrate, hcase]
    rfl
  · rw [if_neg (by omega), if_pos hbeyond, hlimit] at hcase
    rw [hrate, hcase]
    rfl
  · obtain ⟨hleast, hmost⟩ := RatingSet.uncapped_bounds hfirst hlast hvalid h
    have hcap : first.q ≤ 4000000000 := Nat.le_trans (hq first (List.mem_of_getElem? hhead)) (by decide)
    rw [hlimit] at hmost
    rw [hrate]
    exact ⟨Nat.le_min.2 ⟨hcap, hleast⟩,
      Nat.le_min.2 ⟨Nat.min_le_left _ _, Nat.le_trans (Nat.min_le_right _ _) hmost⟩⟩

end Sys2Proof.Machine
end

section
/-! PROOFS. Flood warning (spec/05): the ranges of the items, when a level qualifies (R73), and what the evaluation of
a sample leaves of the warning unit. -/

namespace Sys2Proof.Machine

/-! ### The ranges of the configuration (R185) -/

/-- The table lists every item. -/
theorem mem_allItems (i : Item) : i ∈ allItems := by
  cases i with
  | interval l => cases l <;> decide
  | stageEnter a | hyst a | rateEnter a | rateFloor a => cases a <;> decide
  | perm p => cases p <;> decide
  | _ => decide

/-- Each item of a configuration within its ranges lies between its least and greatest value. -/
theorem LiveConfig.get_bounds_of_inRange {c : LiveConfig} (h : c.inRange = true) (i : Item) :
    i.row.least ≤ c.get i ∧ c.get i ≤ i.row.greatest := by
  have hrow := List.all_eq_true.1 h i (mem_allItems i)
  simp only [Bool.and_eq_true, decide_eq_true_eq] at hrow
  exact hrow.1

/-! ### When a level qualifies (R73) -/

/-- A level qualifies by the stage, or by a rate that is present with the stage at or above the level's floor. -/
theorem LevelItems.qualifies_iff (i : LevelItems) (stage : Int) (rate : Option Int) :
    i.qualifies stage rate = true ↔
      i.stageEnter ≤ stage ∨ ∃ r, rate = some r ∧ i.rateEnter ≤ r ∧ i.rateFloor ≤ stage := by
  cases rate <;> simp [LevelItems.qualifies, LevelItems.rateQualifies]

/-- The computed level under a configuration: R73's chain over the items of the three levels. -/
theorem LiveConfig.warnItems_computed (c : LiveConfig) (stage : Int) (rate : Option Int) :
    c.warnItems.computed stage rate =
      if (c.levelItems .danger).qualifies stage rate then .danger
      else if (c.levelItems .warning).qualifies stage rate then .warning
      else if (c.levelItems .watch).qualifies stage rate then .watch
      else .normal := rfl

/-! ### What a level change and an evaluation leave of the warning unit -/

@[simp] theorem State.parkAbove_warn (s : State) (rise : Bool) (c : Level) : (s.parkAbove rise c).warn = s.warn := by
  unfold State.parkAbove
  split
  · exact State.park_warn ..
  · rfl

/-- A level change makes its record and then moves the siren; the rest of R78's order leaves the warning unit. -/
@[simp] theorem State.changeLevel_warn (s : State) (rise : Bool) (c : Level) (t : Word32) (now : Nat) :
    (s.changeLevel rise c t now).warn = (s.warn.moved c t now).sirenChanged rise c now := by
  simp [State.changeLevel]

@[simp] theorem WarningUnit.moved_computed (w : WarningUnit) (c : Level) (t : Word32) (now : Nat) :
    (w.moved c t now).computed = w.computed := rfl

/-- The siren's part of a level change leaves the computed level. -/
@[simp] theorem WarningUnit.sirenChanged_computed (w : WarningUnit) (rise : Bool) (c : Level) (now : Nat) :
    (w.sirenChanged rise c now).computed = w.computed := by
  simp only [WarningUnit.sirenChanged, apply_ite WarningUnit.computed, ite_self]

/-- R74 to R76 decide the level in force and leave the computed level. -/
theorem State.judge_computed (s : State) (c : Level) (x : StageSample) (stage : Int) :
    (s.judge c x stage).warn.computed = s.warn.computed := by
  unfold State.judge
  split
  · simp
  · dsimp only
    split
    · simp
    · rfl

/-- A sample with a stage is evaluated under the items as they are configured (R72, R73). -/
theorem State.evaluate_present {s : State} {x : StageSample} {stage : Int} (h : x.stage = some stage) :
    s.evaluate x =
      (s.loadWarnItems.mapWarn fun w => w.seen (s.cfg.warnItems.computed stage x.rate)).judge
        (s.cfg.warnItems.computed stage x.rate) x stage := by
  rw [State.evaluate, h]
  rfl

/-- The computed level held after a sample with a stage is R73's. -/
theorem State.evaluate_computed {s : State} {x : StageSample} {stage : Int} (h : x.stage = some stage) :
    (s.evaluate x).warn.computed = some (s.cfg.warnItems.computed stage x.rate) := by
  rw [State.evaluate_present h, State.judge_computed]
  rfl

/-- GET_WARNING's second byte is the rank of the computed level (R87). -/
theorem State.warningPayload_computed {s : State} {c : Level} (h : s.warn.computed = some c) :
    s.warningPayload[1]? = some (BitVec.ofNat 8 c.rank) := by
  simp [State.warningPayload, le8, h]

/-! ### The obligation -/

/-- Settles O42: the chain of R73 is read from DANGER down, and a negative rate lies below every entry rate, the least
of which is 1. -/
theorem computedLevelIsTheHighestThatQualifies : Obligations.ComputedLevelIsTheHighestThatQualifies := by
  intro s x stage hstage qualifies holds
  have hq (a : Above) : (s.cfg.levelItems a).qualifies stage x.rate = true ↔ qualifies a :=
    (s.cfg.levelItems a).qualifies_iff stage x.rate
  have hholds {c : Level} (hc : s.cfg.warnItems.computed stage x.rate = c) : holds c := by
    have hcomputed := hc ▸ State.evaluate_computed (s := s) hstage
    exact ⟨hcomputed, State.warningPayload_computed hcomputed⟩
  have hchain := s.cfg.warnItems_computed stage x.rate
  simp only [hq] at hchain
  refine ⟨fun hd => hholds ?_, fun hd hw => hholds ?_, fun hd hw hwatch => hholds ?_,
    fun hd hw hwatch => hholds ?_, fun habsent a => or_iff_left ?_, fun hrange hnegative a => or_iff_left ?_⟩
  · rw [hchain, if_pos hd]
  · rw [hchain, if_neg hd, if_pos hw]
  · rw [hchain, if_neg hd, if_neg hw, if_pos hwatch]
  · rw [hchain, if_neg hd, if_neg hw, if_neg hwatch]
  · rintro ⟨rate, hrate, -⟩
    rw [habsent] at hrate
    cases hrate
  · obtain ⟨rate, hrate, hlt⟩ := hnegative
    rintro ⟨rate', hrate', henter, -⟩
    obtain rfl : rate = rate' := Option.some.inj (hrate.symm.trans hrate')
    have hleast : 1 ≤ s.cfg.get (.rateEnter a) := (LiveConfig.get_bounds_of_inRange hrange (.rateEnter a)).1
    omega

end Sys2Proof.Machine
end

section
/-! PROOFS. The double widths of the vertical table (R124): each is the distance between the stations beside its place,
and in sum they are twice the distance between the ends. -/

namespace Sys2Proof.Machine

/-! ### The stations of a table (R122) -/

/-- Only the stations of a table are read. -/
theorem stationAt_eq (t : List Vertical) (i : Nat) : stationAt t i = (t.map Vertical.station)[i]?.getD 0 := by
  rw [List.getElem?_map]
  rfl

theorem stationAt_of_getElem? {t : List Vertical} {i : Nat} {x : Vertical} (h : t[i]? = some x) :
    stationAt t i = x.station := by
  simp [stationAt, h]

/-- The station of a vertical lies below those of all later ones. -/
theorem stations_pairwise {t : List Vertical} (h : stationsRise t = true) :
    t.Pairwise fun x y => x.station < y.station := by
  induction t with
  | nil => exact .nil
  | cons a rest ih =>
    cases rest with
    | nil => exact List.pairwise_singleton _ _
    | cons b rest =>
      simp only [stationsRise, Bool.and_eq_true, decide_eq_true_eq] at h
      obtain ⟨hab, hrest⟩ := h
      refine List.pairwise_cons.2 ⟨?_, ih hrest⟩
      rintro c (_ | ⟨_, hc⟩)
      · exact hab
      · exact Nat.lt_trans hab ((List.pairwise_cons.1 (ih hrest)).1 c hc)

/-- A place within a rising table has no greater station than a later one. -/
theorem stationAt_mono {t : List Vertical} (h : stationsRise t = true) {i j : Nat} (hij : i ≤ j)
    (hj : j < t.length) : stationAt t i ≤ stationAt t j := by
  rcases Nat.eq_or_lt_of_le hij with rfl | hlt
  · exact Nat.le_refl _
  · have hi : i < t.length := Nat.lt_trans hlt hj
    rw [stationAt_of_getElem? (List.getElem?_eq_getElem hi), stationAt_of_getElem? (List.getElem?_eq_getElem hj)]
    exact Nat.le_of_lt (List.pairwise_iff_getElem.1 (stations_pairwise h) i j hi hj hlt)

/-! ### The double width of a place (R124) -/

/-- The distance between the stations beside a place, an end of the table standing in for the station beyond it. -/
theorem doubleWidth_eq {t : List Vertical} {i : Nat} (h : i < t.length) :
    doubleWidth t i = stationAt t (min (i + 1) (t.length - 1)) - stationAt t (i - 1) := by
  unfold doubleWidth
  split
  · next hone => rw [show min (i + 1) (t.length - 1) = i - 1 by omega, Nat.sub_self]
  · split
    · next hfirst => rw [hfirst, show min (0 + 1) (t.length - 1) = 1 by omega]
    · split
      · rw [show min (i + 1) (t.length - 1) = i by omega]
      · rw [show min (i + 1) (t.length - 1) = i + 1 by omega]

/-- Tables of the same stations have the same double widths. -/
theorem doubleWidth_congr {t u : List Vertical} (h : u.map Vertical.station = t.map Vertical.station) (i : Nat) :
    doubleWidth u i = doubleWidth t i := by
  have hlen : u.length = t.length := by simpa using congrArg List.length h
  simp only [doubleWidth, stationAt_eq, h, hlen]

/-! ### Their sum (R124) -/

/-- The double widths up to a place reach from the first station to the place, and to the place before it. -/
theorem sum_doubleWidth_prefix {t : List Vertical} (h : stationsRise t = true) {k : Nat} (hk : k ≤ t.length) :
    ((List.range k).map (doubleWidth t)).sum + 2 * stationAt t 0 =
      stationAt t (min k (t.length - 1)) + stationAt t (k - 1) := by
  induction k with
  | zero => simp [Nat.two_mul]
  | succ k ih =>
    have hbefore := ih (by omega)
    have hrise : stationAt t (k - 1) ≤ stationAt t (min (k + 1) (t.length - 1)) :=
      stationAt_mono h (by omega) (by omega)
    rw [show min k (t.length - 1) = k by omega] at hbefore
    rw [List.range_succ, List.map_append, List.sum_append, List.map_singleton, List.sum_singleton,
      doubleWidth_eq hk, Nat.add_sub_cancel]
    omega

/-- In sum, twice the distance from the first station to the last. -/
theorem sum_doubleWidth {t : List Vertical} (h : stationsRise t = true) :
    ((List.range t.length).map (doubleWidth t)).sum = 2 * (stationAt t (t.length - 1) - stationAt t 0) := by
  have hall := sum_doubleWidth_prefix h (Nat.le_refl t.length)
  rw [Nat.min_eq_right (Nat.sub_le ..)] at hall
  omega

/-- Settles O51: each place by the distance between the stations beside it, and the sum by its prefixes. -/
theorem doubleWidthsSpanTheSection : Obligations.DoubleWidthsSpanTheSection := by
  intro t hrise
  refine ⟨fun hone => ?_, fun x y hx hy => ?_, fun x y htwo hx hy => ?_, fun i x y hx hy => ?_,
    fun x y hx hy => ?_, fun hempty => ?_, fun u => doubleWidth_congr⟩
  · rw [doubleWidth_eq (by omega), hone, Nat.min_zero, Nat.sub_self]
  · have hlen := (List.getElem?_eq_some_iff.1 hy).1
    rw [doubleWidth_eq (by omega), Nat.min_eq_left (by omega), stationAt_of_getElem? hx, stationAt_of_getElem? hy]
  · rw [doubleWidth_eq (by omega), Nat.min_eq_right (by omega), stationAt_of_getElem? hy, Nat.sub_sub,
      stationAt_of_getElem? hx]
  · have hlen := (List.getElem?_eq_some_iff.1 hy).1
    rw [doubleWidth_eq (by omega), Nat.min_eq_left (by omega), stationAt_of_getElem? hy, Nat.add_sub_cancel,
      stationAt_of_getElem? hx]
  · rw [List.head?_eq_getElem?] at hx
    rw [List.getLast?_eq_getElem?] at hy
    rw [sum_doubleWidth hrise, stationAt_of_getElem? hx, stationAt_of_getElem? hy]
  · subst hempty
    rfl

end Sys2Proof.Machine
end

section
/-! PROOFS. What a change of the state keeps: the invariants of O6 to O13, the queue of commands (O5), the slots of a
port in service (O17) and the events raised. Each is a preorder on states, so that what a command keeps follows from
what its parts keep. -/

namespace Sys2Proof.Machine

-- one theorem at a time: many elaborated side by side would take a thread and its stack each
set_option Elab.async false

/-- Two choices agree if their conditions and their outcomes do. -/
theorem ite_congr_iff {α : Type} {b c : Prop} [Decidable b] [Decidable c] {x u y v : α} (h : b ↔ c) (hx : x = u)
    (hy : y = v) : (if b then x else y) = if c then u else v :=
  ite_congr (propext h) (fun _ => hx) fun _ => hy

/-! ### The topics -/

/-- What the lemmas below follow through every operation of the model. -/
inductive Topic where
  | flash
  | table
  | events
  | siren
  | lockout
  | queues
  | buffer
  | draft
  | config
  | rating
  | pending
  | phase
  | slots
  | raised
  deriving DecidableEq

/-- A request of the code is in service on the port with its reply slot empty, or answered by a reply that echoes the
code (R168). -/
def PortState.servedOrAnswered (x : PortState) (code : Byte) : Prop :=
  (x.request = none ∧ ∃ a, x.reply = some a ∧ a.echo = code) ∨ (x.request = some code ∧ x.reply = none)

/-- The append buffer within its places, of consecutive sequences that end below next_seq, and empty outside READY
(R142, R151). -/
def State.BufferHolds (s : State) : Prop :=
  s.store.buffer.length ≤ bufferLimit ∧ s.store.dropped ≤ 255 ∧ sequencesRun s.store.nextSeq s.store.buffer = true ∧
    (s.phase = .ready ∨ s.store.buffer = [])

/-- The journal queue within its places (R157). -/
def State.QueueHolds (s : State) : Prop := s.store.journalQueue.length ≤ journalPlaces

theorem State.queuesHold_iff (s : State) : s.queuesHold = true ↔ s.BufferHolds ∧ s.QueueHolds := by
  simp only [State.queuesHold, State.BufferHolds, State.QueueHolds, Bool.and_eq_true, decide_eq_true_eq, Bool.or_eq_true,
    List.isEmpty_iff]
  exact ⟨fun ⟨⟨⟨⟨hbuffer, hqueue⟩, hdropped⟩, hseq⟩, hphase⟩ => ⟨⟨hbuffer, hdropped, hseq, hphase⟩, hqueue⟩,
    fun ⟨⟨hbuffer, hdropped, hseq, hphase⟩, hqueue⟩ => ⟨⟨⟨⟨hbuffer, hqueue⟩, hdropped⟩, hseq⟩, hphase⟩⟩

/-- A change from one state to another keeps a topic. -/
def Topic.kept : Topic → State → State → Prop
  | .flash, s, t => s.store.flash.wf = true → t.store.flash.wf = true
  | .table, s, t => s.tableHolds = true → t.tableHolds = true
  | .events, s, t => s.eventsHold = true → t.eventsHold = true
  | .siren, s, t => s.sirenHolds = true → t.sirenHolds = true
  | .lockout, s, t => s.lockoutHolds = true → t.lockoutHolds = true
  | .queues, s, t => s.QueueHolds → t.QueueHolds
  | .buffer, s, t => s.BufferHolds → t.BufferHolds
  | .draft, s, t => s.draftHolds = true → t.draftHolds = true
  | .config, s, t => s.configHolds = true → t.configHolds = true
  | .rating, s, t => s.ratingHolds = true → t.ratingHolds = true
  | .pending, s, t => t.pending = s.pending
  | .phase, s, t => t.phase = s.phase
  | .slots, s, t => ∀ p code, (s.port p).servedOrAnswered code → (t.port p).servedOrAnswered code
  | .raised, s, t => ∀ k, s.pendingWhereEnabled k → t.pendingWhereEnabled k

theorem Topic.kept_refl (a : Topic) (s : State) : a.kept s s := by
  cases a with
  | pending | phase => rfl
  | slots => exact fun _ _ => id
  | raised => exact fun _ => id
  | _ => exact id

theorem Topic.kept_trans {a : Topic} {s t u : State} (h : a.kept s t) (h' : a.kept t u) : a.kept s u := by
  cases a with
  | pending | phase => exact Eq.trans h' h
  | slots => exact fun p code => h' p code ∘ h p code
  | raised => exact fun k => h' k ∘ h k
  | _ => exact h' ∘ h

/-- A change keeps every topic but those listed. -/
def Keeps (but : List Topic) (s t : State) : Prop := ∀ a, a ∉ but → a.kept s t

namespace Keeps

theorem refl {but : List Topic} (s : State) : Keeps but s s := fun a _ => a.kept_refl s

theorem trans {but : List Topic} {s t u : State} (h : Keeps but s t) (h' : Keeps but t u) : Keeps but s u :=
  fun a ha => Topic.kept_trans (h a ha) (h' a ha)

theorem mono {but but' : List Topic} {s t : State} (h : Keeps but s t) (hb : but ⊆ but' := by simp) : Keeps but' s t :=
  fun a ha => h a fun hm => ha (hb hm)

/-- What keeps every topic keeps all but some. -/
theorem all {but : List Topic} {s t : State} (h : Keeps [] s t) : Keeps but s t := h.mono

/-- A topic of the exceptions that is kept after all. -/
theorem patch {a : Topic} {but : List Topic} {s t : State} (h : Keeps (a :: but) s t) (ha : a.kept s t) :
    Keeps but s t := fun b hb => by
  by_cases hab : b = a
  · exact hab ▸ ha
  · exact h b (by simp [hab, hb])

theorem ite {but : List Topic} {c : Prop} [Decidable c] {s t u : State} (ht : c → Keeps but s t)
    (hu : ¬c → Keeps but s u) : Keeps but s (if c then t else u) := by
  split
  · exact ht ‹_›
  · exact hu ‹_›

/-- A block's branches, its answer apart. -/
theorem iteBody {but : List Topic} {c : Prop} [Decidable c] {s : State} {x y : State × Option Answer}
    (hx : c → Keeps but s x.1) (hy : ¬c → Keeps but s y.1) : Keeps but s (if c then x else y).1 := by
  split
  · exact hx ‹_›
  · exact hy ‹_›

/-- A change that keeps the phase leaves it. -/
theorem phase_eq {but : List Topic} {s t : State} (h : Keeps but s t) (hb : .phase ∉ but := by simp) :
    t.phase = s.phase := h .phase hb

/-- A change to an equal state. -/
theorem of_eq {but : List Topic} {s t : State} (h : t = s) : Keeps but s t := by
  subst h
  exact refl t

/-- The topics read these parts of the state and no other. -/
theorem of_view {s t : State} (hphase : t.phase = s.phase := by rfl) (hcfg : t.cfg = s.cfg := by rfl)
    (hwarn : t.warn = s.warn := by rfl) (hrun : t.run = s.run := by rfl) (hrating : t.rating = s.rating := by rfl)
    (hports : t.ports = s.ports := by rfl) (hpending : t.pending = s.pending := by rfl)
    (hflash : t.store.flash = s.store.flash := by rfl) (hchannel : t.store.channel = s.store.channel := by rfl)
    (hclass4 : t.store.class4 = s.store.class4 := by rfl) (hbuffer : t.store.buffer = s.store.buffer := by rfl)
    (hdropped : t.store.dropped = s.store.dropped := by rfl) (hnext : t.store.nextSeq = s.store.nextSeq := by rfl)
    (hqueue : t.store.journalQueue = s.store.journalQueue := by rfl) {but : List Topic} : Keeps but s t := by
  intro a _
  cases a <;>
    simp only [Topic.kept, State.tableHolds, State.eventsHold, State.sirenHolds, State.lockoutHolds, State.lockedOut,
      State.QueueHolds, State.BufferHolds, State.draftHolds, State.configHolds, State.ratingHolds, Store.unitsHold,
      State.pendingWhereEnabled, State.port, hphase, hcfg, hwarn, hrun, hrating, hports, hpending, hflash, hchannel,
      hclass4, hbuffer, hdropped, hnext, hqueue, imp_self, implies_true]

/-! A change of one part of the state keeps the topics that do not read it. -/

section
variable (s : State)

theorem of_run (r : Option Run) : Keeps [.table, .lockout] s (s.setRun r) := fun a ha => by
  cases a <;> first | exact id | rfl | exact fun _ _ => id | exact fun _ => id | simp at ha

theorem of_warn (f : WarningUnit → WarningUnit) : Keeps [.siren, .lockout] s (s.mapWarn f) := fun a ha => by
  cases a <;> first | exact id | rfl | exact fun _ _ => id | exact fun _ => id | simp at ha

theorem of_cfg (c : LiveConfig) : Keeps [.lockout, .config] s { s with cfg := c } := fun a ha => by
  cases a <;> first | exact id | rfl | exact fun _ _ => id | exact fun _ => id | simp at ha

theorem of_rating (u : RatingUnit) : Keeps [.draft, .rating] s { s with rating := u } := fun a ha => by
  cases a <;> first | exact id | rfl | exact fun _ _ => id | exact fun _ => id | simp at ha

theorem of_ports (ps : Ports) : Keeps [.events, .slots, .raised] s { s with ports := ps } := fun a ha => by
  cases a <;> first | exact id | rfl | exact fun _ _ => id | exact fun _ => id | simp at ha

theorem of_flash (f : Flash) : Keeps [.flash, .config, .rating] s (s.setStore { s.store with flash := f }) :=
  fun a ha => by
  cases a <;> first | exact id | rfl | exact fun _ _ => id | exact fun _ => id | simp at ha

theorem of_channel (c : Channel) : Keeps [.config, .rating] s (s.setStore { s.store with channel := c }) :=
  fun a ha => by
  cases a <;> first | exact id | rfl | exact fun _ _ => id | exact fun _ => id | simp at ha

theorem of_class4 (ws : List Class4) : Keeps [.config, .rating] s (s.setStore { s.store with class4 := ws }) :=
  fun a ha => by
  cases a <;> first | exact id | rfl | exact fun _ _ => id | exact fun _ => id | simp at ha

theorem of_log (rs : List LogRecord) (dropped : Nat) (next : Word32) : Keeps [.buffer] s
    (s.setStore { s.store with buffer := rs, dropped := dropped, nextSeq := next }) := fun a ha => by
  cases a <;> first | exact id | rfl | exact fun _ _ => id | exact fun _ => id | simp at ha

theorem of_queue (qs : List QueuedEntry) : Keeps [.queues] s (s.setStore { s.store with journalQueue := qs }) :=
  fun a ha => by
  cases a <;> first | exact id | rfl | exact fun _ _ => id | exact fun _ => id | simp at ha

end

end Keeps

end Sys2Proof.Machine
end

section
/-! PROOFS. What the shared operations keep (Machine/Ops.lean, Machine/Log.lean): events, replies, port C's line, taking a
request, the schedule and the append buffer. -/

namespace Sys2Proof.Machine

-- one theorem at a time: many elaborated side by side would take a thread and its stack each
set_option Elab.async false

/-! ### The ports -/

theorem State.port_setPort (s : State) (p q : Port) (x : PortState) :
    (s.setPort p x).port q = if q = p then x else s.port q := by
  split
  · next h => rw [h, State.setPort_port_same]
  · next h => exact State.setPort_port_other _ _ _ _ h

/-- The pending sets hold port by port, RECALL on port C alone. -/
theorem State.eventsHold_iff (s : State) :
    s.eventsHold = true ↔ ∀ p, (s.port p).eventsHold = true ∧ (p ≠ .c → holdsRecall (s.port p) = false) := by
  constructor
  · intro h p
    simp only [State.eventsHold, Bool.and_eq_true, Bool.not_eq_true'] at h
    obtain ⟨⟨⟨⟨hl, ht⟩, hc⟩, hnl⟩, hnt⟩ := h
    cases p <;> simp_all [State.port, Ports.get]
  · intro h
    have hl := h .l
    have ht := h .t
    have hc := h .c
    simp_all [State.eventsHold, State.port, Ports.get]

/-- A change of a port keeps its pending set well formed, and every event of an enabled group that stands pending. -/
structure PortState.KeepsEvents (p : Port) (x y : PortState) : Prop where
  hold : x.eventsHold = true → y.eventsHold = true
  noRecall : p ≠ .c → holdsRecall x = false → holdsRecall y = false
  enabled : y.enables = x.enables
  raised : ∀ e ∈ x.events, ∃ e' ∈ y.events, e'.kind = e.kind

theorem PortState.KeepsEvents.of_eq {p : Port} {x y : PortState} (he : y.events = x.events := by rfl)
    (hn : y.enables = x.enables := by rfl) : PortState.KeepsEvents p x y where
  hold := by simp [PortState.eventsHold, he, hn]
  noRecall := by simp [holdsRecall, he]
  enabled := hn
  raised e h := ⟨e, he ▸ h, rfl⟩

/-- A change of one port that keeps its pending set well formed. -/
theorem State.setPort_keeps_hold {s : State} {p : Port} {x : PortState}
    (hold : (s.port p).eventsHold = true → x.eventsHold = true)
    (hrecall : p ≠ .c → holdsRecall (s.port p) = false → holdsRecall x = false) :
    Keeps [.slots, .raised] s (s.setPort p x) := fun a ha => by
  cases a with
  | events =>
    intro hs
    rw [State.eventsHold_iff] at hs ⊢
    intro q
    rw [State.port_setPort]
    split
    · next hqp => exact hqp ▸ ⟨hold (hs p).1, fun hc => hrecall hc ((hs p).2 hc)⟩
    · exact hs q
  | raised | slots => simp at ha
  | _ => exact Keeps.of_ports s _ _ (by simp)

/-- A change of one port that keeps its events keeps all but its slots. -/
theorem State.setPort_keeps {s : State} {p : Port} {x : PortState} (h : PortState.KeepsEvents p (s.port p) x) :
    Keeps [.slots] s (s.setPort p x) := by
  refine Keeps.patch (a := .raised) ((State.setPort_keeps_hold h.hold h.noRecall).mono) fun k hs q hq => ?_
  rw [State.port_setPort] at hq ⊢
  split at hq
  · next hqp =>
    obtain ⟨e, he, hk⟩ := hs p (h.enabled ▸ hq)
    obtain ⟨e', he', hk'⟩ := h.raised e he
    rw [if_pos hqp]
    exact ⟨e', he', hk'.trans hk⟩
  · next hqp =>
    rw [if_neg hqp]
    exact hs q hq

/-- It keeps the slots too if it keeps that port's. -/
theorem State.setPort_keeps_slots {s : State} {p : Port} {x : PortState} (h : PortState.KeepsEvents p (s.port p) x)
    (hslots : ∀ code, (s.port p).servedOrAnswered code → x.servedOrAnswered code) : Keeps [] s (s.setPort p x) :=
  (State.setPort_keeps h).patch fun q code hs => by
    rw [State.port_setPort]
    split
    · next hqp => exact hslots code (hqp ▸ hs)
    · exact hs

/-! ### Events -/

theorem addEvent_kinds (now : Word32) (k : EventKind) (es : List EventEntry) (e : EventEntry)
    (h : e ∈ addEvent now k es) : e.kind = k ∨ e ∈ es := by
  induction es with
  | nil => simp_all [addEvent]
  | cons x rest ih =>
    simp only [addEvent] at h
    split at h
    · next hk =>
      rcases List.mem_cons.1 h with rfl | h
      · exact .inl hk
      · exact .inr (List.mem_cons_of_mem _ h)
    · rcases List.mem_cons.1 h with rfl | h
      · exact .inr List.mem_cons_self
      · exact (ih h).imp id (List.mem_cons_of_mem _)

/-- Every kind that stood pending still does. -/
theorem exists_mem_addEvent (now : Word32) (k : EventKind) {es : List EventEntry} {e : EventEntry} (h : e ∈ es) :
    ∃ e' ∈ addEvent now k es, e'.kind = e.kind := by
  induction es with
  | nil => cases h
  | cons x rest ih =>
    simp only [addEvent]
    split
    · rcases List.mem_cons.1 h with rfl | h
      · exact ⟨_, List.mem_cons_self, rfl⟩
      · exact ⟨e, List.mem_cons_of_mem _ h, rfl⟩
    · rcases List.mem_cons.1 h with rfl | h
      · exact ⟨_, List.mem_cons_self, rfl⟩
      · obtain ⟨e', he', hk⟩ := ih h
        exact ⟨e', List.mem_cons_of_mem _ he', hk⟩

/-- The kind raised stands pending. -/
theorem exists_mem_addEvent_same (now : Word32) (k : EventKind) (es : List EventEntry) :
    ∃ e ∈ addEvent now k es, e.kind = k := by
  induction es with
  | nil => exact ⟨_, List.mem_cons_self, rfl⟩
  | cons x rest ih =>
    simp only [addEvent]
    split
    · next hk => exact ⟨_, List.mem_cons_self, hk⟩
    · obtain ⟨e, he, hk⟩ := ih
      exact ⟨e, List.mem_cons_of_mem _ he, hk⟩

theorem kindsDiffer_addEvent (now : Word32) (k : EventKind) {es : List EventEntry} (h : kindsDiffer es = true) :
    kindsDiffer (addEvent now k es) = true := by
  induction es with
  | nil => rfl
  | cons x rest ih =>
    simp only [kindsDiffer, Bool.and_eq_true, List.all_eq_true, decide_eq_true_eq] at h
    obtain ⟨hx, hrest⟩ := h
    simp only [addEvent]
    split
    · simpa [kindsDiffer, hrest] using hx
    · next hk =>
      simp only [kindsDiffer, ih hrest, Bool.and_true, List.all_eq_true, decide_eq_true_eq]
      intro e he
      rcases addEvent_kinds now k rest e he with h | h
      · rw [h]
        exact fun h' => hk h'.symm
      · exact hx e h

/-- Counts stay from 1 to 255. -/
theorem counts_addEvent (now : Word32) (k : EventKind) {es : List EventEntry}
    (h : ∀ e ∈ es, 1 ≤ e.count ∧ e.count ≤ 255) : ∀ e ∈ addEvent now k es, 1 ≤ e.count ∧ e.count ≤ 255 := by
  induction es with
  | nil => simp [addEvent]
  | cons x rest ih =>
    intro e he
    simp only [addEvent] at he
    have hrest := fun e he => h e (List.mem_cons_of_mem x he)
    split at he
    · rcases List.mem_cons.1 he with rfl | he
      · have := h x List.mem_cons_self
        simp only [saturate]
        split <;> omega
      · exact hrest e he
    · rcases List.mem_cons.1 he with rfl | he
      · exact h e List.mem_cons_self
      · exact ih hrest e he

/-- A port's pending set: kinds that differ, enabled groups, counts from 1 to 255. -/
theorem PortState.eventsHold_iff (x : PortState) : x.eventsHold = true ↔ kindsDiffer x.events = true ∧
    (∀ e ∈ x.events, x.enables.getLsbD e.kind.group.bit = true) ∧ ∀ e ∈ x.events, 1 ≤ e.count ∧ e.count ≤ 255 := by
  simp only [PortState.eventsHold, Bool.and_eq_true, List.all_eq_true, decide_eq_true_eq, and_assoc, forall_and]

theorem PortState.record_keeps {p : Port} {k : EventKind} (h : k = .recall → p = .c) (x : PortState) (now : Word32) :
    PortState.KeepsEvents p x (x.record now k) := by
  unfold PortState.record
  split
  · next hk =>
    refine ⟨fun hx => ?_, fun hp hx => ?_, rfl, fun e he => exists_mem_addEvent now k he⟩
    · obtain ⟨hkinds, hgroups, hcounts⟩ := (PortState.eventsHold_iff x).1 hx
      refine (PortState.eventsHold_iff _).2 ⟨kindsDiffer_addEvent now k hkinds, fun e he => ?_, counts_addEvent now k hcounts⟩
      rcases addEvent_kinds now k _ e he with h | h
      · exact h ▸ hk
      · exact hgroups e h
    · simp only [holdsRecall, List.any_eq_false, decide_eq_true_eq] at hx ⊢
      intro e he
      rcases addEvent_kinds now k _ e he with h' | h'
      · exact fun hr => hp (h (h' ▸ hr))
      · exact hx e h'
  · exact .of_eq

theorem PortState.record_slots (x : PortState) (now : Word32) (k : EventKind) (code : Byte) :
    (x.record now k).servedOrAnswered code ↔ x.servedOrAnswered code := by
  rw [PortState.record_eq]
  rfl

theorem State.raiseOn_keeps {but : List Topic} (s : State) {p : Port} {k : EventKind} (h : k = .recall → p = .c) :
    Keeps but s (s.raiseOn p k) := Keeps.all <| by
  unfold State.raiseOn
  split
  · exact State.setPort_keeps_slots (PortState.record_keeps h _ _) fun code => (PortState.record_slots ..).2
  · exact .refl s

theorem State.raiseAll_keeps {but : List Topic} (s : State) {k : EventKind} (h : k ≠ .recall := by decide) :
    Keeps but s (s.raiseAll k) :=
  ((s.raiseOn_keeps (absurd · h)).trans (State.raiseOn_keeps _ (absurd · h))).trans
    (State.raiseOn_keeps _ (absurd · h))

/-! ### Replies and port C's line -/

theorem State.reply_keeps {but : List Topic} (s : State) (p : Port) (a : Answer) : Keeps but s (s.reply p a) :=
  Keeps.all <| by
  unfold State.reply
  split
  · exact .refl s
  · next code hcode =>
    refine State.setPort_keeps_slots .of_eq fun code' h => .inl ⟨rfl, _, rfl, ?_⟩
    rcases h with ⟨hnone, -⟩ | ⟨hsome, -⟩
    · simp [hcode] at hnone
    · simpa [hcode] using hsome

theorem State.replyHeld_keeps {but : List Topic} (s : State) (p : Option Port) (a : Answer) :
    Keeps but s (s.replyHeld p a) := by
  cases p with
  | none => exact .refl s
  | some p => exact s.reply_keeps p a

theorem State.finish_keeps {but : List Topic} {s : State} {p : Port} {x : State × Option Answer}
    (h : Keeps but s x.1) : Keeps but s (State.finish p x) := by
  obtain ⟨t, _ | a⟩ := x
  · exact h
  · exact h.trans (State.reply_keeps t p a)

/-- What changes port C's slots and what it sent, its line and the reset arranged. -/
theorem State.setPort_view_keeps {s t : State} {p : Port} {x : PortState} (h : PortState.KeepsEvents p (s.port p) x)
    (ht : Keeps [] (s.setPort p x) t) : Keeps [.slots] s t := (State.setPort_keeps h).trans ht.all

theorem State.transmitStart_keeps (s : State) : Keeps [.slots] s s.transmitStart := by
  cases hd : s.transmitDue with
  | false => exact .of_eq (s.transmitStart_idle hd)
  | true =>
    cases hr : (s.port .c).reply with
    | none => simp [State.transmitDue, hr] at hd
    | some r =>
      rw [s.transmitStart_due r hd hr]
      exact State.setPort_view_keeps (p := .c) (x := { s.port .c with reply := none, sent := [0x7E#8] }) .of_eq .of_view

theorem State.replyLeft_keeps {but : List Topic} (s : State) (r : Reply) : Keeps but s (s.replyLeft r) := by
  unfold State.replyLeft
  exact .ite (fun _ => .of_view) fun _ => .refl s

theorem State.transmitDone_keeps {but : List Topic} (s : State) : Keeps but s s.transmitDone := by
  unfold State.transmitDone
  split
  · exact .refl s
  · exact .ite (fun _ => .trans .of_view (State.replyLeft_keeps _ _)) fun _ => .refl s

theorem State.lineServed_keeps (s : State) (p : Port) : Keeps [.slots] s (s.lineServed p) := by
  unfold State.lineServed
  exact .ite (fun _ => s.transmitStart_keeps) fun _ => .refl s

/-! ### The run -/

/-- A run stands in READY alone, and an active one below the lockout. -/
theorem State.lockoutHolds_iff (s : State) : s.lockoutHolds = true ↔
    ∀ r, s.run = some r → s.phase = .ready ∧ (r.active = true → s.lockedOut = false) := by
  cases hr : s.run with
  | none => simp [State.lockoutHolds, hr]
  | some r =>
    simp only [State.lockoutHolds, hr, Bool.and_eq_true, decide_eq_true_eq, Bool.or_eq_true, Bool.not_eq_true',
      Option.some.injEq, forall_eq']
    rw [← Bool.not_eq_true, ← Decidable.imp_iff_not_or]

/-- A run made of the one at hand keeps the topics if its table holds and it becomes active within the lockout alone. -/
theorem State.setRun_keeps {but : List Topic} {s : State} {r r' : Run} (hr : s.run = some r)
    (htable : r.tableHolds = true → r'.tableHolds = true)
    (hactive : r'.active = true → r.active = true ∨ s.lockedOut = false) :
    Keeps but s (s.setRun (some r')) := Keeps.all <| by
  refine ((Keeps.of_run s _).patch fun h => ?_).patch fun h => ?_
  · simp only [State.tableHolds, hr, State.setRun_run] at h ⊢
    exact htable h
  · rw [State.lockoutHolds_iff] at h ⊢
    rintro _ ⟨⟩
    obtain ⟨hready, hopen⟩ := h r hr
    exact ⟨hready, fun ha => (hactive ha).elim hopen id⟩

theorem State.clearRun_keeps {but : List Topic} (s : State) : Keeps but s (s.setRun none) :=
  Keeps.all <| ((Keeps.of_run s _).patch fun _ => rfl).patch fun _ => rfl

theorem State.mapRun_keeps {but : List Topic} (s : State) {f : Run → Run}
    (htable : ∀ r, r.tableHolds = true → (f r).tableHolds = true) (hactive : ∀ r, (f r).active = true → r.active = true) :
    Keeps but s (s.mapRun f) := by
  unfold State.mapRun
  cases hr : s.run with
  | none => exact s.clearRun_keeps
  | some r => exact State.setRun_keeps hr (htable r) fun h => .inl (hactive r h)

theorem Run.tableHolds_congr {r r' : Run} (ht : r'.table = r.table := by rfl) (hq : r'.totalQ = r.totalQ := by rfl)
    (ha : r'.totalA = r.totalA := by rfl) : r'.tableHolds = r.tableHolds := by
  simp only [Run.tableHolds, ht, hq, ha]

theorem Run.holds_of_eq {r r' : Run} (h : r.tableHolds = true) (ht : r'.table = r.table := by rfl)
    (hq : r'.totalQ = r.totalQ := by rfl) (ha : r'.totalA = r.totalA := by rfl) : r'.tableHolds = true :=
  (Run.tableHolds_congr ht hq ha).trans h

/-- A change of the run that touches neither its table nor its state. -/
theorem State.mapRun_keeps_of_eq {but : List Topic} (s : State) {f : Run → Run}
    (ht : ∀ r, (f r).table = r.table := by intro r; rfl) (hq : ∀ r, (f r).totalQ = r.totalQ := by intro r; rfl)
    (ha : ∀ r, (f r).totalA = r.totalA := by intro r; rfl) (hs : ∀ r, (f r).state = r.state := by intro r; rfl) :
    Keeps but s (s.mapRun f) :=
  s.mapRun_keeps (fun r h => Run.holds_of_eq h (ht r) (hq r) (ha r))
    fun r h => by simpa only [Run.active, hs] using h

end Sys2Proof.Machine
end

section
/-! PROOFS. What taking a request, the schedule and the append buffer keep (Machine/Ops.lean, Machine/Log.lean). -/

namespace Sys2Proof.Machine

-- one theorem at a time: many elaborated side by side would take a thread and its stack each
set_option Elab.async false

/-! ### A request on its way to its block -/

theorem State.clocked_keeps {but : List Topic} (s : State) (p : Port) (n : Nat) : Keeps but s (s.clocked p n) :=
  Keeps.all <| by
  unfold State.clocked
  exact .ite (fun _ => State.setPort_keeps_slots .of_eq fun _ => id) fun _ => .refl s

theorem State.discardFrame_keeps {but : List Topic} (s : State) (p : Port) : Keeps but s (s.discardFrame p) :=
  Keeps.all <| State.setPort_keeps_slots .of_eq fun _ => id

theorem Run.heard_eq (r : Run) (now : Nat) :
    r.heard now = { r with silenceStart := if r.active && r.silenceStart.isSome then some now else r.silenceStart } := by
  unfold Run.heard
  split <;> rfl

theorem State.frameArrived_keeps {but : List Topic} (s : State) (p : Port) : Keeps but s (s.frameArrived p) := by
  unfold State.frameArrived
  refine .ite (fun _ => ?_) fun _ => .refl s
  exact s.mapRun_keeps_of_eq (fun r => by rw [Run.heard_eq]) (fun r => by rw [Run.heard_eq])
    (fun r => by rw [Run.heard_eq]) (fun r => by rw [Run.heard_eq])

theorem State.arrived_keeps {but : List Topic} (s : State) (p : Port) (payload : List Byte) :
    Keeps but s (s.arrived p payload) := (s.clocked_keeps p _).trans (State.frameArrived_keeps _ p)

theorem State.dropRequest_keeps {but : List Topic} (s : State) (p : Port) : Keeps but s (s.dropRequest p) :=
  Keeps.all <| by
  unfold State.dropRequest
  refine .trans ?_ (State.raiseOn_keeps _ nofun)
  exact State.setPort_keeps_slots .of_eq fun _ => id

/-! ### A port that no longer waits for its request -/

theorem Run.leave_eq (p : Port) (r : Run) :
    r.leave p = { r with replyTo := if r.replyTo = some p then none else r.replyTo } := by
  unfold Run.leave
  split <;> rfl

theorem InFlight.leave_eq (p : Port) (f : InFlight) :
    f.leave p = { f with replyTo := if f.replyTo = some p then none else f.replyTo } := by
  unfold InFlight.leave
  split <;> rfl

/-- The DRAFT slot and the activation in flight agree port by port (R51, R60, R64). -/
theorem State.draftHolds_iff (s : State) : s.draftHolds = true ↔ ∀ p, s.rating.activatingFor p = s.rating.attachedTo p ∧
    (s.rating.repliesTo p = true → s.rating.attachedTo p = true) := by
  constructor
  · intro h p
    simp only [State.draftHolds, List.all_eq_true] at h
    have hp := h p (by cases p <;> simp)
    simpa [Decidable.imp_iff_not_or] using hp
  · intro h
    simp only [State.draftHolds, List.all_eq_true]
    intro p _
    simpa [Decidable.imp_iff_not_or] using h p

/-- Class-4 work carries a configuration within its ranges and a valid set, if the state holds no other. -/
def State.WorkHolds (s : State) (w : Class4) : Prop :=
  (s.configHolds = true → w.configHolds = true) ∧ (s.ratingHolds = true → w.imageHolds = true)

theorem State.workHolds_of_mem {s : State} {w : Class4} (h : w ∈ s.store.class4) : s.WorkHolds w := by
  constructor
  · intro hs
    simp only [State.configHolds, Bool.and_eq_true, List.all_eq_true] at hs
    exact hs.1.2 w h
  · intro hs
    simp only [State.ratingHolds, Bool.and_eq_true, List.all_eq_true] at hs
    exact hs.1.2 w h

theorem State.setWork_keeps {but : List Topic} {s : State} {ws : List Class4} (h : ∀ w ∈ ws, s.WorkHolds w) :
    Keeps but s (s.setStore { s.store with class4 := ws }) := Keeps.all <| by
  refine ((Keeps.of_class4 s ws).patch fun hs => ?_).patch fun hs => ?_
  · have hwork := fun w hw => (h w hw).1 hs
    simp only [State.configHolds, Bool.and_eq_true, List.all_eq_true] at hs ⊢
    exact ⟨⟨hs.1.1, hwork⟩, hs.2⟩
  · have hwork := fun w hw => (h w hw).2 hs
    simp only [State.ratingHolds, Bool.and_eq_true, List.all_eq_true] at hs ⊢
    exact ⟨⟨hs.1.1, hwork⟩, hs.2⟩

theorem Class4.leave_holds (p : Port) (w : Class4) :
    (w.leave p).configHolds = w.configHolds ∧ (w.leave p).imageHolds = w.imageHolds := by
  cases w <;> exact ⟨rfl, rfl⟩

theorem State.leaveInFlight_keeps {but : List Topic} (s : State) (p : Port) :
    Keeps but s { s with rating := { s.rating with inFlight := s.rating.inFlight.map (InFlight.leave p) } } :=
  Keeps.all <| by
  refine ((Keeps.of_rating s _).patch fun hs => ?_).patch fun hs => ?_
  · rw [State.draftHolds_iff] at hs ⊢
    intro q
    obtain ⟨hactivating, hreplies⟩ := hs q
    cases hf : s.rating.inFlight with
    | none => simpa [RatingUnit.activatingFor, RatingUnit.attachedTo, RatingUnit.repliesTo, hf] using hactivating
    | some f =>
      simp only [RatingUnit.activatingFor, RatingUnit.attachedTo, RatingUnit.repliesTo, hf, Option.map_some,
        InFlight.leave_eq, decide_eq_true_eq] at hactivating hreplies ⊢
      refine ⟨hactivating, fun h => hreplies ?_⟩
      split at h
      · cases h
      · exact h
  · cases hf : s.rating.inFlight with
    | none => simpa [State.ratingHolds, hf] using hs
    | some f => simpa [State.ratingHolds, hf, InFlight.leave_eq] using hs

theorem State.detach_keeps {but : List Topic} (s : State) (p : Port) : Keeps but s (s.detach p) := by
  have hrun : Keeps but s (s.mapRun (Run.leave p)) :=
    s.mapRun_keeps_of_eq (fun r => by rw [Run.leave_eq]) (fun r => by rw [Run.leave_eq])
      (fun r => by rw [Run.leave_eq]) (fun r => by rw [Run.leave_eq])
  refine (hrun.trans (State.leaveInFlight_keeps _ p)).trans
    ((State.setWork_keeps (ws := s.store.class4.map (Class4.leave p)) fun w hw => ?_).trans .of_view)
  obtain ⟨w', hw', rfl⟩ := List.mem_map.1 hw
  obtain ⟨hconfig, himage⟩ := State.workHolds_of_mem (s := { s.mapRun (Run.leave p) with
    rating := { s.rating with inFlight := s.rating.inFlight.map (InFlight.leave p) } }) hw'
  obtain ⟨hc, hi⟩ := Class4.leave_holds p w'
  exact ⟨fun h => hc.trans (hconfig h), fun h => hi.trans (himage h)⟩

theorem State.accept_keeps (s : State) (p : Port) (code : Byte) : Keeps [.slots] s (s.accept p code) := by
  unfold State.accept
  exact .trans (.ite (fun _ => s.detach_keeps p) fun _ => .refl s) (State.setPort_keeps .of_eq)

@[simp] theorem State.accept_phase (s : State) (p : Port) (code : Byte) : (s.accept p code).phase = s.phase := by
  unfold State.accept
  split <;> rfl

/-- Before READY only GET_IDENT and GET_TIME reach their block (R169). -/
theorem State.phase_of_admission {s : State} {p : Port} {code : Byte} (h : s.admission p code = none) :
    s.phase = .ready ∨ code = 0x01#8 ∨ code = 0x02#8 := by
  refine Classical.byContradiction fun hno => ?_
  simp only [not_or] at hno
  obtain ⟨hphase, h1, h2⟩ := hno
  unfold State.admission at h
  split at h <;> simp_all

/-- What a request's block keeps the request keeps, but for its port's slots. -/
theorem State.serve_keeps {but : List Topic} (s : State) (p : Port) (code : Byte) (payload : List Byte)
    {body : State → State × Option Answer}
    (hbody : ∀ u, u.phase = .ready ∨ code = 0x01#8 ∨ code = 0x02#8 → Keeps (.slots :: but) u (body u).1) :
    Keeps (.slots :: but) s (s.serve p code payload body) := by
  unfold State.serve
  refine .ite (fun _ => .refl s) fun _ => .ite (fun _ => (s.clocked_keeps p _).trans (State.discardFrame_keeps _ p))
    fun _ => ((s.lineServed_keeps p).mono.trans (State.arrived_keeps _ p payload)).trans ?_
  refine .ite (fun _ => State.dropRequest_keeps _ p) fun _ => (State.accept_keeps _ p code).mono.trans ?_
  unfold State.judgeAccepted
  split
  · exact State.reply_keeps _ p _
  · next hadmitted => exact State.finish_keeps (hbody _ (State.phase_of_admission hadmitted))

/-! ### The schedule -/

theorem State.realign_keeps {but : List Topic} (s : State) : Keeps but s s.realign := by
  unfold State.realign
  exact .ite (fun _ => .of_view) fun _ => .refl s

/-! ### The append buffer (R142, R145, R151) -/

theorem State.dragPort_keeps {but : List Topic} (s : State) (old new : Word32) (p : Port) :
    Keeps but s (s.dragPort old new p) := Keeps.all <| by
  unfold State.dragPort
  refine .ite (fun _ => .trans ?_ (State.raiseOn_keeps _ nofun)) fun _ => .refl s
  exact State.setPort_keeps_slots .of_eq fun _ => id

theorem State.advanceFirst_keeps {but : List Topic} (s : State) (new : Word32) : Keeps but s (s.advanceFirst new) :=
  .trans .of_view <| ((State.dragPort_keeps _ _ _ .l).trans (State.dragPort_keeps _ _ _ .t)).trans
    (State.dragPort_keeps _ _ _ .c)

theorem sequencesRun_append {next : Word32} {rs : List LogRecord} {r : LogRecord} (h : sequencesRun next rs = true)
    (hr : r.seq = next) : sequencesRun (next + 1) (rs ++ [r]) = true := by
  induction rs with
  | nil => simp [sequencesRun, hr]
  | cons x rest ih =>
    simp only [sequencesRun, Bool.and_eq_true, decide_eq_true_eq] at h
    obtain ⟨hx, hrest⟩ := h
    simp only [List.cons_append, sequencesRun, ih hrest, Bool.and_true, decide_eq_true_eq, List.length_append,
      List.length_singleton]
    rw [← hx]
    bv_omega

theorem sequencesRun_tail {next : Word32} {r : LogRecord} {rest : List LogRecord}
    (h : sequencesRun next (r :: rest) = true) : sequencesRun next rest = true := by
  simp only [sequencesRun, Bool.and_eq_true] at h
  exact h.2

theorem State.pushRecord_keeps {but : List Topic} {s : State} (dropped : Nat) (body : LogBody) (hphase : s.phase = .ready)
    (hroom : s.store.buffer.length < bufferLimit) : Keeps but s (s.pushRecord dropped body) := Keeps.all <| by
  refine Keeps.patch (a := .buffer) (Keeps.of_log s _ s.store.dropped _) fun hs => ?_
  obtain ⟨-, hdropped, hseq, -⟩ := hs
  refine ⟨?_, hdropped, sequencesRun_append hseq rfl, .inl hphase⟩
  show (s.store.buffer ++ [_]).length ≤ bufferLimit
  rw [List.length_append]
  exact hroom

/-- The buffer's oldest record leaves it. -/
theorem State.dropOldest_keeps {but : List Topic} {s : State} {r : LogRecord} {rest : List LogRecord}
    (hbuffer : s.store.buffer = r :: rest) : Keeps but s (s.setStore { s.store with buffer := rest }) := Keeps.all <| by
  refine Keeps.patch (a := .buffer) (Keeps.of_log s rest s.store.dropped s.store.nextSeq) fun hs => ?_
  simp only [State.BufferHolds, hbuffer] at hs
  obtain ⟨hlen, hdropped, hseq, hphase⟩ := hs
  exact ⟨Nat.le_of_succ_le hlen, hdropped, sequencesRun_tail hseq, .inl (hphase.resolve_right (by simp))⟩

theorem State.overwriteRing_keeps {but : List Topic} (s : State) : Keeps but s s.overwriteRing := by
  unfold State.overwriteRing
  split
  · exact .refl s
  · next r rest hbuffer =>
    exact .ite (fun _ => (State.dropOldest_keeps hbuffer).trans (State.advanceFirst_keeps _ _)) fun _ => .refl s

theorem State.overwriteRing_length {s : State} (h : s.store.buffer.length ≤ bufferLimit) :
    s.overwriteRing.store.buffer.length < bufferLimit := by
  unfold State.overwriteRing
  split
  · next hnil => simp [hnil, bufferLimit]
  · next r rest hbuffer =>
    split
    · rw [State.advanceFirst_store]
      simp only [hbuffer, List.length_cons] at h
      exact h
    · next hroom => exact Nat.not_le.1 hroom

end Sys2Proof.Machine
end

section
/-! PROOFS. The vertical table (R122 to R127): a vertical entered or taken out leaves every width right, since only the
places beside it have other neighbours. -/

namespace Sys2Proof.Machine

-- one theorem at a time: many elaborated side by side would take a thread and its stack each
set_option Elab.async false

/-! ### Rising stations -/

theorem stationsRise_of_pairwise {t : List Vertical} (h : t.Pairwise fun x y => x.station < y.station) :
    stationsRise t = true := by
  induction t with
  | nil => rfl
  | cons a rest ih =>
    obtain ⟨ha, hrest⟩ := List.pairwise_cons.1 h
    cases rest with
    | nil => rfl
    | cons b rest =>
      simp only [stationsRise, Bool.and_eq_true, decide_eq_true_eq]
      exact ⟨ha b List.mem_cons_self, ih hrest⟩

/-- A rising table in three parts: below a station, at it, above it. -/
theorem below_at_above {t : List Vertical} (h : t.Pairwise fun x y => x.station < y.station) (n : Nat) :
    below t n ++ t.filter (fun x => x.station = n) ++ above t n = t := by
  induction t with
  | nil => rfl
  | cons a rest ih =>
    obtain ⟨ha, hrest⟩ := List.pairwise_cons.1 h
    have hrec := ih hrest
    simp only [below, above] at hrec ⊢
    rcases Nat.lt_trichotomy a.station n with hlt | heq | hgt
    · simp only [List.filter_cons, hlt, decide_true, if_true, Nat.ne_of_lt hlt, Nat.lt_asymm hlt, decide_false,
        Bool.false_eq_true, if_false, List.cons_append, hrec]
    · have hnone : rest.filter (fun x => decide (x.station < n)) = [] := by
        simp only [List.filter_eq_nil_iff, decide_eq_true_eq]
        exact fun x hx => by have := ha x hx; omega
      rw [hnone] at hrec
      simpa [List.filter_cons, heq, hnone] using hrec
    · have hnone : rest.filter (fun x => decide (x.station < n)) = [] := by
        simp only [List.filter_eq_nil_iff, decide_eq_true_eq]
        exact fun x hx => by have := ha x hx; omega
      have hnone' : rest.filter (fun x => decide (x.station = n)) = [] := by
        simp only [List.filter_eq_nil_iff, decide_eq_true_eq]
        exact fun x hx => by have := ha x hx; omega
      rw [hnone, hnone'] at hrec
      have hle : ¬a.station < n := by omega
      have hne : ¬a.station = n := by omega
      simpa [List.filter_cons, hle, hne, hgt, hnone, hnone'] using hrec

/-! ### What a width depends on (R124) -/

theorem stationAt_append_left {a b : List Vertical} {i : Nat} (h : i < a.length) :
    stationAt (a ++ b) i = stationAt a i := by
  simp [stationAt, List.getElem?_append_left h]

theorem stationAt_append_right (a b : List Vertical) (i : Nat) : stationAt (a ++ b) (a.length + i) = stationAt b i := by
  simp [stationAt, List.getElem?_append_right]

/-- A place with a neighbour in the first part has its width from that part. -/
theorem doubleWidth_append_left (a b b' : List Vertical) {i : Nat} (h : i + 1 < a.length) :
    doubleWidth (a ++ b) i = doubleWidth (a ++ b') i := by
  have hlen (c : List Vertical) : min (i + 1) ((a ++ c).length - 1) = i + 1 := by
    rw [List.length_append]
    omega
  rw [doubleWidth_eq (by simp; omega), doubleWidth_eq (by simp; omega), hlen, hlen, stationAt_append_left h,
    stationAt_append_left h, stationAt_append_left (by omega), stationAt_append_left (by omega)]

/-- A place of the second part behind its first has its width from that part. -/
theorem doubleWidth_append_right (a b : List Vertical) {i : Nat} (hi : 0 < i) (h : i < b.length) :
    doubleWidth (a ++ b) (a.length + i) = doubleWidth b i := by
  have hlen : min (a.length + i + 1) ((a ++ b).length - 1) = a.length + min (i + 1) (b.length - 1) := by
    rw [List.length_append]
    omega
  rw [doubleWidth_eq (by simpa using h), doubleWidth_eq h, hlen, stationAt_append_right,
    show a.length + i - 1 = a.length + (i - 1) by omega, stationAt_append_right]

/-! ### Right widths (R123 to R126) -/

/-- A vertical carries a width and the partials that go with it. -/
def Vertical.Carries (x : Vertical) (w2 : Nat) : Prop := x.withWidth w2 = x

theorem Vertical.carries_iff (x : Vertical) (w2 : Nat) :
    x.Carries w2 ↔ x.w2 = w2 ∧ x.q = partialQ x.v x.depth w2 ∧ x.a = partialA x.depth w2 := by
  obtain ⟨station, depth, method, cosine, points, v, w, q, a, supersedes⟩ := x
  simp only [Vertical.Carries, Vertical.withWidth, Vertical.mk.injEq]
  grind

theorem Vertical.withWidth_carries (x : Vertical) (w2 : Nat) : (x.withWidth w2).Carries w2 := rfl

/-- Every place of a table but those listed carries its width. -/
def CarriesBut (but : List Nat) (t : List Vertical) : Prop :=
  ∀ (i : Nat) (x : Vertical), t[i]? = some x → i ∈ but ∨ x.Carries (doubleWidth t i)

theorem CarriesBut.mono {but but' : List Nat} {t : List Vertical} (h : CarriesBut but t)
    (hb : ∀ i ∈ but, i < t.length → i ∈ but') : CarriesBut but' t := fun i x hx =>
  (h i x hx).imp_left fun hi => hb i hi (List.getElem?_eq_some_iff.1 hx).1

theorem widthsHold_iff (t : List Vertical) : widthsHold t = true ↔ CarriesBut [] t := by
  simp only [widthsHold, List.all_eq_true, List.mem_range, CarriesBut, List.not_mem_nil, false_or,
    Vertical.carries_iff]
  constructor
  · intro h i x hx
    have hi := h i (List.getElem?_eq_some_iff.1 hx).1
    simp only [hx, Bool.and_eq_true, decide_eq_true_eq] at hi
    obtain ⟨⟨hw, hq⟩, ha⟩ := hi
    exact ⟨hw, hw ▸ hq, hw ▸ ha⟩
  · intro h i hi
    have hx := List.getElem?_eq_getElem hi
    obtain ⟨hw, hq, ha⟩ := h i _ hx
    simp only [hx, Bool.and_eq_true, decide_eq_true_eq]
    exact ⟨⟨hw, hw ▸ hq⟩, hw ▸ ha⟩

theorem getElem?_recomputeAt (t : List Vertical) (i j : Nat) :
    (recomputeAt t i)[j]? = if j = i then t[j]?.map (fun x => x.withWidth (doubleWidth t i)) else t[j]? := by
  unfold recomputeAt
  split
  · next hnone =>
    split
    · next hji => simp [hji, hnone]
    · rfl
  · next x hx =>
    obtain ⟨hi, rfl⟩ := List.getElem?_eq_some_iff.1 hx
    rw [List.getElem?_set]
    split
    · next hij =>
      subst hij
      simp [hi]
    · next hij => rw [if_neg (Ne.symm hij)]

theorem stations_recomputeAt (t : List Vertical) (i : Nat) :
    (recomputeAt t i).map Vertical.station = t.map Vertical.station := by
  refine List.ext_getElem? fun j => ?_
  rw [List.getElem?_map, getElem?_recomputeAt, List.getElem?_map]
  split
  · rw [Option.map_map]
    rfl
  · rfl

/-- A place recomputed carries its width. -/
theorem CarriesBut.recomputeAt {i : Nat} {but : List Nat} {t : List Vertical} (h : CarriesBut (i :: but) t) :
    CarriesBut but (recomputeAt t i) := by
  intro j x hx
  rw [doubleWidth_congr (stations_recomputeAt t i)]
  rw [getElem?_recomputeAt] at hx
  split at hx
  · next hji =>
    obtain ⟨y, -, rfl⟩ := Option.map_eq_some_iff.1 hx
    exact .inr (hji ▸ y.withWidth_carries _)
  · next hji =>
    rcases h j x hx with hm | hc
    · exact .inl ((List.mem_cons.1 hm).resolve_left hji)
    · exact .inr hc

/-- A place and the one before it recomputed. -/
theorem CarriesBut.recomputeBefore {i : Nat} {but : List Nat} {t : List Vertical} (h : CarriesBut ((i - 1) :: i :: but) t) :
    CarriesBut (i :: but) (if i = 0 then t else Machine.recomputeAt t (i - 1)) := by
  split
  · next hi => exact h.mono fun j hj _ => by simpa [hi] using hj
  · exact h.recomputeAt

theorem stations_recomputeBefore (t : List Vertical) (i : Nat) :
    (if i = 0 then t else recomputeAt t (i - 1)).map Vertical.station = t.map Vertical.station := by
  split
  · rfl
  · exact stations_recomputeAt t _

/-- R126's set recomputed around a vertical that was entered. -/
theorem CarriesBut.recomputeAround {i : Nat} {t : List Vertical} (h : CarriesBut [i - 1, i, i + 1] t) :
    CarriesBut [] (recomputeAround t i) := h.recomputeBefore.recomputeAt.recomputeAt

theorem stations_recomputeAround (t : List Vertical) (i : Nat) :
    (recomputeAround t i).map Vertical.station = t.map Vertical.station := by
  rw [recomputeAround, stations_recomputeAt, stations_recomputeAt, stations_recomputeBefore]

/-! ### A part of the table taken for another -/

/-- A part put in the place of another changes the widths of its own places and of the two beside it. -/
theorem CarriesBut.splice {a m m' c : List Vertical} (h : CarriesBut [] (a ++ m ++ c)) :
    CarriesBut ((a.length - 1) :: (List.range' a.length m'.length ++ [a.length + m'.length])) (a ++ m' ++ c) := by
  intro i x hx
  rcases Nat.lt_or_ge (i + 1) a.length with hleft | hright
  · refine .inr ?_
    rw [List.append_assoc, List.getElem?_append_left (by omega)] at hx
    have hold := h i x (by rwa [List.append_assoc, List.getElem?_append_left (by omega)])
    rw [List.append_assoc] at hold ⊢
    rw [doubleWidth_append_left a (m' ++ c) (m ++ c) hleft]
    exact hold.resolve_left (by simp)
  · rcases Nat.lt_or_ge (a.length + m'.length) i with hafter | hbetween
    · refine .inr ?_
      obtain ⟨k, rfl⟩ := Nat.exists_eq_add_of_le (Nat.le_of_lt hafter)
      rw [← List.length_append] at hx ⊢
      rw [List.getElem?_append_right (by omega), Nat.add_sub_cancel_left] at hx
      have hk := (List.getElem?_eq_some_iff.1 hx).1
      rw [doubleWidth_append_right _ _ (by omega) hk]
      have hold := h ((a ++ m).length + k) x (by rwa [List.getElem?_append_right (by omega), Nat.add_sub_cancel_left])
      rw [doubleWidth_append_right _ _ (by omega) hk] at hold
      exact hold.resolve_left (by simp)
    · refine .inl ?_
      simp only [List.mem_cons, List.mem_append, List.mem_range'_1, List.not_mem_nil, or_false]
      omega

/-! ### A vertical entered or taken out -/

/-- A consistent table, but for its totals. -/
structure Consistent (t : List Vertical) : Prop where
  rises : t.Pairwise fun x y => x.station < y.station
  carries : CarriesBut [] t

/-- Recomputed places keep their stations, so that a rising table stays one. -/
theorem rises_of_stations {t u : List Vertical} (h : u.map Vertical.station = t.map Vertical.station)
    (ht : t.Pairwise fun x y => x.station < y.station) : u.Pairwise fun x y => x.station < y.station := by
  have hmap : (t.map Vertical.station).Pairwise (· < ·) := List.pairwise_map.2 ht
  rw [← h] at hmap
  exact List.pairwise_map.1 hmap

theorem enterVertical_consistent {t : List Vertical} (h : Consistent t) (x : Vertical) :
    Consistent (enterVertical t x) where
  rises := by
    refine rises_of_stations (stations_recomputeAround _ _) (List.pairwise_append.2 ⟨h.rises.filter _, ?_, ?_⟩)
    · refine List.pairwise_cons.2 ⟨fun y hy => ?_, h.rises.filter _⟩
      simpa [above] using (List.mem_filter.1 hy).2
    · intro y hy z hz
      have hyx : y.station < x.station := by simpa [below] using (List.mem_filter.1 hy).2
      rcases List.mem_cons.1 hz with rfl | hz
      · exact hyx
      · have hxz : x.station < z.station := by simpa [above] using (List.mem_filter.1 hz).2
        exact Nat.lt_trans hyx hxz
  carries := by
    refine CarriesBut.recomputeAround ?_
    have hparts := below_at_above h.rises x.station ▸ h.carries
    have hspliced := hparts.splice (m' := [x])
    simpa using hspliced

theorem removeVertical_consistent {t : List Vertical} (h : Consistent t) (n : Nat) : Consistent (removeVertical t n) where
  rises := by
    refine rises_of_stations ((stations_recomputeAt _ _).trans (stations_recomputeBefore _ _))
      (List.pairwise_append.2 ⟨h.rises.filter _, h.rises.filter _, fun y hy z hz => ?_⟩)
    have hyn : y.station < n := by simpa [below] using (List.mem_filter.1 hy).2
    have hnz : n < z.station := by simpa [above] using (List.mem_filter.1 hz).2
    exact Nat.lt_trans hyn hnz
  carries := by
    refine CarriesBut.recomputeAt (CarriesBut.recomputeBefore ?_)
    have hparts := below_at_above h.rises n ▸ h.carries
    have hspliced := hparts.splice (m' := [])
    simpa using hspliced

theorem length_enterVertical {t : List Vertical} (h : Consistent t) (x : Vertical) :
    (enterVertical t x).length ≤ t.length + 1 ∧
      (holdsStation t x.station = true → (enterVertical t x).length ≤ t.length) := by
  have hstations := congrArg List.length (stations_recomputeAround
    (below t x.station ++ x :: above t x.station) (below t x.station).length)
  have hparts := congrArg List.length (below_at_above h.rises x.station)
  simp only [List.length_map, List.length_append, List.length_cons] at hstations hparts
  unfold enterVertical
  refine ⟨by omega, fun hheld => ?_⟩
  obtain ⟨y, hy, hyx⟩ := List.any_eq_true.1 hheld
  have hpos := List.length_pos_of_mem (List.mem_filter (p := fun y => decide (y.station = x.station)).2 ⟨hy, hyx⟩)
  omega

theorem length_removeVertical {t : List Vertical} (h : Consistent t) (n : Nat) :
    (removeVertical t n).length ≤ t.length := by
  have hstations := congrArg List.length ((stations_recomputeAt _ (below t n).length).trans
    (stations_recomputeBefore (below t n ++ above t n) (below t n).length))
  have hparts := congrArg List.length (below_at_above h.rises n)
  simp only [List.length_map, List.length_append] at hstations hparts
  unfold removeVertical
  simp only
  omega

/-! ### The run's table (R127) -/

theorem Run.tableHolds_iff (r : Run) : r.tableHolds = true ↔ r.table.length ≤ tableLimit ∧ Consistent r.table ∧
    r.totalQ = sumQ r.table ∧ r.totalA = sumA r.table := by
  simp only [Run.tableHolds, Bool.and_eq_true, decide_eq_true_eq, widthsHold_iff]
  constructor
  · rintro ⟨⟨⟨⟨hlen, hrises⟩, hcarries⟩, hq⟩, ha⟩
    exact ⟨hlen, ⟨stations_pairwise hrises, hcarries⟩, hq, ha⟩
  · rintro ⟨hlen, ⟨hrises, hcarries⟩, hq, ha⟩
    exact ⟨⟨⟨⟨hlen, stationsRise_of_pairwise hrises⟩, hcarries⟩, hq⟩, ha⟩

/-- Totals adjusted by the old and the new values are the sums of the new table. -/
theorem Run.withTable_holds {r : Run} {t : List Vertical} (h : r.tableHolds = true) (hlen : t.length ≤ tableLimit)
    (ht : Consistent t) : (r.withTable t).tableHolds = true := by
  obtain ⟨-, -, hq, ha⟩ := r.tableHolds_iff.1 h
  refine (Run.tableHolds_iff _).2 ⟨hlen, ht, ?_, ?_⟩
  · simp only [Run.withTable, hq]
    omega
  · simp only [Run.withTable, ha]
    omega

theorem Run.afterVertical_holds {r : Run} {o : OpenVertical} (h : r.tableHolds = true)
    (hroom : holdsStation r.table o.station = true ∨ r.table.length < tableLimit) :
    (r.afterVertical o).tableHolds = true := by
  obtain ⟨hlen, ht, -, -⟩ := r.tableHolds_iff.1 h
  refine (Run.tableHolds_congr).trans (Run.withTable_holds h ?_ (enterVertical_consistent ht _))
  obtain ⟨hmore, hsame⟩ := length_enterVertical ht (o.record r.desc.coef (holdsStation r.table o.station))
  rcases hroom with hheld | hroom
  · exact Nat.le_trans (hsame hheld) hlen
  · exact Nat.le_trans hmore hroom

theorem Run.removed_holds {r : Run} (h : r.tableHolds = true) (n : Nat) :
    (r.withTable (removeVertical r.table n)).tableHolds = true := by
  obtain ⟨hlen, ht, -, -⟩ := r.tableHolds_iff.1 h
  exact Run.withTable_holds h (Nat.le_trans (length_removeVertical ht n) hlen) (removeVertical_consistent ht n)

end Sys2Proof.Machine
end

section
/-! PROOFS. What the operations of a run keep (Machine/Runs.lean). A run opens only in READY, below the lockout and with a
place in the journal queue; the lemmas name the topics that rest on it. -/

namespace Sys2Proof.Machine

-- one theorem at a time: many elaborated side by side would take a thread and its stack each
set_option Elab.async false

/-! ### Journal entries (R110, R157) -/

theorem State.queueEntry_keeps {but : List Topic} {s : State} (e : JournalEntry)
    (h : .queues ∈ but ∨ s.journalRoom 1 = true) : Keeps but s (s.queueEntry e) := by
  have hqueue : Keeps [.queues] s (s.queueEntry e) := Keeps.of_queue s _
  rcases h with hb | hroom
  · exact hqueue.mono (by simpa using hb)
  · refine Keeps.all (hqueue.patch fun _ => ?_)
    simpa [State.QueueHolds, State.queueEntry, State.journalRoom] using hroom

theorem State.markNotStored_keeps {but : List Topic} (s : State) : Keeps but s (s.mapRun Run.markNotStored) :=
  s.mapRun_keeps_of_eq

theorem State.handEntry_keeps {but : List Topic} {s : State} (e : JournalEntry)
    (h : .queues ∈ but ∨ s.journalRoom 1 = true ∨ s.runNotStored = true) : Keeps but s (s.handEntry e) := by
  unfold State.handEntry
  refine .ite (fun _ => s.markNotStored_keeps) fun _ => .ite (fun _ => .refl s) fun hstored => ?_
  exact State.queueEntry_keeps e (h.imp_right fun h => h.resolve_right hstored)

@[simp] theorem State.setRun_journalRoom (s : State) (r : Option Run) (n : Nat) :
    (s.setRun r).journalRoom n = s.journalRoom n := rfl

/-! ### Opening (R91, R92) -/

theorem State.newRun_tableHolds (s : State) (d : RunDescription) : (s.newRun d).tableHolds = true := rfl

/-- A run opens. -/
theorem State.startRun_keeps {but : List Topic} {s : State} {r : Run} (n : Nat) (hphase : .lockout ∈ but ∨ s.phase = .ready)
    (hopen : s.lockedOut = false) (htable : r.tableHolds = true) :
    Keeps but s { s with run := some r, newestRunId := n } := by
  have hrun : Keeps [.lockout] s (s.setRun (some r)) := (Keeps.of_run s _).patch (a := .table) fun _ => htable
  refine .trans ?_ (.of_view (s := s.setRun (some r)))
  rcases hphase with hb | hphase
  · exact hrun.mono (by simpa using hb)
  · refine Keeps.all (hrun.patch fun _ => (State.lockoutHolds_iff _).2 ?_)
    rintro _ ⟨⟩
    exact ⟨hphase, fun _ => hopen⟩

theorem State.openRun_keeps {but : List Topic} {s : State} (d : RunDescription) (hphase : .lockout ∈ but ∨ s.phase = .ready)
    (hopen : s.lockedOut = false) (hroom : .queues ∈ but ∨ s.journalRoom 1 = true) : Keeps but s (s.openRun d) :=
  (State.startRun_keeps _ hphase hopen (s.newRun_tableHolds d)).trans
    (State.handEntry_keeps _ (hroom.imp_right .inl))

/-- What a RUN_OPEN that waited behind a closing run rests on: READY, and a place in the queue unless the store is
DEGRADED. -/
theorem State.openAfter_keeps {but : List Topic} {s : State} (d : RunDescription) (c : CloseRecord) (p : Option Port)
    (hphase : .lockout ∈ but ∨ s.phase = .ready)
    (hroom : .queues ∈ but ∨ s.journalRoom 1 = true ∨ s.store.degraded = true) :
    Keeps but s (s.openAfter d c p) := by
  unfold State.openAfter
  refine .ite (fun _ => s.replyHeld_keeps p _) fun hopen => .ite (fun _ => s.replyHeld_keeps p _) fun hgood => ?_
  exact (State.openRun_keeps d hphase (by simpa using hopen) (hroom.imp_right fun h => h.resolve_right hgood)).trans
    (State.replyHeld_keeps _ p _)

/-! ### The end of CLOSING (R102) -/

/-- The ending of a run opens no other. -/
def opensNone (e : Option Ending) : Prop := ∀ d, e ≠ some (.supersede d)

theorem State.afterClosing_keeps {but : List Topic} {s : State} (e : Option Ending) (c : CloseRecord) (p : Option Port)
    (hphase : .lockout ∈ but ∨ s.phase = .ready)
    (hroom : .queues ∈ but ∨ s.journalRoom 1 = true ∨ s.store.degraded = true ∨ opensNone e) :
    Keeps but s (s.afterClosing e c p) := by
  unfold State.afterClosing
  split
  · exact s.replyHeld_keeps p _
  · exact s.replyHeld_keeps p _
  · next d =>
    refine State.openAfter_keeps d c p hphase (hroom.imp_right fun h => h.imp_right fun h => ?_)
    exact h.resolve_right fun hnone => hnone d rfl
  · exact .refl s
  · exact .refl s

theorem State.joinGaugings_keeps {but : List Topic} (s : State) (c : CloseRecord) : Keeps but s (s.joinGaugings c) := by
  unfold State.joinGaugings
  exact .ite (fun _ => .refl s) fun _ => .of_view

@[simp] theorem State.joinGaugings_phase (s : State) (c : CloseRecord) : (s.joinGaugings c).phase = s.phase := by
  unfold State.joinGaugings
  split <;> rfl

@[simp] theorem State.joinGaugings_store (s : State) (c : CloseRecord) : (s.joinGaugings c).store = s.store := by
  unfold State.joinGaugings
  split <;> rfl

/-- A run that is at hand stands in READY, or the lockout does not hold. -/
theorem State.phase_of_lockoutHolds {s : State} {r : Run} (hr : s.run = some r) (h : s.lockoutHolds = true) :
    s.phase = .ready := (s.lockoutHolds_iff.1 h r hr).1

/-- What is shown with a run in READY, or but for the lockout, is shown. -/
theorem Keeps.of_lockout {but : List Topic} {s t : State} {r : Run} (hr : s.run = some r)
    (h : ∀ b : List Topic, (∀ a ∈ but, a ∈ b) → .lockout ∈ b ∨ s.phase = .ready → Keeps b s t) : Keeps but s t := by
  by_cases hphase : s.phase = .ready
  · exact h but (fun _ => id) (.inr hphase)
  · refine Keeps.patch (a := .lockout) (h (.lockout :: but) (by simp +contextual) (.inl List.mem_cons_self)) fun hs => ?_
    exact absurd (State.phase_of_lockoutHolds hr hs) hphase

theorem State.endClosing_keeps {but : List Topic} {s : State}
    (h : .queues ∈ but ∨ s.journalRoom 1 = true ∨ s.store.degraded = true ∨ ∀ r, s.run = some r → opensNone r.ending) :
    Keeps but s s.endClosing := by
  unfold State.endClosing
  split
  · exact .refl s
  · next r hr =>
    split
    · exact .refl s
    · refine .of_lockout hr fun b hb hphase => ?_
      dsimp only
      refine .trans (.trans ((s.joinGaugings_keeps _).trans (State.raiseAll_keeps _)) (State.clearRun_keeps _))
        (State.afterClosing_keeps _ _ _ (by simpa using hphase) ?_)
      simpa [State.journalRoom] using (h.imp_left (hb _)).imp_right fun h => h.imp_right fun h => h.imp_right fun h => h r hr

/-! ### Ending a run (R92, R101, R103, R108) -/

theorem State.handTrailer_keeps {but : List Topic} {s : State} (c : CloseRecord)
    (h : .queues ∈ but ∨ s.journalRoom 1 = true ∨ ∀ r, s.run = some r → opensNone r.ending) :
    Keeps but s (s.handTrailer c) := by
  unfold State.handTrailer
  refine .ite (fun hbad => s.markNotStored_keeps.trans (State.endClosing_keeps (.inr (.inr (.inl hbad))))) fun _ => ?_
  refine .ite (fun _ => State.endClosing_keeps (h.imp_right fun h => h.imp_right .inr)) fun _ => ?_
  exact .ite (fun hroom => State.queueEntry_keeps _ (.inr hroom)) fun _ => s.mapRun_keeps_of_eq

theorem State.endRun_keeps {but : List Topic} {s : State} {r : Run} (hr : s.run = some r) (c : CloseRecord) (e : Ending)
    (p : Option Port) (h : .queues ∈ but ∨ s.journalRoom 1 = true ∨ opensNone (some e)) :
    Keeps but s (s.endRun r c e p) := by
  have hclosed : Keeps but s (s.setRun (some (r.closed c e p))) :=
    State.setRun_keeps hr (fun h => Run.holds_of_eq h) nofun
  refine (hclosed.trans .of_view).trans (State.handTrailer_keeps c (h.imp_right fun h => h.imp_right fun h r' hr' => ?_))
  cases hr'
  exact h

/-! ### Parking and the timers (R104 to R108) -/

theorem State.park_keeps {but : List Topic} (s : State) (x : ParkReason) : Keeps but s (s.park x) := by
  unfold State.park
  split
  · exact .refl s
  · next r hr =>
    refine .ite (fun _ => ?_) fun _ => .refl s
    have hparked : Keeps but s (s.setRun (some (r.parked x s.uptime))) :=
      State.setRun_keeps hr (fun h => Run.holds_of_eq h) nofun
    exact ((hparked.trans .of_view).trans (State.raiseAll_keeps _)).trans (State.raiseOn_keeps _ fun _ => rfl)

theorem State.silenceExpiry_keeps {but : List Topic} (s : State) : Keeps but s s.silenceExpiry := by
  unfold State.silenceExpiry
  exact .ite (fun _ => s.park_keeps _) fun _ => .refl s

theorem State.parkExpiry_keeps {but : List Topic} (s : State) : Keeps but s s.parkExpiry := by
  unfold State.parkExpiry
  refine .ite (fun _ => ?_) fun _ => .refl s
  split
  · exact .refl s
  · next r hr =>
    exact (State.raiseAll_keeps _).trans (State.endRun_keeps (by simpa using hr) _ _ _ (.inr (.inr nofun)))

theorem State.handoverDue_room {s : State} (h : s.handoverDue = true) : s.journalRoom 1 = true := by
  unfold State.handoverDue at h
  split at h
  · cases h
  · simp only [Bool.and_eq_true] at h
    exact h.1.2

theorem State.trailerHandover_keeps {but : List Topic} (s : State) : Keeps but s s.trailerHandover := by
  unfold State.trailerHandover
  refine .ite (fun hdue => ?_) fun _ => .refl s
  split
  · exact .refl s
  · next r hr =>
    split
    · exact .refl s
    · refine .trans ?_ (State.queueEntry_keeps _ (.inr ((State.setRun_journalRoom ..).trans (State.handoverDue_room hdue))))
      exact State.setRun_keeps hr (fun h => Run.holds_of_eq h) .inl

theorem State.observationComplete_keeps {but : List Topic} (s : State) : Keeps but s s.observationComplete := by
  unfold State.observationComplete
  refine .ite (fun hdue => ?_) fun _ => .refl s
  split
  · exact .refl s
  · next r hr =>
    split
    · exact .refl s
    · next o ho =>
      have hobserving : r.state = .observing := by
        unfold State.observationDue at hdue
        simp only [hr] at hdue
        split at hdue
        · assumption
        · cases hdue
      refine .trans (.trans (State.setRun_keeps (r' := { r with
        state := .opened, obs := none,
        openVertical := r.openVertical.map fun v => v.store (pointResult r.desc o.fraction s.meter) }) hr
        (fun h => Run.holds_of_eq h) fun _ => .inl ?_) .of_view) (State.raiseAll_keeps _)
      simp [Run.active, hobserving]

/-! ### The run commands -/

section
variable {but : List Topic} (p : Port) (payload : List Byte) (s : State)

theorem runOpen_keeps (hphase : s.phase = .ready) : Keeps but s (runOpen p payload s).1 := by
  unfold runOpen
  split
  · exact .refl s
  · next d mask _ =>
    split
    · refine .iteBody (fun _ => .refl s) fun _ => .iteBody (fun _ => .refl s) fun hopen =>
        .iteBody (fun _ => .refl s) fun _ => .iteBody (fun _ => .refl s) fun hroom => ?_
      exact State.openRun_keeps d (.inr hphase) (by simpa using hopen) (.inr (by simpa using hroom))
    · next r hr =>
      split
      · exact .refl s
      · exact .refl s
      · exact .refl s
      · refine .iteBody (fun _ => .refl s) fun _ => .iteBody (fun _ => .refl s) fun _ =>
          .iteBody (fun _ => .refl s) fun _ => .iteBody (fun _ => .refl s) fun hroom => ?_
        refine State.endRun_keeps hr _ _ _ (.inr (.inl ?_))
        simp only [State.journalRoom, decide_eq_false_iff_not, Decidable.not_not, decide_eq_true_eq] at hroom ⊢
        omega

theorem verticalBegin_keeps : Keeps but s (verticalBegin payload s).1 := by
  unfold verticalBegin
  split
  · exact .refl s
  · split
    · exact .refl s
    · next r hr =>
      refine .iteBody (fun _ => .refl s) fun _ => .iteBody (fun _ => .refl s) fun _ => ?_
      exact State.setRun_keeps hr (fun h => Run.holds_of_eq h) .inl

theorem pointStart_keeps : Keeps but s (pointStart payload s).1 := by
  unfold pointStart
  split
  · exact .refl s
  · next fr dur _ =>
    split
    · exact .refl s
    · next r hr =>
      split
      · exact .refl s
      · next hopened _ =>
        refine .iteBody (fun _ => .refl s) fun _ => ?_
        split
        · exact .refl s
        · next f _ =>
          refine .iteBody (fun _ => ?_) fun _ => .refl s
          refine .trans (State.setRun_keeps (r' := { r with
            state := .observing, obs := some ⟨f, usedDuration dur, s.ticks⟩ }) hr
            (fun h => Run.holds_of_eq h) fun _ => .inl ?_) .of_view
          simp [Run.active, hopened]
      · exact .refl s

theorem verticalEnd_keeps : Keeps but s (verticalEnd payload s).1 := by
  unfold verticalEnd
  split
  · exact .refl s
  · split
    · exact .refl s
    · next r hr =>
      split
      · exact .refl s
      · next o _ _ =>
        refine .iteBody (fun _ => .refl s) fun _ => .iteBody (fun _ => .refl s) fun hroom =>
          .iteBody (fun _ => .refl s) fun hplace => ?_
        refine .trans (State.setRun_keeps hr (fun h => Run.afterVertical_holds h ?_) .inl)
          (State.handEntry_keeps _ (.inr ?_))
        · by_cases hheld : holdsStation r.table o.station = true
          · exact .inl hheld
          · exact .inr (by simpa [hheld] using hroom)
        · cases hstored : r.notStored with
          | true => exact .inr hstored
          | false => exact .inl (by simpa [hstored] using hplace)
      · exact .refl s

theorem verticalCancel_keeps : Keeps but s (verticalCancel payload s).1 := by
  unfold verticalCancel
  split
  · exact .refl s
  · split
    · exact .refl s
    · next r hr =>
      split
      · next hobserving =>
        refine .trans (State.setRun_keeps (r' := { r with state := .opened, obs := none, openVertical := none }) hr
          (fun h => Run.holds_of_eq h) fun _ => .inl ?_) .of_view
        simp [Run.active, hobserving]
      · exact .refl s
      · exact .iteBody (fun _ => State.setRun_keeps hr (fun h => Run.holds_of_eq h) .inl) fun _ => .refl s

theorem verticalRemove_keeps : Keeps but s (verticalRemove payload s).1 := by
  unfold verticalRemove
  split
  · exact .refl s
  · next station _ =>
    split
    · exact .refl s
    · next r hr =>
      split
      · exact .refl s
      · refine .iteBody (fun _ => .refl s) fun _ => .iteBody (fun _ => .refl s) fun hplace => ?_
        refine .trans (State.setRun_keeps hr (fun h => Run.removed_holds h station) .inl)
          (State.handEntry_keeps _ (.inr ?_))
        cases hstored : r.notStored with
        | true => exact .inr hstored
        | false => exact .inl (by simpa [hstored] using hplace)
      · exact .refl s

theorem runClose_keeps : Keeps but s (runClose p payload s).1 := by
  unfold runClose
  split
  · exact .refl s
  · split
    · exact .refl s
    · next r hr =>
      exact .iteBody (fun _ => State.endRun_keeps hr _ _ _ (.inr (.inr nofun))) fun _ => .refl s

theorem runAbandon_keeps : Keeps but s (runAbandon p payload s).1 := by
  unfold runAbandon
  split
  · exact .refl s
  · split
    · exact .refl s
    · next r hr =>
      exact .iteBody (fun _ => .refl s) fun _ => State.endRun_keeps hr _ _ _ (.inr (.inr nofun))

theorem runResume_keeps : Keeps but s (runResume payload s).1 := by
  unfold runResume
  split
  · exact .refl s
  · split
    · exact .refl s
    · next r hr =>
      refine .iteBody (fun _ => .refl s) fun _ => .iteBody (fun _ => .refl s) fun hopen => ?_
      refine .trans ?_ (State.raiseAll_keeps _)
      exact State.setRun_keeps hr (fun h => Run.holds_of_eq h) fun _ => .inr (by simpa using hopen)

end

end Sys2Proof.Machine
end

section
/-! PROOFS. What flood warning keeps (Machine/Warning.lean), the siren and the lockout at a change of level above all. -/

namespace Sys2Proof.Machine

-- one theorem at a time: many elaborated side by side would take a thread and its stack each
set_option Elab.async false

/-! ### The warning unit -/

/-- A change of the warning unit that leaves the level keeps all if it keeps the siren's. -/
theorem State.mapWarn_keeps {but : List Topic} {s : State} {f : WarningUnit → WarningUnit}
    (hlevel : (f s.warn).level = s.warn.level)
    (hsiren : s.sirenHolds = true → (s.mapWarn f).sirenHolds = true) : Keeps but s (s.mapWarn f) :=
  Keeps.all <| ((Keeps.of_warn s f).patch hsiren).patch fun hs => by
    have hlocked : (s.mapWarn f).lockedOut = s.lockedOut := by simp only [State.lockedOut, State.mapWarn, hlevel]
    rw [State.lockoutHolds_iff] at hs ⊢
    rwa [hlocked]

/-- The siren within its level, its timers in SOUNDING and TEST, and no clear time at NORMAL or before READY. -/
theorem State.sirenHolds_iff (s : State) : s.sirenHolds = true ↔
    (s.warn.siren = .off ∨ s.warn.siren = .test ∨ s.warn.level = .danger) ∧
    (s.warn.siren = .test → s.warn.level = .normal) ∧
    (s.warn.sirenStart.isSome = true ↔ s.warn.siren = .sounding) ∧
    (s.warn.testStart.isSome = true ↔ s.warn.siren = .test) ∧
    (s.warn.level = .normal → s.warn.clearSince = none) ∧
    (s.phase = .ready ∨ (s.warn.siren = .off ∧ s.warn.clearSince = none)) := by
  simp only [State.sirenHolds, WarningUnit.sirenHolds, Bool.and_eq_true, Bool.or_eq_true, decide_eq_true_eq,
    Option.isNone_iff_eq_none, and_assoc, or_assoc]
  have hb (x : Bool) (c : Prop) [Decidable c] : x = decide c ↔ (x = true ↔ c) := by
    cases x <;> simp
  simp only [hb, ne_eq, Decidable.imp_iff_not_or]

/-- A change of the warning unit that leaves level, siren and timers. -/
theorem State.mapWarn_keeps_of_eq {but : List Topic} {s : State} {f : WarningUnit → WarningUnit}
    (hlevel : (f s.warn).level = s.warn.level := by rfl) (hsiren : (f s.warn).siren = s.warn.siren := by rfl)
    (hstart : (f s.warn).sirenStart = s.warn.sirenStart := by rfl)
    (htest : (f s.warn).testStart = s.warn.testStart := by rfl)
    (hclear : (f s.warn).clearSince = s.warn.clearSince := by rfl) : Keeps but s (s.mapWarn f) :=
  State.mapWarn_keeps hlevel fun hs => by
    rw [State.sirenHolds_iff] at hs ⊢
    simpa only [State.mapWarn, hlevel, hsiren, hstart, htest, hclear] using hs

theorem State.sirenExpiry_keeps {but : List Topic} (s : State) : Keeps but s s.sirenExpiry := by
  unfold State.sirenExpiry
  refine .ite (fun hdue => .trans (State.mapWarn_keeps rfl fun hs => ?_) (State.raiseAll_keeps _)) fun _ => .refl s
  have hsounding : s.warn.siren = .sounding := by
    simp only [State.sirenDue, Bool.and_eq_true, decide_eq_true_eq] at hdue
    exact hdue.1
  rw [State.sirenHolds_iff] at hs ⊢
  simp_all

theorem State.testExpiry_keeps {but : List Topic} (s : State) : Keeps but s s.testExpiry := by
  unfold State.testExpiry
  refine .ite (fun hdue => State.mapWarn_keeps rfl fun hs => ?_) fun _ => .refl s
  have htest : s.warn.siren = .test := by
    simp only [State.testDue, Bool.and_eq_true, decide_eq_true_eq] at hdue
    exact hdue.1
  rw [State.sirenHolds_iff] at hs ⊢
  simp_all

theorem ackSiren_keeps {but : List Topic} (payload : List Byte) (s : State) : Keeps but s (ackSiren payload s).1 := by
  unfold ackSiren
  split
  · exact .refl s
  · refine .iteBody (fun hsounding => .trans (State.mapWarn_keeps rfl fun hs => ?_) (State.raiseAll_keeps _))
      fun _ => .refl s
    rw [State.sirenHolds_iff] at hs ⊢
    simp_all

theorem testSiren_keeps {but : List Topic} (payload : List Byte) {s : State} (hphase : s.phase = .ready) :
    Keeps but s (testSiren payload s).1 := by
  unfold testSiren
  split
  · exact .refl s
  · refine .iteBody (fun hidle => ?_) fun _ => .refl s
    refine State.mapWarn_keeps (f := fun w => { w with siren := .test, testStart := some s.uptime }) rfl fun hs => ?_
    rw [State.sirenHolds_iff] at hs ⊢
    simp_all

/-! ### A change of level (R78 to R80, R83) -/

/-- What a park request leaves of the run (R104). -/
theorem State.park_run_eq (s : State) (x : ParkReason) :
    (s.park x).run = s.run.map fun r => if r.parksOn x then r.parked x s.uptime else r := by
  cases hr : s.run with
  | none => rw [State.park_idle s x (by simp [hr]), hr]; rfl
  | some r =>
    by_cases hp : r.parksOn x = true
    · rw [State.park_run s x r hr hp]
      simp [hp]
    · rw [State.park_idle s x (by simpa [hr] using hp), hr]
      simp [hp]

theorem State.parkAbove_keeps {but : List Topic} (s : State) (rise : Bool) (c : Level) :
    Keeps but s (s.parkAbove rise c) := by
  unfold State.parkAbove
  exact .ite (fun _ => s.park_keeps _) fun _ => .refl s

theorem State.parkAbove_run (s : State) (rise : Bool) (c : Level) : (s.parkAbove rise c).run =
    s.run.map fun r => if rise = true ∧ s.cfg.runLimitRank < c.rank ∧ r.active = true then r.parked .level s.uptime
      else r := by
  unfold State.parkAbove
  by_cases hr : rise = true <;> by_cases hl : s.cfg.runLimitRank < c.rank <;>
    simp [hr, hl, State.park_run_eq, Run.parksOn]

theorem State.changeLevel_run (s : State) (rise : Bool) (c : Level) (t : Word32) (now : Nat) :
    (s.changeLevel rise c t now).run =
      s.run.map fun r => if rise = true ∧ s.cfg.runLimitRank < c.rank ∧ r.active = true then r.parked .level s.uptime
        else r := by
  simp [State.changeLevel, State.parkAbove_run]

/-- R78's order, the siren's part and the level's apart. -/
theorem State.changeLevel_keeps_rest (s : State) (rise : Bool) (c : Level) (t : Word32) (now : Nat) :
    Keeps [.siren, .lockout] s (s.changeLevel rise c t now) := by
  unfold State.changeLevel
  exact .trans (.trans (.trans (.trans (Keeps.of_warn s _) (State.raiseAll_keeps _)) (State.realign_keeps _))
    (State.parkAbove_keeps _ rise c)) (Keeps.of_warn _ _)

@[simp] theorem State.parkAbove_cfg (s : State) (rise : Bool) (c : Level) : (s.parkAbove rise c).cfg = s.cfg := by
  unfold State.parkAbove
  split <;> simp

@[simp] theorem State.changeLevel_cfg (s : State) (rise : Bool) (c : Level) (t : Word32) (now : Nat) :
    (s.changeLevel rise c t now).cfg = s.cfg := by
  simp [State.changeLevel]

theorem WarningUnit.sirenChanged_level (w : WarningUnit) (rise : Bool) (c : Level) (now : Nat) :
    (w.sirenChanged rise c now).level = w.level := by
  simp only [WarningUnit.sirenChanged, apply_ite WarningUnit.level, ite_self]

@[simp] theorem State.changeLevel_level (s : State) (rise : Bool) (c : Level) (t : Word32) (now : Nat) :
    (s.changeLevel rise c t now).warn.level = c := by
  rw [State.changeLevel_warn, WarningUnit.sirenChanged_level]
  rfl

/-- A level that rises parks every active run above run_limit; one that does not rise leaves no new run above it. -/
theorem State.changeLevel_lockout {s : State} {rise : Bool} {c : Level} (t : Word32) (now : Nat)
    (hfall : rise = false → c.rank ≤ s.warn.level.rank) (hs : s.lockoutHolds = true) :
    (s.changeLevel rise c t now).lockoutHolds = true := by
  have hphase := (s.changeLevel_keeps_rest rise c t now).phase_eq
  rw [State.lockoutHolds_iff] at hs ⊢
  simp only [State.changeLevel_run, hphase, Option.map_eq_some_iff, State.lockedOut, State.changeLevel_cfg,
    State.changeLevel_level, decide_eq_false_iff_not] at hs ⊢
  rintro _ ⟨r, hr, rfl⟩
  obtain ⟨hready, hopen⟩ := hs r hr
  refine ⟨hready, fun hactive hlimit => ?_⟩
  split at hactive
  · cases hactive
  · next hkept =>
    cases rise with
    | true => exact hkept ⟨rfl, hlimit, hactive⟩
    | false => exact hopen hactive (Nat.lt_of_lt_of_le hlimit (hfall rfl))

/-- A rise sounds the siren at DANGER and ends a test; a fall from DANGER stops it (R80, R83). -/
theorem State.changeLevel_siren {s : State} {rise : Bool} {c : Level} (t : Word32) (now : Nat) (hready : s.phase = .ready)
    (hrise : rise = true → s.warn.level.rank < c.rank) (hfall : rise = false → s.warn.level ≠ .normal)
    (hs : s.sirenHolds = true) : (s.changeLevel rise c t now).sirenHolds = true := by
  have hphase := (s.changeLevel_keeps_rest rise c t now).phase_eq
  rw [State.sirenHolds_iff] at hs ⊢
  obtain ⟨hlevel, htest, hstart, hteststart, -, -⟩ := hs
  rw [hphase, State.changeLevel_warn]
  cases rise with
  | true =>
    have hbelow : s.warn.level ≠ .danger := by
      intro hd
      have := hrise rfl
      rw [hd] at this
      cases c <;> simp [Level.rank] at this
    by_cases hc : c = .danger
    · simp [WarningUnit.sirenChanged, WarningUnit.moved, hc, hready]
    · by_cases ht : s.warn.siren = .test
      · simp [WarningUnit.sirenChanged, WarningUnit.moved, hc, ht, hready]
        simp_all
      · have hoff : s.warn.siren = .off := by simp_all
        simp_all [WarningUnit.sirenChanged, WarningUnit.moved]
  | false =>
    have hnottest : s.warn.siren ≠ .test := fun ht => hfall rfl (htest ht)
    by_cases ho : s.warn.siren = .sounding ∨ s.warn.siren = .silenced
    · simp [WarningUnit.sirenChanged, WarningUnit.moved, ho, hready]
      simp_all
    · have hoff : s.warn.siren = .off := by
        cases hsiren : s.warn.siren <;> simp_all
      simp_all [WarningUnit.sirenChanged, WarningUnit.moved]

theorem State.changeLevel_keeps {but : List Topic} {s : State} {rise : Bool} {c : Level} (t : Word32) (now : Nat)
    (hready : s.phase = .ready) (hrise : rise = true → s.warn.level.rank < c.rank)
    (hfall : rise = false → c.rank ≤ s.warn.level.rank ∧ s.warn.level ≠ .normal) :
    Keeps but s (s.changeLevel rise c t now) :=
  Keeps.all <| ((s.changeLevel_keeps_rest rise c t now).patch
    (s.changeLevel_siren t now hready hrise fun h => (hfall h).2)).patch
    (s.changeLevel_lockout t now fun h => (hfall h).1)

/-! ### Evaluating a sample (R72 to R78) -/

theorem WarningUnit.judgedClear_normal {w : WarningUnit} (h : w.level = .normal) (stage : Int) (rate : Option Int)
    (now : Nat) : w.judgedClear stage rate now = none := by
  simp [WarningUnit.judgedClear, WarningUnit.clearHolds, WarnItems.of, h]

theorem State.judge_keeps {but : List Topic} {s : State} (c : Level) (x : StageSample) (stage : Int)
    (hready : s.phase = .ready) : Keeps but s (s.judge c x stage) := by
  unfold State.judge
  refine .ite (fun hrise => State.changeLevel_keeps _ _ hready (fun _ => hrise) nofun) fun hnot => ?_
  have hclear : Keeps but s
      (s.mapWarn fun w => { w with clearSince := w.judgedClear stage x.rate x.uptime }) :=
    State.mapWarn_keeps rfl fun hs => by
      rw [State.sirenHolds_iff] at hs ⊢
      obtain ⟨hlevel, htest, hstart, hteststart, -, -⟩ := hs
      exact ⟨hlevel, htest, hstart, hteststart, fun hn => WarningUnit.judgedClear_normal (w := s.warn) hn .., .inl hready⟩
  refine .ite (fun hheld => hclear.trans (State.changeLevel_keeps _ _ hready nofun fun _ => ?_)) fun _ => hclear
  refine ⟨Nat.not_lt.1 hnot, fun hn => ?_⟩
  have hn' : s.warn.level = .normal := hn
  simp [WarningUnit.holdRun, State.mapWarn, WarningUnit.judgedClear_normal hn', timerDue] at hheld

theorem State.evaluateAbsent_keeps {but : List Topic} (s : State) : Keeps but s s.evaluateAbsent := by
  have hblind : Keeps but s (s.mapWarn WarningUnit.blind) := State.mapWarn_keeps rfl fun hs => by
    rw [State.sirenHolds_iff] at hs ⊢
    obtain ⟨hlevel, htest, hstart, hteststart, -, hphase⟩ := hs
    exact ⟨hlevel, htest, hstart, hteststart, fun _ => rfl, hphase.imp_right fun h => ⟨h.1, rfl⟩⟩
  unfold State.evaluateAbsent
  exact .ite (fun _ => (hblind.trans State.mapWarn_keeps_of_eq).trans (State.raiseAll_keeps _)) fun _ => hblind

theorem State.loadWarnItems_keeps {but : List Topic} (s : State) : Keeps but s s.loadWarnItems :=
  State.mapWarn_keeps_of_eq

theorem State.evaluate_keeps {but : List Topic} {s : State} (x : StageSample) (hready : s.phase = .ready) :
    Keeps but s (s.evaluate x) := by
  unfold State.evaluate
  split
  · exact s.loadWarnItems_keeps.trans (.trans State.mapWarn_keeps_of_eq (State.judge_keeps _ x _ hready))
  · exact s.loadWarnItems_keeps.trans (State.evaluateAbsent_keeps _)

end Sys2Proof.Machine
end

section
/-! PROOFS. What sensors, clock and sampling keep (Machine/Sensors.lean, Machine/Clock.lean, Machine/Sampling.lean), and the
configuration items they write (R185). -/

namespace Sys2Proof.Machine

-- one theorem at a time: many elaborated side by side would take a thread and its stack each
set_option Elab.async false

/-! ### One item of a configuration -/

theorem Item.index_inj {i j : Item} (h : i.index = j.index) : i = j := by
  have hall : ∀ i ∈ allItems, ∀ j ∈ allItems, i.index = j.index → i = j := by decide
  exact hall i (mem_allItems i) j (mem_allItems j) h

theorem LiveConfig.get_set (c : LiveConfig) (i j : Item) (v : Int) :
    (c.set i v).get j = if j = i then v else c.get j := by
  unfold LiveConfig.get LiveConfig.set
  split
  · next h => simp [h]
  · next h =>
    have hne : i.index.val ≠ j.index.val := fun hi => h (Item.index_inj (Fin.ext hi)).symm
    exact Vector.getElem_set_ne i.index.isLt j.index.isLt hne

/-- Each item within its range, an interval a member of R24's set. -/
theorem LiveConfig.inRange_iff (c : LiveConfig) : c.inRange = true ↔ ∀ i : Item, i.row.least ≤ c.get i ∧
    c.get i ≤ i.row.greatest ∧ ∀ l, i = .interval l → c.get i ∈ intervalMembers := by
  simp only [LiveConfig.inRange, List.all_eq_true, Bool.and_eq_true, decide_eq_true_eq, and_assoc]
  constructor
  · intro h i
    obtain ⟨hlo, hhi, hm⟩ := h i (mem_allItems i)
    refine ⟨hlo, hhi, fun l hl => ?_⟩
    subst hl
    simpa using hm
  · intro h i _
    obtain ⟨hlo, hhi, hm⟩ := h i
    refine ⟨hlo, hhi, ?_⟩
    cases i with
    | interval l => simpa using hm l rfl
    | _ => rfl

/-- An item is given a value it may take. -/
def Item.takes (i : Item) (v : Int) : Prop :=
  i.row.least ≤ v ∧ v ≤ i.row.greatest ∧ ∀ l, i = .interval l → v ∈ intervalMembers

theorem LiveConfig.set_inRange {c : LiveConfig} {i : Item} {v : Int} (h : c.inRange = true) (hv : i.takes v) :
    (c.set i v).inRange = true := by
  rw [LiveConfig.inRange_iff] at h ⊢
  intro j
  rw [LiveConfig.get_set]
  split
  · next hj => exact hj ▸ hv
  · exact h j

theorem State.setItem_keeps_config {but : List Topic} {s : State} {i : Item} {v : Int} (hv : i.takes v) :
    Keeps (.lockout :: but) s { s with cfg := s.cfg.set i v } :=
  (Keeps.patch (a := .config) (Keeps.of_cfg s _).mono fun hs => by
    simp only [State.configHolds, Bool.and_eq_true] at hs ⊢
    exact ⟨⟨LiveConfig.set_inRange hs.1.1 hv, hs.1.2⟩, hs.2⟩ : Keeps [.lockout] s _).mono

/-- An item other than run_limit. -/
theorem State.setItem_keeps {but : List Topic} {s : State} {i : Item} {v : Int} (hv : i.takes v) (hi : i ≠ .runLimit) :
    Keeps but s { s with cfg := s.cfg.set i v } := by
  refine (State.setItem_keeps_config hv).patch fun hs => ?_
  have hget : (s.cfg.set i v).get .runLimit = s.cfg.get .runLimit := (LiveConfig.get_set ..).trans (if_neg hi.symm)
  have hlocked : State.lockedOut { s with cfg := s.cfg.set i v } = s.lockedOut :=
    congrArg (fun x : Int => decide (x.toNat < s.warn.level.rank)) hget
  rw [State.lockoutHolds_iff] at hs ⊢
  rwa [hlocked]

/-! ### Sensors -/

section
variable {but : List Topic} (s : State)

theorem State.encoder_keeps (fa fb : Bool) : Keeps but s (s.encoder fa fb) := by
  unfold State.encoder
  exact .ite (fun _ => .of_view) fun _ => .refl s

theorem State.abandonMeasurement_keeps : Keeps but s s.abandonMeasurement := by
  unfold State.abandonMeasurement
  exact .ite (fun _ => .of_view) fun _ => .refl s

theorem State.completeMeasurement_keeps (n : Nat) : Keeps but s (s.completeMeasurement n) := by
  unfold State.completeMeasurement
  exact .ite (fun _ => .refl s) fun _ => .ite (fun _ => s.abandonMeasurement_keeps) fun _ => .of_view

theorem State.loseSignal_keeps : Keeps but s s.loseSignal := by
  unfold State.loseSignal
  refine .ite (fun _ => .trans ?_ (State.raiseAll_keeps _)) fun _ => .refl s
  exact .of_view

theorem State.purgeIf_keeps (b : Bool) : Keeps but s (s.purgeIf b) := by
  unfold State.purgeIf
  exact .ite (fun _ => .of_view) fun _ => .refl s

theorem Run.markReference_eq (r : Run) :
    r.markReference = { r with referenceChanged := r.active || r.referenceChanged } := by
  unfold Run.markReference
  cases h : r.active <;> simp

theorem Run.markSource_eq (r : Run) : r.markSource = { r with sourceChanged := r.active || r.sourceChanged } := by
  unfold Run.markSource
  cases h : r.active <;> simp

theorem State.setReference_keeps {staff : Int} {target : Nat}
    (hdatum : target.testBit 1 = true → Item.takes .datum (staff - s.pressCh.head)) :
    Keeps but s (s.setReference staff target) := by
  unfold State.setReference
  have hmark (u : State) : Keeps but u (u.mapRun Run.markReference) :=
    u.mapRun_keeps_of_eq (fun r => by rw [Run.markReference_eq]) (fun r => by rw [Run.markReference_eq])
      (fun r => by rw [Run.markReference_eq]) (fun r => by rw [Run.markReference_eq])
  refine .trans (.trans (.trans (t := s.referenceFloat target staff) ?_ ?_) (State.purgeIf_keeps _ _)) (hmark _)
  · unfold State.referenceFloat
    exact .ite (fun _ => .of_view) fun _ => .refl s
  · unfold State.referencePressure
    refine .ite (fun ht => .trans (State.setItem_keeps (i := .datum)
      (v := staff - (s.referenceFloat target staff).pressCh.head) ?_ nofun) .of_view) fun _ => .refl _
    have hpress : (s.referenceFloat target staff).pressCh = s.pressCh := by
      unfold State.referenceFloat
      split <;> rfl
    rw [hpress]
    exact hdatum ht

theorem setReference_keeps (payload : List Byte) : Keeps but s (setReference payload s).1 := by
  unfold setReference
  split
  · exact .refl s
  · next staff target _ =>
    split
    · exact .refl s
    · next hcheck =>
      refine s.setReference_keeps fun ht => ?_
      unfold State.referenceCheck at hcheck
      split at hcheck
      · cases hcheck
      · split at hcheck
        · cases hcheck
        · split at hcheck
          · cases hcheck
          · split at hcheck
            · cases hcheck
            · next hrange =>
              have hin : inRange (Item.row .datum).least (Item.row .datum).greatest (staff - s.pressCh.head) = true := by
                simpa [ht] using hrange
              obtain ⟨hlo, hhi⟩ := (Machine.inRange_iff _ _ _).1 hin
              exact ⟨hlo, hhi, nofun⟩

/-! ### The clock -/

theorem State.advanceClock_keeps : Keeps but s s.advanceClock := by
  unfold State.advanceClock
  exact .ite (fun _ => .refl s) fun _ => .of_view

theorem State.exhaustBackup_keeps : Keeps but s s.exhaustBackup := by
  unfold State.exhaustBackup
  exact .ite (fun _ => .of_view) fun _ => .refl s

end

/-! ### The append buffer in READY (R142, R151) -/

theorem State.enterBuffer_keeps {but : List Topic} {s : State} (body : LogBody) (hready : s.phase = .ready) :
    Keeps but s (s.enterBuffer body) := Keeps.all <| by
  unfold State.enterBuffer
  refine .ite (fun _ => ?_) fun _ => .ite (fun hroom => ?_) fun _ => ?_
  · refine Keeps.patch (a := .buffer) ?_ fun hs => ?_
    · refine .trans s.overwriteRing_keeps ?_
      exact Keeps.of_log _ _ s.overwriteRing.store.dropped _
    · have hring : s.overwriteRing.BufferHolds := s.overwriteRing_keeps (but := []) .buffer (by simp) hs
      refine State.pushRecord_keeps (but := []) 0 body (s.overwriteRing_keeps (but := []) |>.phase_eq.trans hready) ?_
        .buffer (by simp) hring
      exact State.overwriteRing_length hs.1
  · refine .trans ?_ (State.pushRecord_keeps (s := s.setStore { s.store with dropped := 0 }) _ body hready hroom)
    refine Keeps.patch (a := .buffer) (Keeps.of_log s s.store.buffer 0 s.store.nextSeq) fun hs => ?_
    obtain ⟨hlen, -, hseq, hphase⟩ := hs
    exact ⟨hlen, Nat.zero_le _, hseq, hphase⟩
  · refine Keeps.patch (a := .buffer) (Keeps.of_log s s.store.buffer _ s.store.nextSeq) fun hs => ?_
    obtain ⟨hlen, -, hseq, hphase⟩ := hs
    refine ⟨hlen, ?_, hseq, hphase⟩
    simp only [State.setStore_store, saturate]
    split <;> omega

theorem State.compose_keeps {but : List Topic} {s : State} (c : ComposedSample) (hready : s.phase = .ready) :
    Keeps but s (s.compose c) :=
  .trans .of_view (State.enterBuffer_keeps (s := { s with sel := { s.sel with newest := some c } }) _ hready)

/-! ### A sample (R35) -/

section
variable {but : List Topic} (s : State)

theorem State.sampleStall_keeps : Keeps but s s.sampleStall := by
  unfold State.sampleStall
  refine .ite (fun _ => .trans ?_ (State.raiseAll_keeps _)) fun _ => .of_view
  exact .of_view

theorem State.sampleHand_keeps : Keeps but s s.sampleHand := by
  unfold State.sampleHand
  refine .ite (fun _ => .trans ?_ (State.raiseAll_keeps _)) fun _ => .of_view
  exact .of_view

theorem State.sampleJudge_keeps (h : Handed) : Keeps but s (s.sampleJudge h) := by
  unfold State.sampleJudge
  refine .ite (fun _ => .trans ?_ (State.raiseAll_keeps _)) fun _ => .of_view
  exact .of_view

theorem State.markSource_keeps : Keeps but s (s.mapRun Run.markSource) :=
  s.mapRun_keeps_of_eq (fun r => by rw [Run.markSource_eq]) (fun r => by rw [Run.markSource_eq])
    (fun r => by rw [Run.markSource_eq]) (fun r => by rw [Run.markSource_eq])

theorem State.sampleSwitch_keeps (c : Source) : Keeps but s (s.sampleSwitch c) := by
  unfold State.sampleSwitch
  dsimp only
  refine .ite (fun _ => ?_) fun _ => .of_view
  refine .trans (.trans (.trans (t := State.raiseAll _ .sourceSwitched) ?_ .of_view) (State.markSource_keeps _))
    (State.park_keeps _ _)
  refine .trans ?_ (State.raiseAll_keeps _)
  exact .of_view

theorem State.sampleOffer_keeps (stage : Option Int) : Keeps but s (s.sampleOffer stage) := by
  unfold State.sampleOffer
  split
  · exact .refl s
  · exact .of_view

theorem Run.accumulate_kept (r : Run) (stage : Option Int) : (r.accumulate stage).table = r.table ∧
    (r.accumulate stage).totalQ = r.totalQ ∧ (r.accumulate stage).totalA = r.totalA ∧
    (r.accumulate stage).state = r.state := by
  unfold Run.accumulate
  split
  · exact ⟨rfl, rfl, rfl, rfl⟩
  · split <;> exact ⟨rfl, rfl, rfl, rfl⟩

theorem State.accumulate_keeps (stage : Option Int) : Keeps but s (s.mapRun fun r => r.accumulate stage) :=
  s.mapRun_keeps_of_eq (fun r => (r.accumulate_kept stage).1) (fun r => (r.accumulate_kept stage).2.1)
    (fun r => (r.accumulate_kept stage).2.2.1) (fun r => (r.accumulate_kept stage).2.2.2)

theorem State.weigh_keeps (x : StageSample) {s : State} (hready : s.phase = .ready) : Keeps but s (s.weigh x) := by
  unfold State.weigh
  refine .ite (fun _ => ?_) fun _ => ?_
  · exact .trans (.trans .of_view (State.accumulate_keeps _ _)) (State.evaluate_keeps x hready)
  · exact .trans (.trans .of_view (State.evaluate_keeps (s := { s with freeIndex := s.freeIndex + 1 }) x hready))
      (State.accumulate_keeps _ _)

theorem State.deliver_keeps (x : StageSample) {s : State} (hready : s.phase = .ready) : Keeps but s (s.deliver x) :=
  .trans (State.weigh_keeps x hready)
    (State.compose_keeps _ ((State.weigh_keeps (but := []) x hready).phase_eq.trans hready))

theorem State.sampleGovern_keeps (h : Handed) (extra : Bool) {s : State} (hready : s.phase = .ready) :
    Keeps but s (s.sampleGovern h extra) := by
  have hformed {b : List Topic} (u : State) (c : Source) :
      Keeps b u (((u.sampleJudge h).sampleSwitch c).sampleOffer (h.stageOf c)) :=
    .trans (.trans (u.sampleJudge_keeps h) (State.sampleSwitch_keeps _ c)) (State.sampleOffer_keeps _ _)
  unfold State.sampleGovern
  refine .trans (.trans ?_ (hformed _ _)) (State.deliver_keeps _ ?_)
  · exact .of_view
  · rw [(hformed (b := []) _ _).phase_eq]
    exact hready

theorem State.sampleLoad_keeps : Keeps but s s.sampleLoad := .of_view

theorem State.formSample_keeps (extra : Bool) {s : State} (hready : s.phase = .ready) :
    Keeps but s (s.formSample extra) := by
  have hhanded {b : List Topic} : Keeps b s s.sampleLoad.sampleStall.sampleHand :=
    .trans (s.sampleLoad_keeps.trans (State.sampleStall_keeps _)) (State.sampleHand_keeps _)
  unfold State.formSample
  exact hhanded.trans (State.sampleGovern_keeps _ extra ((hhanded (b := [])).phase_eq.trans hready))

theorem State.ready_of_sampleDue {s : State} (h : s.sampleDue = true) : s.phase = .ready := by
  simp only [State.sampleDue, State.scheduleRuns, Bool.and_eq_true, decide_eq_true_eq] at h
  exact h.1

theorem State.scheduledSample_keeps : Keeps but s s.scheduledSample := by
  unfold State.scheduledSample
  refine .ite (fun hdue => .trans ?_ (State.formSample_keeps false (State.ready_of_sampleDue (s := s) hdue))) fun _ => .refl s
  exact .of_view

theorem State.clockTick_keeps : Keeps but s s.clockTick :=
  s.scheduledSample_keeps.trans (State.advanceClock_keeps _)

/-! ### SET_TIME, REQUEST_SAMPLE, SELECT_SOURCE -/

theorem State.afterLargeStep_keeps (old : Word32) (unset : Bool) {s : State} (hready : s.phase = .ready) :
    Keeps but s (s.afterLargeStep old unset) := by
  unfold State.afterLargeStep
  dsimp only
  refine .trans (t := State.raiseAll _ .clockStepped) (.trans ?_ (State.raiseAll_keeps _)) .of_view
  exact .trans (State.enterBuffer_keeps _ hready) .of_view

theorem State.stepClock_keeps (new : Word32) {s : State} (hready : s.phase = .ready) : Keeps but s (s.stepClock new) := by
  unfold State.stepClock
  refine .ite (fun _ => .of_view) fun _ => .trans ?_ (State.afterLargeStep_keeps _ _ hready)
  exact .of_view

theorem setTime_keeps (payload : List Byte) {s : State} (hready : s.phase = .ready) : Keeps but s (setTime payload s).1 := by
  unfold setTime
  split
  · exact .refl s
  · exact s.scheduledSample_keeps.trans
      (State.stepClock_keeps _ ((s.scheduledSample_keeps (but := [])).phase_eq.trans hready))

theorem requestSample_keeps (payload : List Byte) {s : State} (hready : s.phase = .ready) :
    Keeps but s (requestSample payload s).1 := by
  unfold requestSample
  split
  · exact .refl s
  · refine .iteBody (fun _ => .refl s) fun _ => .trans ?_ (State.formSample_keeps true (s := s.sampleTaken) hready)
    exact .of_view

theorem selectSource_keeps (payload : List Byte) : Keeps but s (selectSource payload s).1 := by
  unfold selectSource
  split
  · exact .refl s
  · refine .iteBody (fun _ => .refl s) fun hm => State.setItem_keeps ⟨?_, ?_, nofun⟩ nofun
    · simp [Item.row]
    · simp only [Item.row]
      omega

end

end Sys2Proof.Machine
end

section
/-! PROOFS. What the rating unit keeps (Machine/Rating.lean, Machine/Activation.lean): the draft's commands, an activation's
beginning, its exchange and its abandonment. -/

namespace Sys2Proof.Machine

-- one theorem at a time: many elaborated side by side would take a thread and its stack each
set_option Elab.async false

/-! ### Bounded and valid sets (R49, R59) -/

theorem RatingSet.bounded_iff (r : RatingSet) : r.bounded = true ↔ r.points.length ≤ 64 ∧ r.shifts.length ≤ 8 ∧
    (∀ x ∈ r.points, x.inRange = true) ∧ inRange 0 5000 r.ext = true ∧
    ∀ e ∈ r.shifts, inRange (-2000) 2000 e.shift = true := by
  simp only [RatingSet.bounded, Bool.and_eq_true, decide_eq_true_eq, List.all_eq_true, and_assoc]

theorem RatingSet.valid_iff (r : RatingSet) : r.valid = true ↔ r.bounded = true ∧ r.activationFault = none := by
  simp only [RatingSet.valid, RatingSet.bounded_iff, Bool.and_eq_true, decide_eq_true_eq, List.all_eq_true,
    Option.isNone_iff_eq_none]
  exact ⟨fun ⟨⟨⟨⟨⟨hlen, hshifts⟩, hfault⟩, hpoints⟩, hext⟩, hshift⟩ => ⟨⟨hlen, hshifts, hpoints, hext, hshift⟩, hfault⟩,
    fun ⟨⟨hlen, hshifts, hpoints, hext, hshift⟩, hfault⟩ => ⟨⟨⟨⟨⟨hlen, hshifts⟩, hfault⟩, hpoints⟩, hext⟩, hshift⟩⟩

/-- The id is no part of what a set must hold. -/
@[simp] theorem RatingSet.bounded_id (r : RatingSet) (n : Nat) : RatingSet.bounded { r with id := n } = r.bounded := rfl

@[simp] theorem RatingSet.valid_id (r : RatingSet) (n : Nat) : RatingSet.valid { r with id := n } = r.valid := rfl

theorem RatingSet.bounded_of_valid {r : RatingSet} (h : r.valid = true) : r.bounded = true := (r.valid_iff.1 h).1

/-- The rating unit's sets hold, and so do those on their way to flash or in it. -/
theorem State.ratingHolds_iff (s : State) : s.ratingHolds = true ↔ (∀ r, s.rating.active = some r → r.valid = true) ∧
    s.rating.draft.setHolds = true ∧ (∀ f, s.rating.inFlight = some f → f.set.valid = true) ∧
    (∀ w ∈ s.store.class4, w.imageHolds = true) ∧ s.store.unitsHold FlashUnit.imageHolds = true := by
  simp only [State.ratingHolds, Bool.and_eq_true, List.all_eq_true, and_assoc]
  refine and_congr ?_ (and_congr Iff.rfl (and_congr ?_ Iff.rfl))
  · cases s.rating.active <;> simp
  · cases s.rating.inFlight <;> simp

theorem State.setRating_keeps {but : List Topic} {s : State} {u : RatingUnit}
    (hdraft : s.draftHolds = true → State.draftHolds { s with rating := u } = true)
    (hrating : s.ratingHolds = true → State.ratingHolds { s with rating := u } = true) :
    Keeps but s { s with rating := u } := Keeps.all <| ((Keeps.of_rating s u).patch hdraft).patch hrating

/-! ### The DRAFT slot -/

/-- A draft that no port is activating. -/
def Draft.Idle (d : Draft) : Prop := ∀ p, d ≠ .activating p

theorem RatingUnit.activatingFor_idle {u : RatingUnit} (h : u.draft.Idle) (p : Port) : u.activatingFor p = false := by
  unfold RatingUnit.activatingFor
  split
  · next owner hd => exact absurd hd (h owner)
  · rfl

theorem State.setDraft_keeps {but : List Topic} {s : State} {d : Draft} (hold : s.rating.draft.Idle) (hnew : d.Idle)
    (hset : s.ratingHolds = true → d.setHolds = true) : Keeps but s (s.setDraft d) := by
  refine State.setRating_keeps (fun hs => ?_) fun hs => ?_
  · rw [State.draftHolds_iff] at hs ⊢
    intro p
    obtain ⟨hp, hreply⟩ := hs p
    rw [RatingUnit.activatingFor_idle hold] at hp
    exact ⟨(RatingUnit.activatingFor_idle (u := { s.rating with draft := d }) hnew p).trans hp, hreply⟩
  · have hnewset := hset hs
    rw [State.ratingHolds_iff] at hs ⊢
    exact ⟨hs.1, hnewset, hs.2.2⟩

/-- The table refuses every draft command while a port activates. -/
theorem RatingUnit.idle_of_draftCheck {u : RatingUnit} {p : Port} {c : DraftCommand} (h : u.draftCheck p c = none) :
    u.draft.Idle := by
  intro q hq
  simp [RatingUnit.draftCheck, hq] at h

theorem RatingUnit.begun_bounded {s : State} (copy : Bool) (hs : s.ratingHolds = true) :
    (s.rating.begun copy).bounded = true := by
  unfold RatingUnit.begun
  split
  · next a ha => exact RatingSet.bounded_of_valid ((s.ratingHolds_iff.1 hs).1 a ha)
  · rfl

section
variable {but : List Topic} (p : Port) (payload : List Byte) (s : State)

theorem draftBegin_keeps : Keeps but s (draftBegin p payload s).1 := by
  unfold draftBegin
  split
  · exact .refl s
  · split
    · exact .refl s
    · next hcheck =>
      exact .iteBody (fun _ => .refl s) fun _ =>
        State.setDraft_keeps (RatingUnit.idle_of_draftCheck hcheck) nofun (RatingUnit.begun_bounded _)

theorem draftDiscard_keeps : Keeps but s (draftDiscard p payload s).1 := by
  unfold draftDiscard
  split
  · exact .refl s
  · split
    · exact .refl s
    · next hcheck => exact State.setDraft_keeps (RatingUnit.idle_of_draftCheck hcheck) nofun fun _ => rfl

/-- An edit that keeps a draft bounded. -/
theorem editDraft_keeps {edit : RatingSet → Option (RatingSet × Answer)}
    (h : ∀ d x, d.bounded = true → edit d = some x → x.1.bounded = true) : Keeps but s (editDraft p s edit).1 := by
  unfold editDraft
  split
  · exact .refl s
  · next hcheck =>
    split
    · next owner d hd =>
      split
      · exact .refl s
      · next d' a he =>
        refine State.setDraft_keeps (RatingUnit.idle_of_draftCheck hcheck) nofun fun hs => h d _ ?_ he
        have hset := (s.ratingHolds_iff.1 hs).2.1
        rwa [hd] at hset
    · exact .refl s

theorem RatingSet.withPoints_bounded {d : RatingSet} {first : Nat} {ps : List RatingPoint} {x : RatingSet × Answer}
    (hd : d.bounded = true) (h : d.withPoints first ps = some x) : x.1.bounded = true := by
  unfold RatingSet.withPoints at h
  split at h
  · cases h
  · next hfits =>
    simp only [not_or, Nat.not_lt, Bool.not_eq_false, List.all_eq_true] at hfits
    obtain ⟨hfirst, hlen, hps⟩ := hfits
    cases h
    rw [RatingSet.bounded_iff] at hd ⊢
    obtain ⟨hold, hshifts, hpoints, hrest⟩ := hd
    refine ⟨?_, hshifts, fun y hy => ?_, hrest⟩
    · simp only [length_putPoints hfirst]
      omega
    · simp only [putPoints, List.mem_append] at hy
      rcases hy with (hy | hy) | hy
      · exact hpoints y (List.mem_of_mem_take hy)
      · exact hps y hy
      · exact hpoints y (List.mem_of_mem_drop hy)

theorem RatingSet.truncated_bounded {d : RatingSet} {count : Nat} {x : RatingSet × Answer}
    (hd : d.bounded = true) (h : d.truncated count = some x) : x.1.bounded = true := by
  unfold RatingSet.truncated at h
  split at h
  · cases h
  · cases h
    rw [RatingSet.bounded_iff] at hd ⊢
    obtain ⟨hold, hshifts, hpoints, hrest⟩ := hd
    refine ⟨?_, hshifts, fun y hy => hpoints y (List.mem_of_mem_take hy), hrest⟩
    simp only [List.length_take]
    omega

theorem RatingSet.withShift_bounded {d : RatingSet} {i : Nat} {e : ShiftEntry} {x : RatingSet × Answer}
    (hd : d.bounded = true) (h : d.withShift i e = some x) : x.1.bounded = true := by
  by_cases hfits : i ≤ 7 ∧ i ≤ d.shifts.length ∧ -2000 ≤ e.shift ∧ e.shift ≤ 2000
  · rw [RatingSet.withShift_fits hfits] at h
    obtain ⟨hseven, hwithin, hlo, hhi⟩ := hfits
    rw [RatingSet.bounded_iff] at hd ⊢
    obtain ⟨hlen, hold, hpoints, hext, hshifts⟩ := hd
    split at h
    · split at h
      · cases h
        refine ⟨hlen, ?_, hpoints, hext, fun y hy => hshifts y (List.mem_of_mem_take hy)⟩
        simp only [RatingSet.edited, List.length_take]
        omega
      · cases h
    · cases h
      refine ⟨hlen, ?_, hpoints, hext, fun y hy => ?_⟩
      · simp only [RatingSet.edited, List.length_append, List.length_take, List.length_cons, List.length_drop]
        omega
      · simp only [RatingSet.edited, List.mem_append, List.mem_cons] at hy
        rcases hy with hy | rfl | hy
        · exact hshifts y (List.mem_of_mem_take hy)
        · exact (inRange_iff _ _ _).2 ⟨hlo, hhi⟩
        · exact hshifts y (List.mem_of_mem_drop hy)
  · rw [RatingSet.withShift_not_fits hfits] at h
    cases h

theorem RatingSet.withExtension_bounded {d : RatingSet} {ext : Int} {x : RatingSet × Answer}
    (hd : d.bounded = true) (h : d.withExtension ext = some x) : x.1.bounded = true := by
  rw [RatingSet.withExtension_eq] at h
  cases h
  rw [RatingSet.bounded_iff] at hd ⊢
  obtain ⟨hlen, hold, hpoints, -, hshifts⟩ := hd
  exact ⟨hlen, hold, hpoints, (inRange_iff 0 5000 (max 0 (min 5000 ext))).2 (by omega), hshifts⟩

theorem draftPutPoints_keeps : Keeps but s (draftPutPoints p payload s).1 := by
  unfold draftPutPoints
  split
  · exact .refl s
  · exact editDraft_keeps p s fun _ _ => RatingSet.withPoints_bounded

theorem draftTruncate_keeps : Keeps but s (draftTruncate p payload s).1 := by
  unfold draftTruncate
  split
  · exact .refl s
  · exact editDraft_keeps p s fun _ _ => RatingSet.truncated_bounded

theorem draftPutShift_keeps : Keeps but s (draftPutShift p payload s).1 := by
  unfold draftPutShift
  split
  · exact .refl s
  · exact editDraft_keeps p s fun _ _ => RatingSet.withShift_bounded

theorem draftSetExtension_keeps : Keeps but s (draftSetExtension p payload s).1 := by
  unfold draftSetExtension
  split
  · exact .refl s
  · exact editDraft_keeps p s fun _ _ => RatingSet.withExtension_bounded

/-! ### Activation (R59 to R64) -/

theorem State.addWork_keeps {s : State} {w : Class4} (h : s.WorkHolds w) : Keeps but s (s.addWork w) := by
  refine State.setWork_keeps fun w' hw' => ?_
  rcases List.mem_append.1 hw' with hold | hnew
  · exact State.workHolds_of_mem hold
  · exact List.mem_singleton.1 hnew ▸ h

theorem State.beginActivation_keeps {set : RatingSet} (old : Option Nat) (h : s.ratingHolds = true → set.valid = true) :
    Keeps but s (s.beginActivation p set old) := by
  unfold State.beginActivation
  dsimp only
  refine .trans (State.setRating_keeps (fun _ => ?_) fun hs => ?_) (State.addWork_keeps ⟨fun _ => rfl, fun hs => ?_⟩)
  · rw [State.draftHolds_iff]
    intro q
    simp [RatingUnit.activatingFor, RatingUnit.attachedTo, RatingUnit.repliesTo]
  · have hvalid := h hs
    rw [State.ratingHolds_iff] at hs ⊢
    obtain ⟨hactive, -, -, hwork⟩ := hs
    refine ⟨hactive, rfl, ?_, hwork⟩
    rintro _ ⟨⟩
    exact hvalid
  · exact (State.ratingHolds_iff _).1 hs |>.2.2.1 _ rfl

theorem draftActivate_keeps : Keeps but s (draftActivate p payload s).1 := by
  have hactivate {set : RatingSet} (old : Option Nat) (h : s.ratingHolds = true → set.valid = true) :
      Keeps but s (s.activate p set old).1 :=
    .iteBody (fun _ => .refl s) fun _ => s.beginActivation_keeps p old h
  unfold draftActivate
  split
  · exact .refl s
  · split
    · exact .refl s
    · split
      · next d hd =>
        split
        · exact .refl s
        · next hfault =>
          refine hactivate _ fun hs => d.valid_iff.2 ⟨?_, hfault⟩
          have hset := (s.ratingHolds_iff.1 hs).2.1
          rwa [hd] at hset
      · next d hd =>
        refine hactivate _ fun hs => ?_
        have hset := (s.ratingHolds_iff.1 hs).2.1
        rwa [hd] at hset
      · exact .refl s

/-- No activation in flight, no port activating. -/
theorem State.draftHolds_of_idle {s : State} (hdraft : s.rating.draft.Idle) (hnone : s.rating.inFlight = none) :
    s.draftHolds = true := by
  rw [State.draftHolds_iff]
  intro p
  rw [RatingUnit.activatingFor_idle hdraft]
  simp [RatingUnit.attachedTo, RatingUnit.repliesTo, hnone]

theorem State.exchange_keeps : Keeps but s s.exchange := by
  unfold State.exchange
  split
  · exact .refl s
  · next f hf =>
    refine .trans (.trans (State.setRating_keeps (fun _ => ?_) fun hs => ?_) (State.raiseAll_keeps _))
      (State.replyHeld_keeps _ _ _)
    · refine State.draftHolds_of_idle (fun q => ?_) rfl
      simp only [RatingUnit.exchanged]
      split
      · simp
      · split <;> simp
    · rw [State.ratingHolds_iff] at hs ⊢
      obtain ⟨hactive, hdraft, hflight, hwork⟩ := hs
      refine ⟨?_, ?_, nofun, hwork⟩
      · rintro _ ⟨⟩
        exact hflight f hf
      · simp only [RatingUnit.exchanged]
        split
        · next owner d hd => rwa [hd] at hdraft
        · split
          · rfl
          · next old hold => exact hactive old hold

theorem State.abandonActivation_keeps : Keeps but s s.abandonActivation := by
  unfold State.abandonActivation
  split
  · exact .refl s
  · next f hf =>
    refine .trans (State.setRating_keeps (fun hs => ?_) fun hs => ?_) (State.replyHeld_keeps _ _ _)
    · refine State.draftHolds_of_idle (fun q hq => ?_) rfl
      simp only [RatingUnit.draftRestored] at hq
      split at hq
      · next howner =>
        rw [State.draftHolds_iff] at hs
        have hp := (hs q).1
        simp [RatingUnit.activatingFor, RatingUnit.attachedTo, hf, hq, howner] at hp
      · split at hq <;> cases hq
    · rw [State.ratingHolds_iff] at hs ⊢
      obtain ⟨hactive, hdraft, hflight, hwork⟩ := hs
      refine ⟨hactive, ?_, nofun, hwork⟩
      simp only [RatingUnit.draftRestored]
      split
      · exact hdraft
      · split
        · exact RatingSet.bounded_of_valid (hflight f hf)
        · exact hflight f hf

end

end Sys2Proof.Machine
end

section
/-! PROOFS. What the links and the configuration commands keep (Machine/Links.lean, Machine/ConfigCmds.lean). -/

namespace Sys2Proof.Machine

-- one theorem at a time: many elaborated side by side would take a thread and its stack each
set_option Elab.async false

/-! ### Port reset (R175 to R177, R64) -/

theorem State.lineStopped_keeps {but : List Topic} (s : State) : Keeps but s s.lineStopped := Keeps.all <| by
  unfold State.lineStopped
  split
  · exact .refl s
  · refine .trans (t := s.setPort .c { s.port .c with sent := (s.port .c).sent.take s.lineC.charsBegun }) ?_ .of_view
    exact State.setPort_keeps_slots .of_eq fun _ => id

/-- A port reset drops or releases the draft of its port; a held reply has left it before. -/
theorem State.portResetRating_keeps {but : List Topic} {s : State} {p : Port} (h : s.rating.repliesTo p = false) :
    Keeps but s { s with rating := s.rating.portReset p } := by
  refine State.setRating_keeps (fun hs => ?_) fun hs => ?_
  · rw [State.draftHolds_iff] at hs ⊢
    intro q
    have hq := hs q
    have hp := hs p
    unfold RatingUnit.portReset
    split
    · next owner d hd =>
      split
      · simpa [RatingUnit.activatingFor, RatingUnit.attachedTo, RatingUnit.repliesTo, hd] using hq
      · exact hq
    · next owner hd =>
      split
      · next howner =>
        subst howner
        cases hf : s.rating.inFlight with
        | none => simp [RatingUnit.activatingFor, RatingUnit.attachedTo, RatingUnit.repliesTo]
        | some f =>
          have hfor : f.owner = some owner := by
            simpa [RatingUnit.activatingFor, RatingUnit.attachedTo, hd, hf] using hp.1
          have hreply : f.replyTo ≠ some q := fun hr => by
            have howner := hq.2 (by simp [RatingUnit.repliesTo, hf, hr])
            simp only [RatingUnit.attachedTo, hf, hfor, Option.some.injEq, decide_eq_true_eq] at howner
            simp [RatingUnit.repliesTo, hf, hr, howner] at h
          simp [RatingUnit.activatingFor, RatingUnit.attachedTo, RatingUnit.repliesTo, hreply]
      · exact hq
    · exact hq
  · rw [State.ratingHolds_iff] at hs ⊢
    obtain ⟨hactive, hdraft, hflight, hwork⟩ := hs
    unfold RatingUnit.portReset
    split
    · split
      · exact ⟨hactive, rfl, hflight, hwork⟩
      · exact ⟨hactive, hdraft, hflight, hwork⟩
    · split
      · refine ⟨hactive, rfl, fun f hf => ?_, hwork⟩
        obtain ⟨f', hf', rfl⟩ := Option.map_eq_some_iff.1 hf
        exact hflight f' hf'
      · exact ⟨hactive, hdraft, hflight, hwork⟩
    · exact ⟨hactive, hdraft, hflight, hwork⟩

@[simp] theorem State.lineStopped_rating (s : State) : s.lineStopped.rating = s.rating := by rw [State.lineStopped_frame]

theorem State.detach_repliesTo (s : State) (p : Port) : (s.detach p).rating.repliesTo p = false := by
  cases hf : s.rating.inFlight with
  | none => simp [State.detach, RatingUnit.repliesTo, hf]
  | some f =>
    simp only [State.detach, RatingUnit.repliesTo, hf, Option.map_some, InFlight.leave_eq, decide_eq_false_iff_not]
    split
    · simp
    · assumption

theorem PortState.cleared_holds (x : PortState) : x.cleared.eventsHold = true ∧ holdsRecall x.cleared = false :=
  ⟨rfl, rfl⟩

theorem State.portCleared_keeps (s : State) (p : Port) : Keeps [.slots, .raised] s (s.portCleared p) := by
  have hcleared (u : State) (hu : u.rating.repliesTo p = false) : Keeps [.slots, .raised] u
      { u.setPort p (u.port p).cleared with
        rating := u.rating.portReset p
        resetReq := u.resetReq.map fun r => r.ifPort p } := by
    refine .trans (.trans (State.setPort_keeps_hold (x := (u.port p).cleared) (p := p) ?_ ?_)
      (State.portResetRating_keeps (p := p) hu)) .of_view
    · exact fun _ => (u.port p).cleared_holds.1
    · exact fun _ _ => (u.port p).cleared_holds.2
  unfold State.portCleared
  dsimp only
  split
  · refine .trans ((s.detach_keeps p).trans (State.lineStopped_keeps _)) (hcleared _ ?_)
    rw [State.lineStopped_rating]
    exact s.detach_repliesTo p
  · exact .trans (s.detach_keeps p) (hcleared _ (s.detach_repliesTo p))

theorem State.portReset_keeps (s : State) (p : Port) : Keeps [.slots, .raised] s (s.portReset p) := by
  unfold State.portReset
  exact .ite (fun _ => (s.portCleared_keeps p).trans (State.park_keeps _ _)) fun _ => s.portCleared_keeps p

theorem linkReset_keeps (p : Port) (payload : List Byte) (s : State) :
    Keeps [.slots, .raised] s (linkReset p payload s).1 := by
  unfold linkReset
  split
  · exact .refl s
  · exact (s.portReset_keeps p).trans (State.setPort_keeps .of_eq).mono

theorem State.portBreak_keeps (s : State) : Keeps [.slots, .raised] s s.portBreak := by
  unfold State.portBreak
  refine .ite (fun _ => ?_) fun _ => .refl s
  exact .trans ((s.lineServed_keeps .c).mono.trans (State.portReset_keeps _ .c)) .of_view

/-! ### Receiving and sending -/

section
variable {but : List Topic} (s : State)

theorem State.frameDiscard_keeps (p : Port) (f : BadFrame) : Keeps but s (s.frameDiscard p f) := by
  unfold State.frameDiscard
  exact .ite (fun _ => (s.clocked_keeps p _).trans (State.discardFrame_keeps _ p)) fun _ => .refl s

theorem State.frameGap_keeps (bytes : List Byte) : Keeps but s (s.frameGap bytes) := by
  unfold State.frameGap
  exact .ite (fun _ => s.discardFrame_keeps .c) fun _ => .refl s

theorem State.requestOverrun_keeps (p : Port) (code : Byte) (payload : List Byte) :
    Keeps [.slots] s (s.requestOverrun p code payload) := by
  unfold State.requestOverrun
  refine .ite (fun _ => ?_) fun _ => .refl s
  exact ((s.lineServed_keeps p).trans (State.arrived_keeps _ p payload)).trans (State.dropRequest_keeps _ p)

theorem State.unknownRequest_keeps (p : Port) (code : Byte) (payload : List Byte) :
    Keeps [.slots] s (s.unknownRequest p code payload) := by
  unfold State.unknownRequest
  exact .ite (fun _ => s.serve_keeps p code payload fun u _ => .refl u) fun _ => .refl s

theorem State.takeReply_keeps (p : Port) (n : Nat) : Keeps [.slots] s (s.takeReply p n) := by
  unfold State.takeReply
  split
  · exact .refl s
  · exact .ite (fun _ => (State.setPort_keeps .of_eq).trans (State.replyLeft_keeps _ _)) fun _ => .refl s

theorem State.flagsSent_keeps (p : Port) (n : Nat) : Keeps but s (s.flagsSent p n) := Keeps.all <| by
  unfold State.flagsSent
  exact .ite (fun _ => .refl s) fun _ => State.setPort_keeps_slots .of_eq fun _ => id

theorem State.fetch_keeps (p : Port) (n : Nat) : Keeps [.slots] s (s.fetch p n) := by
  unfold State.fetch
  refine .ite (fun _ => ?_) fun _ => .refl s
  exact .trans (.trans (State.setPort_keeps .of_eq) (State.takeReply_keeps _ p n)) (State.flagsSent_keeps _ p n)

theorem State.lineTicked_keeps : Keeps but s s.lineTicked := Keeps.all <| by
  unfold State.lineTicked
  split
  · exact .refl s
  · refine .ite (fun _ => ?_) fun _ => .ite (fun _ => ?_) fun _ => .refl s
    · exact State.setPort_keeps_slots .of_eq fun _ => id
    · exact State.setPort_keeps_slots .of_eq fun _ => id

theorem State.dividerLoad_keeps : Keeps but s s.dividerLoad := by
  unfold State.dividerLoad
  exact .ite (fun _ => .of_view) fun _ => .refl s

/-! ### FETCH_EVENTS and SET_EVENT_GROUPS (R182, R183) -/

theorem kindsDiffer_filter (f : EventEntry → Bool) {es : List EventEntry} (h : kindsDiffer es = true) :
    kindsDiffer (es.filter f) = true := by
  induction es with
  | nil => rfl
  | cons e rest ih =>
    simp only [kindsDiffer, Bool.and_eq_true, List.all_eq_true, decide_eq_true_eq] at h
    obtain ⟨he, hrest⟩ := h
    rw [List.filter_cons]
    split
    · simp only [kindsDiffer, ih hrest, Bool.and_true, List.all_eq_true, decide_eq_true_eq]
      exact fun x hx => he x ((List.mem_filter.1 hx).1)
    · exact ih hrest

/-- A port that keeps a part of its pending set, of groups that stay enabled. -/
theorem State.filterEvents_keeps {s : State} {p : Port} {x : PortState} (f : EventEntry → Bool)
    (hevents : x.events = (s.port p).events.filter f)
    (henables : ∀ e ∈ x.events, (s.port p).enables.getLsbD e.kind.group.bit = true →
      x.enables.getLsbD e.kind.group.bit = true)
    (hslots : x.request = (s.port p).request ∧ x.reply = (s.port p).reply) : Keeps [.raised] s (s.setPort p x) := by
  refine Keeps.patch (a := .slots) (State.setPort_keeps_hold (fun hx => ?_) fun _ hx => ?_) fun q code hq => ?_
  · rw [PortState.eventsHold_iff] at hx ⊢
    obtain ⟨hkinds, hgroups, hcounts⟩ := hx
    have hmem (e) (he : e ∈ x.events) : e ∈ (s.port p).events := by
      rw [hevents] at he
      exact (List.mem_filter.1 he).1
    exact ⟨hevents ▸ kindsDiffer_filter f hkinds, fun e he => henables e he (hgroups e (hmem e he)),
      fun e he => hcounts e (hmem e he)⟩
  · simp only [holdsRecall, List.any_eq_false, decide_eq_true_eq, hevents] at hx ⊢
    exact fun e he => hx e ((List.mem_filter.1 he).1)
  · rw [State.port_setPort]
    split
    · next hqp =>
      subst hqp
      unfold PortState.servedOrAnswered at hq ⊢
      rwa [hslots.1, hslots.2]
    · exact hq

theorem fetchEvents_keeps (p : Port) (payload : List Byte) : Keeps [.raised] s (fetchEvents p payload s).1 := by
  unfold fetchEvents
  split
  · exact .refl s
  · exact State.filterEvents_keeps _ rfl (fun _ _ => id) ⟨rfl, rfl⟩

theorem setEventGroups_keeps (p : Port) (payload : List Byte) : Keeps [.raised] s (setEventGroups p payload s).1 := by
  unfold setEventGroups
  split
  · exact .refl s
  · refine .iteBody (fun _ => .refl s) fun _ => State.filterEvents_keeps _ rfl (fun e he _ => ?_) ⟨rfl, rfl⟩
    exact (List.mem_filter.1 he).2

/-! ### Configuration and identity (R179, R187 to R191) -/

theorem clampInt_bounds {lo hi : Int} (h : lo ≤ hi) (x : Int) : lo ≤ clampInt lo hi x ∧ clampInt lo hi x ≤ hi := by
  unfold clampInt
  split
  · omega
  · split <;> omega

theorem intervalStored_mem (v : Int) : intervalStored v ∈ intervalMembers := by
  unfold intervalStored
  cases h : intervalMembers.find? fun m => decide (m ≤ v) with
  | none => decide
  | some m => exact List.mem_of_find?_eq_some h

theorem Item.row_least_le (i : Item) : i.row.least ≤ i.row.greatest := by
  have hall : ∀ i ∈ allItems, i.row.least ≤ i.row.greatest := by decide
  exact hall i (mem_allItems i)

/-- A stored value is one its item may take (R24, R187). -/
theorem Item.stored_takes (i : Item) (v : Int) : i.takes (i.stored v) := by
  cases i with
  | interval l =>
    have hmember := intervalStored_mem v
    have hrange : ∀ m ∈ intervalMembers, 10 ≤ m ∧ m ≤ 3600 := by decide
    exact ⟨(hrange _ hmember).1, (hrange _ hmember).2, fun _ _ => hmember⟩
  | _ => exact ⟨(clampInt_bounds (Item.row_least_le _) v).1, (clampInt_bounds (Item.row_least_le _) v).2, nofun⟩

theorem State.storeItem_keeps (i : Item) (v : Int) : Keeps but s (s.storeItem i v) := by
  unfold State.storeItem State.storeEffect
  have hset := State.setItem_keeps_config (s := s) (but := but) (i.stored_takes v)
  split
  · next l =>
    have hset' : Keeps but s { s with cfg := s.cfg.set (.interval l) (Item.stored (.interval l) v) } :=
      State.setItem_keeps (Item.stored_takes _ v) nofun
    exact .ite (fun _ => hset'.trans (State.realign_keeps _)) fun _ => hset'
  · refine .ite (fun habove => (hset.trans (State.park_keeps _ _)).patch fun hs => ?_) fun hbelow => hset.patch fun hs => ?_
    · rw [State.lockoutHolds_iff] at hs ⊢
      simp only [State.park_run_eq, State.park_phase, Option.map_eq_some_iff]
      rintro _ ⟨r, hr, rfl⟩
      refine ⟨(hs r hr).1, fun ha => ?_⟩
      cases hactive : r.active <;> simp_all [Run.parksOn, Run.parked, Run.active]
    · rw [State.lockoutHolds_iff] at hs ⊢
      intro r hr
      exact ⟨(hs r hr).1, fun _ => decide_eq_false hbelow⟩
  · next hint hlim => exact State.setItem_keeps (i.stored_takes v) fun hi => hlim hi

theorem setConfig_keeps (payload : List Byte) : Keeps but s (setConfig payload s).1 := by
  unfold setConfig
  split
  · exact .refl s
  · split
    · exact .refl s
    · exact s.storeItem_keeps _ _

theorem saveConfig_keeps (payload : List Byte) : Keeps but s (saveConfig payload s).1 := by
  unfold saveConfig
  split
  · exact .refl s
  · refine .iteBody (fun _ => .refl s) fun _ => .iteBody (fun _ => .refl s) fun _ => State.addWork_keeps ⟨fun hs => ?_, fun _ => rfl⟩
    simp only [State.configHolds, Bool.and_eq_true] at hs
    exact hs.1.1

theorem setPermissions_keeps (p : Port) (payload : List Byte) : Keeps but s (setPermissions p payload s).1 := by
  unfold setPermissions
  split
  · exact .refl s
  · refine .iteBody (fun _ => .refl s) fun _ => ?_
    split
    · exact .refl s
    · refine .iteBody (fun _ => .refl s) fun hlow => .iteBody (fun _ => .refl s) fun _ => ?_
      refine State.setItem_keeps ⟨?_, ?_, nofun⟩ nofun
      · simp [Item.row]
      · simp only [Item.row]
        omega

theorem State.identDeferred_keeps (p : Port) : Keeps but s (s.identDeferred p) := by
  unfold State.identDeferred
  exact .ite (fun _ => .trans .of_view (State.reply_keeps { s with identRead := true } p _)) fun _ => .refl s

theorem writeIdent_keeps (p : Port) (payload : List Byte) : Keeps but s (writeIdent p payload s).1 := by
  unfold writeIdent
  refine .iteBody (fun _ => .refl s) fun _ => .iteBody (fun _ => .refl s) fun _ => .iteBody (fun _ => .refl s) fun _ =>
    .iteBody (fun _ => .refl s) fun _ => .iteBody (fun _ => .refl s) fun _ => ?_
  exact State.addWork_keeps ⟨fun _ => rfl, fun _ => rfl⟩

theorem getIdent_keeps (payload : List Byte) : Keeps but s (getIdent payload s).1 := by
  unfold getIdent
  split
  · exact .refl s
  · exact .iteBody (fun _ => .refl s) fun _ => .refl s

theorem State.arrangeReset_keeps (p : Port) : Keeps but s (s.arrangeReset p) := by
  unfold State.arrangeReset
  split
  · exact .of_view
  · exact .refl s

theorem stationReset_keeps (p : Port) (payload : List Byte) : Keeps [.slots] s (stationReset p payload s).1 := by
  unfold stationReset
  split
  · exact .refl s
  · exact .trans (State.setPort_keeps .of_eq) (State.arrangeReset_keeps _ p)

end

end Sys2Proof.Machine
end

section
/-! PROOFS. What the flash channel keeps (Machine/Degrade.lean, Machine/Channel.lean, Machine/Reads.lean). -/

namespace Sys2Proof.Machine

-- one theorem at a time: many elaborated side by side would take a thread and its stack each
set_option Elab.async false

/-! ### The units of the array and of the channel's operation -/

/-- A condition on units that headers and garbled units satisfy. -/
def PlainUnits (ok : FlashUnit → Bool) : Prop := ok .garbled = true ∧ ∀ r b n w, ok (.header r b n w) = true

theorem plainUnits_config : PlainUnits FlashUnit.configHolds := ⟨rfl, fun _ _ _ _ => rfl⟩

theorem plainUnits_image : PlainUnits FlashUnit.imageHolds := ⟨rfl, fun _ _ _ _ => rfl⟩

/-- Every unit of the array satisfies a condition. -/
def Flash.Holds (f : Flash) (ok : FlashUnit → Bool) : Prop := ∀ e ∈ f, ok e.2 = true

theorem Flash.Holds.write {f : Flash} {ok : FlashUnit → Bool} (h : f.Holds ok) (a : Nat) {u : FlashUnit}
    (hu : ok u = true) : (f.write a u).Holds ok := by
  intro e he
  unfold Flash.write at he
  split at he
  · rcases Flash.mem_put f a u e he with rfl | he
    · exact hu
    · exact h e he
  · exact h e he

theorem Flash.Holds.filter {f : Flash} {ok : FlashUnit → Bool} (h : f.Holds ok) (keep : Nat × FlashUnit → Bool) :
    Flash.Holds (f.filter keep) ok := fun e he => h e (List.mem_filter.1 he).1

theorem Flash.Holds.restore {f old : Flash} {ok : FlashUnit → Bool} (h : f.Holds ok) (hold : old.Holds ok) :
    (f.restore old).Holds ok := by
  induction old with
  | nil => exact h
  | cons x rest ih =>
    exact (ih fun e he => hold e (List.mem_cons_of_mem _ he)).write _ (hold x List.mem_cons_self)

theorem ProgramJob.header_plain {j : ProgramJob} {ok : FlashUnit → Bool} (hok : PlainUnits ok)
    (hj : j.headerHolds = true) {h : FlashUnit} (hh : j.header = some h) : ok h = true := by
  cases h <;> first | exact hok.2 .. | simp [ProgramJob.headerHolds, hh] at hj

theorem Flash.Holds.written {f : Flash} {ok : FlashUnit → Bool} {j : ProgramJob} (h : f.Holds ok) (hok : PlainUnits ok)
    (hcontent : ok j.content = true) (hheader : j.headerHolds = true) (headerOk unitOk : Bool) :
    (j.written f headerOk unitOk).Holds ok := by
  have hunit : ok (if unitOk then j.content else .garbled) = true := by
    cases unitOk
    · exact hok.1
    · exact hcontent
  unfold ProgramJob.written
  dsimp only
  split
  · exact h.write _ hunit
  · next hd hhd =>
    refine (h.write _ ?_).write _ hunit
    cases headerOk
    · exact hok.1
    · exact ProgramJob.header_plain hok hheader hhd

theorem Store.unitsHold_free {st : Store} (ok : FlashUnit → Bool) (h : st.channel.isFree = true) :
    st.unitsHold ok = true ↔ st.flash.Holds ok := by
  unfold Store.unitsHold
  split <;> simp_all [Flash.Holds, Channel.isFree]

theorem Store.unitsHold_programming {st : Store} {j : ProgramJob} {n : Nat} (ok : FlashUnit → Bool)
    (h : st.channel = .programming j n) :
    st.unitsHold ok = true ↔ st.flash.Holds ok ∧ ok j.content = true ∧ j.headerHolds = true := by
  simp [Store.unitsHold, h, Flash.Holds]

theorem Store.unitsHold_erasing {st : Store} {j : EraseJob} (ok : FlashUnit → Bool) (h : st.channel = .erasing j) :
    st.unitsHold ok = true ↔ st.flash.Holds ok ∧ j.old.Holds ok := by
  simp [Store.unitsHold, h, Flash.Holds]

theorem Store.flash_holds {st : Store} {ok : FlashUnit → Bool} (h : st.unitsHold ok = true) : st.flash.Holds ok := by
  simp only [Store.unitsHold, Bool.and_eq_true, List.all_eq_true] at h
  exact h.1

/-- The array and the channel replaced. -/
def State.setUnits (s : State) (f : Flash) (c : Channel) : State := s.setStore { s.store with flash := f, channel := c }

theorem State.configHolds_units {s : State} (h : s.configHolds = true) : s.store.unitsHold FlashUnit.configHolds = true := by
  simp only [State.configHolds, Bool.and_eq_true] at h
  exact h.2

theorem State.ratingHolds_units {s : State} (h : s.ratingHolds = true) : s.store.unitsHold FlashUnit.imageHolds = true :=
  ((s.ratingHolds_iff).1 h).2.2.2.2

theorem State.setUnits_keeps {but : List Topic} {s : State} {f : Flash} {c : Channel}
    (hwf : s.store.flash.wf = true → f.wf = true)
    (hconfig : s.configHolds = true → (s.setUnits f c).store.unitsHold FlashUnit.configHolds = true)
    (himage : s.ratingHolds = true → (s.setUnits f c).store.unitsHold FlashUnit.imageHolds = true) :
    Keeps but s (s.setUnits f c) := Keeps.all <| by
  have hbase : Keeps [.config, .rating, .flash] s (s.setUnits f c) :=
    .trans ((Keeps.of_flash s f).mono) ((Keeps.of_channel _ c).mono)
  refine Keeps.patch (a := .flash) (.patch (a := .rating) (.patch (a := .config) hbase fun hs => ?_) fun hs => ?_) hwf
  · have hunits := hconfig hs
    simp only [State.configHolds, Bool.and_eq_true] at hs ⊢
    exact ⟨hs.1, hunits⟩
  · have hunits := himage hs
    rw [State.ratingHolds_iff] at hs ⊢
    obtain ⟨hactive, hdraft, hflight, hwork, -⟩ := hs
    exact ⟨hactive, hdraft, hflight, hwork, hunits⟩

/-- A change that keeps what every plain condition says of the units. -/
theorem State.setUnits_keeps_plain {but : List Topic} {s : State} {f : Flash} {c : Channel}
    (hwf : s.store.flash.wf = true → f.wf = true)
    (hunits : ∀ ok, PlainUnits ok → s.store.unitsHold ok = true → (s.setUnits f c).store.unitsHold ok = true) :
    Keeps but s (s.setUnits f c) :=
  State.setUnits_keeps hwf (fun hs => hunits _ plainUnits_config (State.configHolds_units hs))
    fun hs => hunits _ plainUnits_image (State.ratingHolds_units hs)

/-- A channel that holds no unit that was not held before. -/
theorem State.setChannel_keeps {but : List Topic} {s : State} {c : Channel}
    (h : ∀ ok, s.store.unitsHold ok = true → Store.unitsHold { s.store with channel := c } ok = true) :
    Keeps but s (s.setStore { s.store with channel := c }) :=
  State.setUnits_keeps_plain (f := s.store.flash) (c := c) id fun ok _ => h ok

/-- A condition that the units satisfy still does of the array alone. -/
theorem Store.unitsHold_freed {st : Store} {ok : FlashUnit → Bool} (h : st.unitsHold ok = true) {c : Channel}
    (hc : c.isFree = true) : Store.unitsHold { st with channel := c } ok = true :=
  (Store.unitsHold_free (st := { st with channel := c }) ok hc).2 (Store.flash_holds (st := st) h)

/-! ### Flash failures (R148 to R151) -/

section
variable {but : List Topic} (s : State)

/-- Nothing joins the queue while the store is DEGRADED. -/
theorem State.endClosing_store_degraded (h : s.store.degraded = true) : s.endClosing.store = s.store := by
  unfold State.endClosing
  split
  · rfl
  · split
    · rfl
    · unfold State.afterClosing State.openAfter
      split <;> simp [h]
      split <;> simp

theorem State.notKept_store (e : QueuedEntry) (h : s.store.degraded = true) : (s.notKept e).store = s.store := by
  unfold State.notKept
  split
  · exact (State.endClosing_store_degraded _ (by simpa using h)).trans (by simp)
  · simp

theorem State.notKept_keeps (e : QueuedEntry) (h : s.store.degraded = true) : Keeps but s (s.notKept e) := by
  unfold State.notKept
  split
  · exact s.markNotStored_keeps.trans (State.endClosing_keeps (.inr (.inr (.inl (by simpa using h)))))
  · exact s.markNotStored_keeps

theorem State.dropHeldTrailer_keeps (h : s.store.degraded = true) : Keeps but s s.dropHeldTrailer := by
  unfold State.dropHeldTrailer
  exact .ite (fun _ => s.markNotStored_keeps.trans (State.endClosing_keeps (.inr (.inr (.inl (by simpa using h))))))
    fun _ => .refl s

theorem State.foldNotKept_keeps (es : List QueuedEntry) (h : s.store.degraded = true) :
    Keeps but s (es.foldl State.notKept s) ∧ (es.foldl State.notKept s).store = s.store := by
  induction es generalizing s with
  | nil => exact ⟨.refl s, rfl⟩
  | cons e rest ih =>
    have hstore := s.notKept_store e h
    obtain ⟨hkeeps, hstore'⟩ := ih (s.notKept e) (by rw [hstore, h])
    exact ⟨(s.notKept_keeps e h).trans hkeeps, hstore'.trans hstore⟩

theorem State.setQueue_keeps {qs : List QueuedEntry} (h : qs.length ≤ s.store.journalQueue.length) :
    Keeps but s (s.setStore { s.store with journalQueue := qs }) := Keeps.all <| (Keeps.of_queue s qs).patch (Nat.le_trans h)

theorem State.discardJournal_keeps (h : s.store.degraded = true) : Keeps but s s.discardJournal := by
  obtain ⟨hkeeps, hstore⟩ := State.foldNotKept_keeps (but := but)
    (s.setStore { s.store with journalQueue := [] }) s.store.journalQueue h
  exact ((State.setQueue_keeps s (Nat.zero_le _)).trans hkeeps).trans
    (State.dropHeldTrailer_keeps _ (by rw [hstore]; exact h))

theorem State.failWork_keeps (w : Class4) : Keeps but s (s.failWork w) := by
  cases w with
  | image => exact s.abandonActivation_keeps
  | save => exact .refl s
  | ident chars fails p => exact s.replyHeld_keeps p _

theorem State.failAllWork_keeps : Keeps but s s.failAllWork := by
  have hfold (ws : List Class4) (t : State) : Keeps but t (ws.foldl State.failWork t) := by
    induction ws generalizing t with
    | nil => exact .refl t
    | cons w rest ih => exact (t.failWork_keeps w).trans (ih _)
  exact (State.setWork_keeps fun _ => by simp).trans (hfold _ _)

theorem State.ringAlone_keeps : Keeps but s s.ringAlone := .trans .of_view (State.advanceFirst_keeps _ _)

theorem State.enterDegraded_keeps : Keeps but s s.enterDegraded := by
  unfold State.enterDegraded
  refine .ite (fun _ => .refl s) fun _ => .trans (.trans (.trans (.trans
    (.of_view (t := s.setStore { s.store with degraded := true })) (State.raiseAll_keeps _)) (State.ringAlone_keeps _))
    (State.discardJournal_keeps _ ?_)) (State.failAllWork_keeps _)
  simp [State.ringAlone, State.advanceFirst_store]

theorem State.markBad_keeps (b : Nat) : Keeps but s (s.markBad b) := by
  unfold State.markBad
  dsimp only
  exact .trans (.of_view (t := s.setStore { s.store with bad := addBad s.store.bad b }))
    (.ite (fun _ => State.enterDegraded_keeps _) fun _ => .refl _)

theorem State.markIfSecond_keeps (b n : Nat) : Keeps but s (s.markIfSecond b n) := by
  unfold State.markIfSecond
  exact .ite (fun _ => s.markBad_keeps b) fun _ => .refl s

/-! ### Programs (R138, R139, R143) -/

theorem State.startProgram_keeps (r : Region) (pl : Place) (first : Word32) (content : FlashUnit) (purpose : ProgramPurpose)
    (hconfig : s.configHolds = true → content.configHolds = true)
    (himage : s.ratingHolds = true → content.imageHolds = true) :
    Keeps but s (s.startProgram r pl first content purpose) := by
  have hheader (ok : FlashUnit → Bool) (hs : s.store.unitsHold ok = true) (hcontent : ok content = true) :
      (s.startProgram r pl first content purpose).store.unitsHold ok = true := by
    refine (Store.unitsHold_programming ok rfl).2 ⟨Store.flash_holds (st := s.store) hs, hcontent, ?_⟩
    cases pl.withHeader <;> rfl
  exact State.setUnits_keeps id (fun hs => hheader _ (State.configHolds_units hs) (hconfig hs))
    fun hs => hheader _ (State.ratingHolds_units hs) (himage hs)

theorem State.requestErase_keeps (q : EraseRequest) : Keeps but s (s.requestErase q) := by
  rw [State.requestErase_eq]
  exact .of_view

theorem State.nameTarget_keeps (r : Region) (b : Nat) (purpose : ErasePurpose) :
    Keeps but s (s.nameTarget r b purpose) := by
  unfold State.nameTarget
  split
  · exact .refl s
  · exact .ite (fun _ => .refl s) fun _ => s.requestErase_keeps _

theorem State.targetIfNew_keeps (pl : Place) (r : Region) (purpose : ErasePurpose) :
    Keeps but s (s.targetIfNew pl r purpose) := by
  unfold State.targetIfNew
  exact .ite (fun _ => s.nameTarget_keeps _ _ _) fun _ => .refl s

theorem State.appendGrant_keeps : Keeps but s s.appendGrant := by
  unfold State.appendGrant
  refine .ite (fun _ => ?_) fun _ => .refl s
  split
  · dsimp only
    exact .trans (.trans (s.startProgram_keeps _ _ _ _ _ (fun _ => rfl) fun _ => rfl) .of_view)
      (State.targetIfNew_keeps _ _ _ _)
  · exact .refl s

theorem State.journalProgram_keeps : Keeps but s s.journalProgram := by
  unfold State.journalProgram
  split
  · next q rest pl hq hp =>
    dsimp only
    refine .trans (.trans (s.startProgram_keeps .journal pl 0 (.entry (q.startIn pl).entry (q.startIn pl).done) .entry (fun _ => rfl) fun _ => rfl) ?_)
      (State.targetIfNew_keeps _ _ _ _)
    refine .trans (State.setQueue_keeps _ (qs := q.startIn pl :: rest) ?_) .of_view
    simp [State.startProgram, hq]
  · exact .refl s

theorem State.journalGrant_keeps : Keeps but s s.journalGrant := by
  unfold State.journalGrant
  exact .ite (fun _ => s.journalProgram_keeps) fun _ => .refl s

/-! ### Erases (R138, R144) -/

theorem State.startErase_keeps (q : EraseRequest) (retire : List Nat) : Keeps but s (s.startErase q retire) :=
  State.setUnits_keeps_plain (fun h => Flash.wf_clear _ h) fun ok _ hs =>
    (Store.unitsHold_erasing ok rfl).2 ⟨(Store.flash_holds hs).filter _, (Store.flash_holds hs).filter _⟩

theorem State.startJournalErase_keeps (q : EraseRequest) : Keeps but s (s.startJournalErase q) :=
  .trans .of_view (State.startErase_keeps _ _ _)

theorem State.eraseAheadStart_keeps : Keeps but s s.eraseAheadStart := by
  unfold State.eraseAheadStart
  split
  · exact .refl s
  · refine .ite (fun _ => .ite (fun _ => ?_) fun _ => ?_) fun _ => .refl s
    · exact .trans (.trans .of_view (State.startErase_keeps _ _ _)) (State.advanceFirst_keeps _ _)
    · exact .trans .of_view (State.startJournalErase_keeps _ _)

theorem State.eraseStart_keeps (purpose : ErasePurpose) : Keeps but s (s.eraseStart purpose) := by
  unfold State.eraseStart
  split
  · exact .refl s
  · exact .ite (fun _ => .trans .of_view (State.startErase_keeps _ _ _)) fun _ => .refl s

/-! ### Class 4 (R159 to R161) -/

/-- Work at the head replaced by work that holds no other configuration or set. -/
theorem State.setHeadWork_keeps {w : Class4} (h : s.WorkHolds w) : Keeps but s (s.setHeadWork w) := by
  refine State.setWork_keeps fun w' hw' => ?_
  rcases List.mem_cons.1 hw' with rfl | hw'
  · exact h
  · exact State.workHolds_of_mem (List.mem_of_mem_drop hw')

theorem State.popWork_keeps : Keeps but s s.popWork :=
  State.setWork_keeps fun _ hw => State.workHolds_of_mem (List.mem_of_mem_drop hw)

/-- The work at the head of the list is some of the work waiting. -/
theorem State.workHolds_head {w : Class4} {rest : List Class4} (h : s.store.class4 = w :: rest) : s.WorkHolds w :=
  State.workHolds_of_mem (h ▸ List.mem_cons_self)

theorem imageUnit_holds (set : RatingSet) (number place : Nat) :
    (imageUnit set number place).configHolds = true ∧ (imageUnit set number place).imageHolds = set.valid := by
  unfold imageUnit
  split <;> exact ⟨rfl, rfl⟩

theorem configUnit_holds (c : LiveConfig) (place : Nat) :
    (configUnit c place).configHolds = c.inRange ∧ (configUnit c place).imageHolds = true := by
  unfold configUnit
  split <;> exact ⟨rfl, rfl⟩

theorem State.imageGrant_keeps : Keeps but s s.imageGrant := by
  unfold State.imageGrant
  split
  · next set number place begun rest hw =>
    obtain ⟨hconfig, himage⟩ := imageUnit_holds set number place
    refine .ite (fun _ => ?_) fun _ => .refl s
    split
    · dsimp only
      refine .trans (.trans (s.startProgram_keeps _ _ _ _ _ (fun _ => hconfig)
        fun hs => himage.trans ((s.workHolds_head hw).2 hs)) .of_view) (State.setHeadWork_keeps _ ?_)
      exact State.workHolds_head (w := .image set number place begun) _ hw
    · split
      · exact .refl s
      · exact s.startErase_keeps _ _
  · exact .refl s

theorem State.saveGrant_keeps : Keeps but s s.saveGrant := by
  unfold State.saveGrant
  split
  · next cfg place erased next fails rest hw =>
    obtain ⟨hconfig, himage⟩ := configUnit_holds cfg place
    refine .ite (fun _ => .ite (fun _ => ?_) fun _ => s.startErase_keeps _ _) fun _ => .refl s
    refine .trans (s.startProgram_keeps _ _ _ _ _ (fun hs => hconfig.trans ((s.workHolds_head hw).1 hs))
        fun _ => himage) (State.setHeadWork_keeps _ ?_)
    exact State.workHolds_head (w := .save cfg place erased next fails) _ hw
  · exact .refl s

theorem State.identGrant_keeps : Keeps but s s.identGrant := by
  unfold State.identGrant
  split
  · refine .ite (fun _ => ?_) fun _ => .refl s
    split
    · exact s.startProgram_keeps _ _ _ _ _ (fun _ => rfl) fun _ => rfl
    · exact s.popWork_keeps.trans (State.replyHeld_keeps _ _ _)
  · exact .refl s

/-! ### The end of a program (R138, R139, R148) -/

theorem State.recordDone_keeps (r : LogRecord) : Keeps but s (s.recordDone r) := by
  unfold State.recordDone
  split
  · next x rest hbuffer => exact .ite (fun _ => State.dropOldest_keeps hbuffer) fun _ => .refl s
  · exact .refl s

/-- The queue's oldest entry leaves it; where the queue was within its places, there is one for a header. -/
theorem State.entryReported_keeps (e : JournalEntry) (h : .queues ∈ but ∨ s.journalRoom 1 = true) :
    Keeps but s (s.entryReported e) := by
  unfold State.entryReported
  split
  · exact State.endClosing_keeps (h.imp_right .inl)
  · exact .refl s

theorem State.entryDone_keeps : Keeps but s s.entryDone := by
  unfold State.entryDone
  split
  · exact .refl s
  · next q rest hq =>
    refine .ite (fun _ => s.setQueue_keeps (by simp [hq])) fun _ => ?_
    have hpop {but : List Topic} : Keeps but s (s.setStore { s.store with journalQueue := rest }) :=
      s.setQueue_keeps (by simp [hq])
    by_cases hs : s.QueueHolds
    · refine hpop.trans (State.entryReported_keeps _ _ (.inr ?_))
      rw [State.QueueHolds, hq] at hs
      exact decide_eq_true hs
    · exact Keeps.patch (a := .queues) (hpop.trans (State.entryReported_keeps _ _ (.inl List.mem_cons_self)))
        fun h => absurd h hs

theorem State.workDone_keeps : Keeps but s s.workDone := by
  unfold State.workDone
  split
  · next set number place begun rest hw =>
    exact .ite (fun _ => s.setHeadWork_keeps (s.workHolds_head (w := .image set number place begun) hw))
      fun _ => s.popWork_keeps.trans (State.exchange_keeps _)
  · next cfg place erased next fails rest hw =>
    exact .ite (fun _ => s.setHeadWork_keeps (s.workHolds_head (w := .save cfg place erased next fails) hw))
      fun _ => s.popWork_keeps.trans (State.raiseAll_keeps _)
  · exact s.popWork_keeps.trans (State.replyHeld_keeps _ _ _)
  · exact .refl s

theorem State.programmed_keeps (p : ProgramPurpose) : Keeps but s (s.programmed p) := by
  cases p with
  | record r => exact s.recordDone_keeps r
  | entry => exact s.entryDone_keeps
  | image | save | ident => exact s.workDone_keeps

theorem State.workFailed_keeps : Keeps but s s.workFailed := by
  unfold State.workFailed
  split
  · next cfg place erased next fails rest hw =>
    have hhead : s.WorkHolds (.save cfg place erased next (fails + 1)) :=
      s.workHolds_head (w := .save cfg place erased next fails) hw
    exact (s.setHeadWork_keeps hhead).trans (State.markIfSecond_keeps _ _ _)
  · next chars fails toPort rest hw =>
    have hhead : s.WorkHolds (.ident chars (fails + 1) toPort) :=
      s.workHolds_head (w := .ident chars fails toPort) hw
    exact .ite (fun _ => s.popWork_keeps.trans (State.replyHeld_keeps _ _ _)) fun _ => s.setHeadWork_keeps hhead
  · exact .refl s

theorem State.unitFailed_keeps (p : ProgramPurpose) (b : Nat) : Keeps but s (s.unitFailed p b) := by
  cases p with
  | record | entry | image =>
    refine .trans ?_ (State.markIfSecond_keeps _ _ _)
    exact .of_view
  | save | ident => exact s.workFailed_keeps

theorem State.programComplete_keeps (headerOk unitOk : Bool) : Keeps but s (s.programComplete headerOk unitOk) := by
  unfold State.programComplete
  split
  · next j n hj =>
    dsimp only
    refine .trans (s.setUnits_keeps_plain (f := j.written s.store.flash headerOk unitOk) (c := .free)
      (fun h => j.wf_written _ _ _ h) fun ok hok hs => ?_) ?_
    · obtain ⟨hflash, hcontent, hheader⟩ := (Store.unitsHold_programming ok hj).1 hs
      exact (Store.unitsHold_free ok rfl).2 (hflash.written hok hcontent hheader _ _)
    · exact .ite (fun _ => State.markBad_keeps _ _) fun _ => .ite (fun _ => State.programmed_keeps _ _)
        fun _ => State.unitFailed_keeps _ _ _
  · exact .refl s

/-! ### An erase gives way, and ends (R147, R149, R155) -/

theorem State.eraseSuspend_keeps : Keeps but s s.eraseSuspend := by
  unfold State.eraseSuspend
  refine .ite (fun _ => ?_) fun _ => .refl s
  split
  · next j hj =>
    exact State.setChannel_keeps fun ok hs =>
      (Store.unitsHold_erasing (j := { j with suspended := true }) ok rfl).2 ((Store.unitsHold_erasing ok hj).1 hs)
  · exact .refl s

theorem State.writeBadHeader_keeps (b : Nat) (good : Bool) : Keeps but s (s.writeBadHeader b good) := by
  refine s.setUnits_keeps_plain (c := s.store.channel) (fun h => Flash.wf_write _ _ h) fun ok hok hs => ?_
  have hunit : ok (if good then badHeader (regionOf b) else .garbled) = true := by
    cases good
    · exact hok.1
    · exact hok.2 ..
  simp only [Store.unitsHold, Bool.and_eq_true, List.all_eq_true] at hs ⊢
  obtain ⟨hflash, hchannel⟩ := hs
  exact ⟨Flash.Holds.write hflash _ hunit, hchannel⟩

theorem State.erased_keeps (q : EraseRequest) (badHeaderOk : Bool) : Keeps but s (s.erased q badHeaderOk) := by
  unfold State.erased
  split
  · exact s.writeBadHeader_keeps _ _
  · exact .of_view
  · split
    · next cfg place erased next fails rest hw =>
      exact s.setHeadWork_keeps (s.workHolds_head (w := .save cfg place erased next fails) hw)
    · exact .refl s
  all_goals exact .refl s

theorem State.nextTarget_keeps (r : Region) (b : Nat) (purpose : ErasePurpose) :
    Keeps but s (s.nextTarget r b purpose) := by
  unfold State.nextTarget
  refine .ite (fun _ => .refl s) fun _ => ?_
  split
  · exact .refl s
  · exact s.requestErase_keeps _

theorem State.aheadFailed_keeps (q : EraseRequest) : Keeps but s (s.aheadFailed q) := by
  unfold State.aheadFailed
  exact .ite (fun _ => s.nextTarget_keeps _ _ _) fun _ => .ite (fun _ =>
    .ite (fun _ => .of_view) fun _ => s.nextTarget_keeps _ _ _) fun _ => .refl s

theorem State.eraseFailed_keeps (q : EraseRequest) (badHeaderOk : Bool) : Keeps but s (s.eraseFailed q badHeaderOk) := by
  unfold State.eraseFailed
  exact .ite (fun _ => s.writeBadHeader_keeps _ _) fun _ =>
    ((s.writeBadHeader_keeps _ _).trans (State.markBad_keeps _ _)).trans (State.aheadFailed_keeps _ _)

theorem State.requestRetires_keeps (bs : List Nat) : Keeps but s (s.requestRetires bs) := by
  unfold State.requestRetires
  refine .ite (fun _ => .refl s) fun _ => ?_
  have hfold (t : State) : Keeps but t (bs.foldl (fun s b => s.requestErase ⟨b, .retire⟩) t) := by
    induction bs generalizing t with
    | nil => exact .refl t
    | cons b rest ih => exact (t.requestErase_keeps _).trans (ih _)
  exact hfold s

theorem State.endEraseLog_keeps : Keeps but s s.endEraseLog := by
  unfold State.endEraseLog
  exact .ite (fun _ => .of_view) fun _ => .refl s

theorem State.eraseComplete_keeps (good badHeaderOk : Bool) : Keeps but s (s.eraseComplete good badHeaderOk) := by
  unfold State.eraseComplete
  split
  · next j hj =>
    refine .ite (fun _ => .refl s) fun _ => ?_
    dsimp only
    refine .trans (.trans ?_ (State.requestRetires_keeps _ _)) (State.endEraseLog_keeps _)
    exact .trans (State.setChannel_keeps fun ok hs => Store.unitsHold_freed hs rfl)
      (.ite (fun _ => State.erased_keeps _ _ _) fun _ => State.eraseFailed_keeps _ _ _)
  · exact .refl s

theorem State.eraseLogTaken_keeps : Keeps but s s.eraseLogTaken := by
  unfold State.eraseLogTaken State.askEraseLog
  refine .trans (.trans ?_ (State.advanceFirst_keeps _ _)) (.trans .of_view (State.endEraseLog_keeps _))
  refine Keeps.all ((Keeps.of_log s [] s.store.dropped s.store.nextSeq).patch fun hs => ?_)
  obtain ⟨-, hdropped, -⟩ := hs
  exact ⟨Nat.zero_le _, hdropped, rfl, .inr rfl⟩

theorem eraseLog_keeps (payload : List Byte) : Keeps but s (eraseLog payload s).1 := by
  unfold eraseLog
  split
  · exact .refl s
  · exact .iteBody (fun _ => .refl s) fun _ => .iteBody (fun _ => .refl s) fun _ => s.eraseLogTaken_keeps

/-! ### Reads (R146, R152, R153, R158) -/

theorem Channel.resumed_holds (c : Channel) {ok : FlashUnit → Bool} {st : Store} (hc : st.channel = c)
    (h : st.unitsHold ok = true) : Store.unitsHold { st with channel := c.resumed } ok = true := by
  cases c with
  | free | searched => exact Store.unitsHold_freed h rfl
  | programming j n => exact (Store.unitsHold_programming ok rfl).2 ((Store.unitsHold_programming ok hc).1 h)
  | erasing j =>
    exact (Store.unitsHold_erasing (j := { j with suspended := false, since := 0 }) ok rfl).2
      ((Store.unitsHold_erasing ok hc).1 h)

theorem State.readEnds_keeps (p : Port) : Keeps but s (s.readEnds p) :=
  .trans (State.setChannel_keeps fun _ hs => Channel.resumed_holds _ rfl hs) .of_view

theorem State.stepEnds_keeps (p : Port) : Keeps but s (s.stepEnds p) := by
  refine .trans (State.setChannel_keeps (c := s.store.channel.stepped p) fun ok hs => ?_) .of_view
  cases hc : s.store.channel with
  | free | searched => exact Store.unitsHold_freed hs rfl
  | programming | erasing => exact Channel.resumed_holds _ hc hs

theorem State.dropRead_keeps (r : WaitingRead) : Keeps but s (s.dropRead r) := .of_view

theorem State.waitRead_keeps (p : Port) (kind : ReadKind) : Keeps but s (s.waitRead p kind) := .of_view

theorem State.readReply_keeps (r : WaitingRead) (a : Answer) : Keeps but s (s.readReply r a) := by
  unfold State.readReply
  exact .ite (fun _ => s.reply_keeps _ _) fun _ => .refl s

theorem State.logRead_keeps (p : Port) (n : Nat) : Keeps but s (s.logRead p n) :=
  Keeps.all (State.setPort_keeps_slots .of_eq fun _ => id)

theorem State.seekDone_keeps (p : Port) (found : Option LogRecord) : Keeps but s (s.seekDone p found) :=
  Keeps.all (State.setPort_keeps_slots .of_eq fun _ => id)

theorem readLog_keeps (p : Port) (payload : List Byte) : Keeps but s (readLog p payload s).1 := by
  unfold readLog
  split
  · exact .refl s
  · exact .iteBody (fun _ => .refl s) fun _ => .iteBody (fun _ => s.logRead_keeps _ _) fun _ => s.waitRead_keeps _ _

theorem seekLog_keeps (p : Port) (payload : List Byte) : Keeps but s (seekLog p payload s).1 := by
  unfold seekLog
  split
  · exact .refl s
  · exact .iteBody (fun _ => s.seekDone_keeps _ _) fun _ => s.waitRead_keeps _ _

theorem readJournal_keeps (p : Port) (payload : List Byte) : Keeps but s (readJournal p payload s).1 := by
  unfold readJournal
  split
  · exact .refl s
  · exact s.waitRead_keeps _ _

/-- The end of a granted read: it leaves the waiting reads, the channel goes on, the reply goes out. -/
theorem State.readDone_keeps (r : WaitingRead) (a : Answer) :
    Keeps but s (((s.dropRead r).readEnds r.port).readReply r a) :=
  ((s.dropRead_keeps r).trans (State.readEnds_keeps _ _)).trans (State.readReply_keeps _ _ _)

theorem State.readLogGrant_keeps : Keeps but s s.readLogGrant := by
  unfold State.readLogGrant
  split
  · split
    · exact (s.logRead_keeps _ _).trans (State.readDone_keeps _ _ _)
    · exact .refl s
  · exact .refl s

theorem State.seekLogStep_keeps : Keeps but s s.seekLogStep := by
  unfold State.seekLogStep
  split
  · split
    · split
      · exact .trans .of_view (State.stepEnds_keeps _ _)
      · exact (s.seekDone_keeps _ _).trans (State.readDone_keeps _ _ _)
    · exact .refl s
  · exact .refl s

theorem State.readJournalGrant_keeps : Keeps but s s.readJournalGrant := by
  unfold State.readJournalGrant
  split
  · split
    · exact s.readDone_keeps _ _
    · exact .refl s
  · exact .refl s

end

end Sys2Proof.Machine
end

section
/-! PROOFS. What resets, start-up and time keep (Machine/Startup.lean, Machine/Idle.lean). -/

namespace Sys2Proof.Machine

-- one theorem at a time: many elaborated side by side would take a thread and its stack each
set_option Elab.async false

/-! ### What the flash array may come to hold (R138, R159, R160) -/

theorem Flash.Holds.torn {f : Flash} {ok : FlashUnit → Bool} (h : f.Holds ok) (hok : PlainUnits ok) (a : Nat)
    {u : FlashUnit} (hu : ok u = true) (x : Torn) : (f.torn a u x).Holds ok := by
  cases x with
  | erased => exact h
  | garbled => exact h.write _ hok.1
  | whole => exact h.write _ hu

theorem Flash.Holds.tornErase {f old : Flash} {ok : FlashUnit → Bool} (h : f.Holds ok) (hold : old.Holds ok)
    (hok : PlainUnits ok) (x : Torn) : (f.tornErase old x).Holds ok := by
  cases x with
  | erased => exact h
  | garbled =>
    refine h.restore fun e he => ?_
    obtain ⟨_, _, rfl⟩ := List.mem_map.1 he
    exact hok.1
  | whole => exact h.restore hold

/-- What a reset finds in the array was there or on its way there. -/
theorem Store.cutShort_holds {st : Store} {ok : FlashUnit → Bool} (hok : PlainUnits ok) (h : st.unitsHold ok = true)
    (n : Nat) : (st.cutShort n).Holds ok := by
  have hflash := Store.flash_holds h
  unfold Store.cutShort
  split
  · exact hflash
  · exact hflash
  · next j _ hj =>
    obtain ⟨-, hcontent, hheader⟩ := (Store.unitsHold_programming ok hj).1 h
    refine Flash.Holds.torn ?_ hok _ hcontent _
    unfold Flash.tornHeader
    split
    · exact hflash
    · next hd hhd => exact hflash.torn hok _ (ProgramJob.header_plain hok hheader hhd) _
  · next j hj => exact hflash.tornErase ((Store.unitsHold_erasing ok hj).1 h).2 hok _

/-- A valid image in the array is of a set that its commit carries. -/
theorem pickImage_valid {us : List FlashUnit} {best : Option (Nat × RatingSet)} {u : FlashUnit}
    (hu : u.imageHolds = true) (hbest : ∀ b, best = some b → b.2.valid = true) :
    ∀ b, pickImage us best u = some b → b.2.valid = true := by
  intro b hb
  cases u with
  | imageCommit n set =>
    simp only [pickImage] at hb
    split at hb
    · split at hb
      · cases hb
        exact hu
      · split at hb
        · cases hb
          exact hu
        · exact hbest b hb
    · exact hbest b hb
  | _ => exact hbest b hb

theorem foldl_pickImage_valid {all us : List FlashUnit} {best : Option (Nat × RatingSet)}
    (hus : ∀ u ∈ us, u.imageHolds = true) (hbest : ∀ b, best = some b → b.2.valid = true) :
    ∀ b, us.foldl (pickImage all) best = some b → b.2.valid = true := by
  induction us generalizing best with
  | nil => exact hbest
  | cons u rest ih =>
    exact ih (fun u' hu' => hus u' (List.mem_cons_of_mem _ hu'))
      (pickImage_valid (hus u List.mem_cons_self) hbest)

theorem Flash.newestImage_valid {f : Flash} (h : f.Holds FlashUnit.imageHolds) {r : RatingSet}
    (hr : f.newestImage = some r) : r.valid = true := by
  obtain ⟨b, hb, rfl⟩ := Option.map_eq_some_iff.1 hr
  refine foldl_pickImage_valid (fun u hu => ?_) (by simp) b hb
  obtain ⟨e, he, rfl⟩ := List.mem_map.1 hu
  exact h e (List.mem_filter.1 he).1

/-- A configuration found in block 1 is one that its commit carries. -/
theorem Flash.savedConfig_inRange {f : Flash} (h : f.Holds FlashUnit.configHolds) {c : LiveConfig}
    (hc : f.savedConfig = some c) : c.inRange = true := by
  unfold Flash.savedConfig at hc
  dsimp only at hc
  split at hc
  · obtain ⟨u, hu, hfound⟩ := List.exists_of_findSome?_eq_some hc
    obtain ⟨e, he, rfl⟩ := List.mem_map.1 hu
    have hok := h e (List.mem_filter.1 he).1
    split at hfound
    · next units cfg hunit =>
      split at hfound
      · cases hfound
        simpa [FlashUnit.configHolds, hunit] using hok
      · cases hfound
    · cases hfound
  · cases hc

theorem defaultConfig_inRange : defaultConfig.inRange = true := by decide

/-! ### What every reset loses -/

section
variable {but : List Topic} (s : State)

theorem State.cleared_configHolds (h : s.configHolds = true) : s.cleared.configHolds = true := by
  have hunits := Store.cutShort_holds plainUnits_config (State.configHolds_units h) s.freeIndex
  have hkept : s.cleared.store.unitsHold FlashUnit.configHolds = true := (Store.unitsHold_free _ rfl).2 hunits
  simp only [State.configHolds, hkept, Bool.and_true]
  exact defaultConfig_inRange

theorem State.cleared_ratingHolds (h : s.ratingHolds = true) : s.cleared.ratingHolds = true := by
  have hunits := Store.cutShort_holds plainUnits_image (State.ratingHolds_units h) s.freeIndex
  refine (State.ratingHolds_iff _).2 ⟨nofun, rfl, nofun, nofun, (Store.unitsHold_free _ rfl).2 hunits⟩

theorem State.cleared_keeps : Keeps [.slots, .raised] s s.cleared := fun a ha => by
  cases a with
  | flash => exact Store.wf_cutShort _ _
  | table | lockout | events | draft => exact fun _ => rfl
  | siren => exact fun _ => by simp [State.sirenHolds, State.cleared, WarningUnit.fresh, WarningUnit.sirenHolds]
  | queues => exact fun _ => Nat.zero_le _
  | buffer => exact fun _ => ⟨Nat.zero_le _, Nat.zero_le _, rfl, .inr rfl⟩
  | config => exact s.cleared_configHolds
  | rating => exact s.cleared_ratingHolds
  | pending | phase => rfl
  | slots | raised => simp at ha

/-! ### A change of phase -/

/-- What must hold of a part as its phase changes: no run, the siren at rest, the buffer empty. -/
def State.Quiet (s : State) : Prop :=
  (s.lockoutHolds = true → s.run = none) ∧
    (s.sirenHolds = true → s.warn.siren = .off ∧ s.warn.clearSince = none) ∧ (s.BufferHolds → s.store.buffer = [])

/-- A part outside READY is quiet. -/
theorem State.quiet_of_phase (h : s.phase ≠ .ready) : s.Quiet := by
  refine ⟨fun hs => ?_, fun hs => ?_, fun hs => hs.2.2.2.resolve_left h⟩
  · cases hr : s.run with
    | none => rfl
    | some r => exact absurd (State.phase_of_lockoutHolds hr hs) h
  · simp only [State.sirenHolds, h, decide_false, Bool.false_or, Bool.and_eq_true, decide_eq_true_eq,
      Option.isNone_iff_eq_none] at hs
    exact hs.2

theorem State.quiet_cleared : s.cleared.Quiet := ⟨fun _ => rfl, fun _ => ⟨rfl, rfl⟩, fun _ => rfl⟩

theorem State.setPhase_keeps (x : Phase) (h : s.Quiet) : Keeps [.phase] s { s with phase := x } := by
  obtain ⟨hrun, hsiren, hbuffer⟩ := h
  intro a ha
  cases a with
  | phase => simp at ha
  | lockout =>
    intro hs
    simp [State.lockoutHolds, hrun hs]
  | siren =>
    intro hs
    obtain ⟨hoff, hclear⟩ := hsiren hs
    simp only [State.sirenHolds, Bool.and_eq_true] at hs ⊢
    exact ⟨hs.1, by simp [hoff, hclear]⟩
  | buffer =>
    intro hs
    exact ⟨hs.1, hs.2.1, hs.2.2.1, .inr (hbuffer hs)⟩
  | slots => exact fun _ _ => id
  | raised => exact fun _ => id
  | pending => rfl
  | _ => exact id

/-! ### Into STARTING (R191, R192) -/

theorem State.loadCopies_keeps : Keeps but s s.loadCopies := by
  unfold State.loadCopies
  refine .trans ?_ (.of_view (s := (((s.mapSel fun x => x.loaded s.cfg).loadChannels).loadWarnItems).loadDivider))
  exact .trans (.trans (.of_view (t := (s.mapSel fun x => x.loaded s.cfg).loadChannels)) (State.loadWarnItems_keeps _))
    .of_view

theorem State.enterStarting_keeps (h : s.Quiet) : Keeps [.phase] s s.enterStarting := by
  have hphase : Keeps [.phase] s { s with phase := .starting } := s.setPhase_keeps .starting h
  have hrun : State.lockoutHolds { s with phase := .starting } = true → s.run = none := fun hs => by
    cases hr : s.run with
    | none => rfl
    | some r => simp [State.lockoutHolds, hr] at hs
  have hcfg : Keeps [.phase] { s with phase := .starting }
      { s with phase := .starting, cfg := s.store.flash.savedConfig.getD defaultConfig } := by
    refine Keeps.mono (((Keeps.of_cfg _ _).patch fun hs => ?_).patch fun hs => ?_)
    · simp [State.lockoutHolds, hrun hs]
    · have hsaved : (s.store.flash.savedConfig.getD defaultConfig).inRange = true := by
        cases hc : s.store.flash.savedConfig with
        | none => exact defaultConfig_inRange
        | some c => exact Flash.savedConfig_inRange (Store.flash_holds (State.configHolds_units hs)) hc
      simp only [State.configHolds, Bool.and_eq_true] at hs ⊢
      exact ⟨⟨hsaved, hs.1.2⟩, hs.2⟩
  exact (hphase.trans hcfg).trans (.trans .of_view (State.loadCopies_keeps _))

theorem State.leaveReset_keeps (h : s.Quiet) : Keeps [.phase] s s.leaveReset := by
  unfold State.leaveReset
  exact .ite (fun _ => s.setPhase_keeps _ h) fun _ => s.enterStarting_keeps h

theorem State.powerOn_keeps : Keeps [.phase] s s.powerOn := by
  unfold State.powerOn
  refine .ite (fun hoff => ?_) fun _ => .refl s
  refine .trans (.of_view (t := { s with uptime := 0, uptimeSub := 0, ticks := 0, backup := s.backup.powered }))
    (State.leaveReset_keeps _ (State.quiet_of_phase _ ?_))
  simp [hoff]

theorem State.resetRelease_keeps : Keeps [.phase] s s.resetRelease := by
  unfold State.resetRelease
  refine .ite (fun hheld => ?_) fun _ => .of_view
  refine .trans (.of_view (t := { s with resetLow := false })) (State.enterStarting_keeps _ (State.quiet_of_phase _ ?_))
  simp [hheld]

theorem State.stationResetEffect_keeps : Keeps [.phase, .slots, .raised] s s.stationResetEffect := by
  unfold State.stationResetEffect
  exact .ite (fun _ => s.cleared_keeps.mono.trans (State.enterStarting_keeps _ s.quiet_cleared).mono) fun _ => .refl s

/-! ### The start-up scan (R113, R162) -/

theorem State.scanErase_keeps (b : Nat) : Keeps but s (s.scanErase b) :=
  .trans .of_view (State.startJournalErase_keeps _ _)

theorem State.scanStart_keeps : Keeps but s s.scanStart := by
  unfold State.scanStart
  refine .ite (fun _ => .refl s) fun _ => .ite (fun _ => s.journalProgram_keeps) fun _ => ?_
  split
  · exact .refl s
  · exact s.scanErase_keeps _

theorem State.scanEnd_keeps (outs : List Bool) : Keeps but s (s.scanEnd outs).1 := by
  unfold State.scanEnd
  split
  · exact .refl s
  · exact .refl s
  · exact s.programComplete_keeps _ _
  · exact s.eraseComplete_keeps _ _

theorem State.scanTrailers_keeps (n : Nat) (outs : List Bool) : Keeps but s (State.scanTrailers n s outs) := by
  induction n generalizing s outs with
  | zero => exact .refl s
  | succ n ih =>
    exact .ite (fun _ => .refl s) fun _ => (s.scanStart_keeps.trans (State.scanEnd_keeps _ _)).trans (ih _ _)

theorem State.scanSome_keeps (n : Nat) (outs : List Bool) : Keeps but s (State.scanSome n s outs) := by
  induction n generalizing s outs with
  | zero => exact .refl s
  | succ n ih =>
    exact .ite (fun _ => .refl s) fun _ => (s.scanStart_keeps.trans (State.scanEnd_keeps _ _)).trans (ih _ _)

/-- The trailers set out for the scan are more than the queue's places hold. -/
theorem State.queueTrailers_keeps : Keeps [.queues] s s.queueTrailers := Keeps.of_queue s _

theorem State.closeRuns_keeps (outs : List Bool) : Keeps but s (s.closeRuns outs) := by
  unfold State.closeRuns
  refine .ite (fun _ => .refl s) fun _ => Keeps.all ?_
  dsimp only
  exact Keeps.patch (a := .queues) (.trans (s.queueTrailers_keeps.trans (State.scanTrailers_keeps _ _ _))
    (Keeps.of_queue _ [])) fun _ => Nat.zero_le _

/-- The scan finds the buffer empty, so that it may set next_seq. -/
theorem State.scanStore_keeps (h : s.Quiet) : Keeps but s s.scanStore := Keeps.all <| by
  refine Keeps.patch (a := .buffer) ?_ fun hs => ?_
  · exact .trans (Keeps.of_log s s.store.buffer s.store.dropped s.store.flash.scanLog.nextSeq) .of_view
  · have hempty := h.2.2 hs
    obtain ⟨hlen, hdropped, -, hphase⟩ := hs
    refine ⟨hlen, hdropped, ?_, hphase⟩
    show sequencesRun _ s.store.buffer = true
    rw [hempty]
    rfl

theorem State.setLevel_keeps (l : Level) (h : s.Quiet) :
    Keeps but s { s with warn := { s.warn with level := l } } := Keeps.all <| by
  refine ((Keeps.of_warn s fun w => { w with level := l }).patch fun hs => ?_).patch fun hs => ?_
  · obtain ⟨hoff, hclear⟩ := h.2.1 hs
    simp_all [State.sirenHolds, WarningUnit.sirenHolds]
  · simp [State.lockoutHolds, h.1 hs]

theorem State.handOver_keeps (log : LogScan) (runId : Nat) (h : s.Quiet) : Keeps but s (s.handOver log runId) := by
  refine .trans (s.setLevel_keeps (restoredLevel log.newest) h) (.trans (State.setRating_keeps
    (u := { s.rating with active := s.store.flash.newestImage }) id fun hs => ?_) .of_view)
  rw [State.ratingHolds_iff] at hs ⊢
  obtain ⟨-, hdraft, hflight, hwork, hunits⟩ := hs
  exact ⟨fun r hr => Flash.newestImage_valid (Store.flash_holds hunits) hr, hdraft, hflight, hwork, hunits⟩

/-- A part that is quiet by its phase stays so while the phase is kept. -/
theorem State.quiet_of_keeps {t : State} (hs : s.phase ≠ .ready) (h : Keeps [] s t) : t.Quiet :=
  State.quiet_of_phase t (h.phase_eq ▸ hs)

theorem State.scan_keeps (outs : List Bool) (h : s.phase ≠ .ready) : Keeps but s (s.scan outs) := by
  have hclosed : Keeps [] s (s.scanStore.closeRuns outs) :=
    (s.scanStore_keeps (s.quiet_of_phase h)).trans (State.closeRuns_keeps _ _)
  exact Keeps.all (hclosed.trans (State.handOver_keeps _ _ _ (State.quiet_of_keeps s h hclosed)))

theorem State.scanBroken_keeps : Keeps [.queues] s s.scanBroken := by
  unfold State.scanBroken
  refine .ite (fun _ => .refl s) fun hstarting => ?_
  have hphase : s.phase ≠ .ready := fun h => hstarting (.inl (by simp [h]))
  unfold State.scannedSoFar
  dsimp only
  have hsome : Keeps [.queues] s (State.scanSome (Config.scanEnded s.freeIndex).length s.scanStore.queueTrailers
      (Config.scanEnded s.freeIndex)) :=
    ((s.scanStore_keeps (s.quiet_of_phase hphase)).trans (State.queueTrailers_keeps _)).trans
      (State.scanSome_keeps _ _ _)
  exact .ite (fun _ => hsome.trans (State.scanStart_keeps _)) fun _ => hsome

/-- A scan broken off and RAM lost. -/
theorem State.scanLost_keeps : Keeps [.slots, .raised] s s.scanBroken.cleared :=
  Keeps.patch (a := .queues) (s.scanBroken_keeps.mono.trans (State.cleared_keeps _).mono) fun _ => Nat.zero_le _

theorem State.powerLoss_keeps : Keeps [.phase, .slots, .raised] s s.powerLoss := by
  unfold State.powerLoss
  exact .ite (fun _ => .refl s) fun _ =>
    s.scanLost_keeps.mono.trans (State.setPhase_keeps _ _ (State.quiet_cleared _)).mono

theorem State.resetAssert_keeps : Keeps [.phase, .slots, .raised] s s.resetAssert := by
  unfold State.resetAssert
  refine .ite (fun _ => .refl s) fun _ => .ite (fun _ => .of_view) fun _ => ?_
  exact s.scanLost_keeps.mono.trans (.trans (State.setPhase_keeps _ .held (State.quiet_cleared _)).mono .of_view)

/-! ### The entry to READY (R193) -/

theorem State.setCursors_keeps : Keeps but s s.setCursors := Keeps.all <| by
  have hset (t : State) (p : Port) : Keeps [] t (t.setPort p ((t.port p).atReady s.store.nextSeq)) :=
    State.setPort_keeps_slots .of_eq fun _ => id
  exact ((hset s .l).trans (hset _ .t)).trans (hset _ .c)

theorem State.askAhead_keeps (r : Region) (cur : Option CurrentBlock) (purpose : ErasePurpose) :
    Keeps but s (s.askAhead r cur purpose) := by
  unfold State.askAhead
  split
  · exact s.nameTarget_keeps _ _ _
  · split
    · exact .refl s
    · exact .ite (fun _ => .refl s) fun _ => s.requestErase_keeps _

theorem State.askDue_keeps : Keeps but s s.askDue := by
  unfold State.askDue
  exact .ite (fun _ => .refl s) fun _ => (s.askAhead_keeps _ _ _).trans (State.askAhead_keeps _ _ _ _)

theorem State.raiseFault_keeps : Keeps but s s.raiseFault := by
  unfold State.raiseFault
  exact .ite (fun _ => State.raiseAll_keeps _) fun _ => .refl s

theorem State.replyIdents_keeps : Keeps but s s.replyIdents :=
  ((s.identDeferred_keeps _).trans (State.identDeferred_keeps _ _)).trans (State.identDeferred_keeps _ _)

theorem WarningUnit.atReady_level (w : WarningUnit) (now : Nat) : (w.atReady now).level = w.level := by
  unfold WarningUnit.atReady
  split <;> rfl

theorem State.atReady_keeps (now : Nat) (h : s.phase = .ready) : Keeps but s (s.mapWarn fun w => w.atReady now) := by
  refine s.mapWarn_keeps (WarningUnit.atReady_level _ _) fun hs => ?_
  rw [State.sirenHolds_iff] at hs ⊢
  obtain ⟨-, htest, -, htimer, -⟩ := id hs
  simp only [State.mapWarn, WarningUnit.atReady]
  split
  · next hdanger =>
    have hnotest : s.warn.siren ≠ .test := fun ht => by simp [hdanger] at htest; exact htest ht
    simp_all
  · exact hs

theorem State.enterReady_keeps (h : s.Quiet) : Keeps [.phase] s s.enterReady := by
  unfold State.enterReady
  dsimp only
  have hready : Keeps [.phase] s { s.setCursors with phase := .ready } :=
    s.setCursors_keeps.trans (State.setPhase_keeps _ .ready h)
  have hwarn : Keeps [.phase] s (State.mapWarn { s.setCursors with phase := .ready } fun w => w.atReady s.uptime) :=
    hready.trans (State.atReady_keeps _ _ rfl)
  refine .trans (.trans (.trans (hwarn.trans .of_view) (State.askDue_keeps _)) (State.raiseAll_keeps _))
    (State.raiseFault_keeps _)

theorem State.readyEntry_keeps (outs : List Bool) : Keeps [.phase] s (s.readyEntry outs) := by
  unfold State.readyEntry
  refine .ite (fun hstarting => ?_) fun _ => .refl s
  have hscan : Keeps [] s (s.replyIdents.scan outs) := s.replyIdents_keeps.trans (State.scan_keeps _ _ ?_)
  · exact hscan.mono.trans (State.enterReady_keeps _ (State.quiet_of_keeps s (by simp [hstarting]) hscan))
  · rw [(s.replyIdents_keeps (but := [])).phase_eq, hstarting]
    simp

end

end Sys2Proof.Machine
end

section
/-! PROOFS. What a command keeps (Machine/Dispatch.lean, Machine/Step.lean): the step lemma of O5 to O13. -/

namespace Sys2Proof.Machine

-- one theorem at a time: many elaborated side by side would take a thread and its stack each
set_option Elab.async false

/-! ### A capture tick (R22, R23) -/

theorem Channel.ticked_holds (c : Channel) {ok : FlashUnit → Bool} {st : Store} (hc : st.channel = c)
    (h : st.unitsHold ok = true) : Store.unitsHold { st with channel := c.ticked } ok = true := by
  cases c with
  | free | searched => exact Store.unitsHold_freed h rfl
  | programming j n => exact (Store.unitsHold_programming ok rfl).2 ((Store.unitsHold_programming ok hc).1 h)
  | erasing j =>
    refine (Store.unitsHold_erasing ok rfl).2 ?_
    have hold := (Store.unitsHold_erasing ok hc).1 h
    split
    · exact hold
    · exact hold

section
variable {but : List Topic} (s : State)

theorem State.counted_keeps : Keeps but s s.counted :=
  .trans (State.setChannel_keeps fun _ hs => Channel.ticked_holds _ rfl hs) .of_view

theorem State.tick_keeps : Keeps but s s.tick := by
  unfold State.tick
  exact .ite (fun _ => .of_view) fun _ => s.counted_keeps.trans (State.lineTicked_keeps _)

theorem State.rest_keeps : Keeps but s s.rest := by
  unfold State.rest
  exact .ite (fun _ => .refl s) fun _ => s.tick_keeps

end

/-! ### The requests (R168) -/

/-- The block of the command table that owns a request. -/
def requestBlock : Instr → State → State × Option Answer
  | .getIdent _ pl => getIdent pl
  | .getTime _ pl => getTime pl
  | .setTime _ pl => setTime pl
  | .linkReset p pl => linkReset p pl
  | .stationReset p pl => stationReset p pl
  | .fetchEvents p pl => fetchEvents p pl
  | .setEventGroups p pl => setEventGroups p pl
  | .getStage _ pl => getStage pl
  | .readSources _ pl => readSources pl
  | .setReference _ pl => setReference pl
  | .selectSource _ pl => selectSource pl
  | .requestSample _ pl => requestSample pl
  | .getRating _ pl => getRating pl
  | .queryDischarge _ pl => queryDischarge pl
  | .draftBegin p pl => draftBegin p pl
  | .draftPutPoints p pl => draftPutPoints p pl
  | .draftTruncate p pl => draftTruncate p pl
  | .draftPutShift p pl => draftPutShift p pl
  | .draftSetExtension p pl => draftSetExtension p pl
  | .draftActivate p pl => draftActivate p pl
  | .draftDiscard p pl => draftDiscard p pl
  | .getWarning _ pl => getWarning pl
  | .ackSiren _ pl => ackSiren pl
  | .testSiren _ pl => testSiren pl
  | .runOpen p pl => runOpen p pl
  | .verticalBegin _ pl => verticalBegin pl
  | .pointStart _ pl => pointStart pl
  | .verticalEnd _ pl => verticalEnd pl
  | .verticalCancel _ pl => verticalCancel pl
  | .verticalRemove _ pl => verticalRemove pl
  | .runClose p pl => runClose p pl
  | .runAbandon p pl => runAbandon p pl
  | .runResume _ pl => runResume pl
  | .runStatus _ pl => runStatus pl
  | .getVertical _ pl => getVertical pl
  | .getGaugings _ pl => getGaugings pl
  | .readLog p pl => readLog p pl
  | .seekLog p pl => seekLog p pl
  | .storeStatus p pl => storeStatus p pl
  | .readJournal p pl => readJournal p pl
  | .eraseLog _ pl => eraseLog pl
  | .getConfig _ pl => getConfig pl
  | .setConfig _ pl => setConfig pl
  | .saveConfig _ pl => saveConfig pl
  | .setPermissions p pl _ => setPermissions p pl
  | .writeIdent p pl _ => writeIdent p pl
  | _ => fun s => (s, none)

/-- A request command is served on its port by the block that owns it, with the MAINT contact sampled first. -/
theorem exec_request {i : Instr} {r : Request} (h : requestOf i = some r) (s : State) :
    exec i s = .next ((sampledMaint i s).serve r.port r.code r.payload (requestBlock i)) := by
  cases i <;> cases h <;> rfl

theorem sampledMaint_keeps {but : List Topic} (i : Instr) (s : State) : Keeps but s (sampledMaint i s) := by
  unfold sampledMaint
  split
  · exact .of_view
  · exact .of_view
  · exact .refl s

/-! ### The blocks that only read -/

section
variable (payload : List Byte) (s : State)

@[simp] theorem getTime_state : (getTime payload s).1 = s := by
  unfold getTime
  split <;> rfl

@[simp] theorem readSources_state : (readSources payload s).1 = s := by
  unfold readSources
  split <;> rfl

@[simp] theorem getWarning_state : (getWarning payload s).1 = s := by
  unfold getWarning
  split <;> rfl

@[simp] theorem runStatus_state : (runStatus payload s).1 = s := by
  unfold runStatus
  split <;> rfl

@[simp] theorem getStage_state : (getStage payload s).1 = s := by
  unfold getStage
  split
  · rfl
  · split <;> rfl

@[simp] theorem getConfig_state : (getConfig payload s).1 = s := by
  unfold getConfig
  split
  · rfl
  · split <;> rfl

@[simp] theorem getGaugings_state : (getGaugings payload s).1 = s := by
  unfold getGaugings
  split
  · rfl
  · split <;> rfl

@[simp] theorem queryDischarge_state : (queryDischarge payload s).1 = s := by
  unfold queryDischarge
  split
  · rfl
  · split
    · rfl
    · split <;> rfl

@[simp] theorem getRating_state : (getRating payload s).1 = s := by
  unfold getRating
  split
  · rfl
  · split
    · rfl
    · split <;> rfl

@[simp] theorem getVertical_state : (getVertical payload s).1 = s := by
  unfold getVertical
  split
  · rfl
  · split
    · rfl
    · split
      · split <;> rfl
      · split <;> rfl

@[simp] theorem storeStatus_state (p : Port) : (storeStatus p payload s).1 = s := by
  unfold storeStatus
  split <;> rfl

end

/-! ### What each request keeps -/

/-- The topics a request's block may leave: a port reset and a fetched set. -/
def requestTopics : Instr → List Topic
  | .linkReset _ _ => [.slots, .raised]
  | .stationReset _ _ => [.slots]
  | .fetchEvents _ _ => [.raised]
  | .setEventGroups _ _ => [.raised]
  | _ => []

/-- Every block of the command table keeps what it does not own. -/
theorem requestBlock_keeps {i : Instr} {r : Request} (h : requestOf i = some r) (s : State)
    (hadmit : s.phase = .ready ∨ r.code = 0x01#8 ∨ r.code = 0x02#8) :
    Keeps (requestTopics i) s (requestBlock i s).1 := by
  cases i <;> cases h
  case getIdent => apply getIdent_keeps
  case linkReset => apply linkReset_keeps
  case stationReset => apply stationReset_keeps
  case fetchEvents => apply fetchEvents_keeps
  case setEventGroups => apply setEventGroups_keeps
  case getTime | getStage | readSources | getRating | queryDischarge | getWarning | runStatus | getVertical | getGaugings |
      storeStatus | getConfig => exact .of_eq (by simp [requestBlock])
  case setReference => apply setReference_keeps
  case selectSource => apply selectSource_keeps
  case draftBegin => apply draftBegin_keeps
  case draftPutPoints => apply draftPutPoints_keeps
  case draftTruncate => apply draftTruncate_keeps
  case draftPutShift => apply draftPutShift_keeps
  case draftSetExtension => apply draftSetExtension_keeps
  case draftActivate => apply draftActivate_keeps
  case draftDiscard => apply draftDiscard_keeps
  case ackSiren => apply ackSiren_keeps
  case verticalBegin => apply verticalBegin_keeps
  case pointStart => apply pointStart_keeps
  case verticalEnd => apply verticalEnd_keeps
  case verticalCancel => apply verticalCancel_keeps
  case verticalRemove => apply verticalRemove_keeps
  case runClose => apply runClose_keeps
  case runAbandon => apply runAbandon_keeps
  case runResume => apply runResume_keeps
  case readLog => apply readLog_keeps
  case seekLog => apply seekLog_keeps
  case readJournal => apply readJournal_keeps
  case eraseLog => apply eraseLog_keeps
  case setConfig => apply setConfig_keeps
  case saveConfig => apply saveConfig_keeps
  case setPermissions => apply setPermissions_keeps
  case writeIdent => apply writeIdent_keeps
  all_goals have hready : s.phase = .ready := hadmit.resolve_right (by simp)
  case setTime => exact setTime_keeps _ hready
  case requestSample => exact requestSample_keeps _ hready
  case testSiren => exact testSiren_keeps _ hready
  case runOpen => exact runOpen_keeps _ _ _ hready

/-- A request keeps all but the slots and the pending set of its port. -/
theorem serveRequest_keeps {i : Instr} {r : Request} (h : requestOf i = some r) (s : State) :
    Keeps [.slots, .raised] s ((sampledMaint i s).serve r.port r.code r.payload (requestBlock i)) := by
  refine (sampledMaint_keeps i s).trans (State.serve_keeps (but := [.raised]) _ _ _ _ fun u hu => ?_)
  refine (requestBlock_keeps h u hu).mono ?_
  cases i <;> simp [requestTopics]

/-! ### What each command keeps -/

/-- What happens by itself, or at a pin, keeps all but the phase, the slots and the pending sets. -/
theorem event_keeps {i : Instr} (h : requestOf i = none) (s : State) :
    ∃ t, exec i s = .next t ∧ Keeps [.phase, .slots, .raised] s t := by
  cases i <;> cases h <;> refine ⟨_, rfl, ?_⟩
  case powerOn => exact s.powerOn_keeps.mono
  case powerLoss => exact s.powerLoss_keeps
  case resetPinAssert => exact s.resetAssert_keeps
  case resetPinRelease => exact s.resetRelease_keeps.mono
  case stationResetTakesEffect => exact s.stationResetEffect_keeps
  case readyEntry => exact (s.readyEntry_keeps _).mono
  case getIdentDeferredReply => exact s.identDeferred_keeps _
  case encoderTransition => exact s.encoder_keeps _ _
  case measurementComplete => exact s.completeMeasurement_keeps _
  case measurementAbandoned => exact s.abandonMeasurement_keeps
  case pressureNoSignal => exact s.loseSignal_keeps
  case scheduledSample => exact s.scheduledSample_keeps
  case sirenTimerExpiry => exact s.sirenExpiry_keeps
  case sirenTestExpiry => exact s.testExpiry_keeps
  case silenceTimerExpiry => exact s.silenceExpiry_keeps
  case parkTimerExpiry => exact s.parkExpiry_keeps
  case meterClosure => exact .ite (fun _ => .of_view) fun _ => .refl s
  case observationComplete => exact s.observationComplete_keeps
  case trailerHandover => exact s.trailerHandover_keeps
  case appendGrant => exact s.appendGrant_keeps
  case journalGrant => exact s.journalGrant_keeps
  case ratingImageGrant => exact s.imageGrant_keeps
  case configSaveGrant => exact s.saveGrant_keeps
  case identWriteGrant => exact s.identGrant_keeps
  case unitProgramComplete => exact s.programComplete_keeps _ _
  case eraseAheadStart => exact s.eraseAheadStart_keeps
  case blockRetire => exact s.eraseStart_keeps _
  case eraseLogBlockErase => exact s.eraseStart_keeps _
  case eraseSuspend => exact s.eraseSuspend_keeps
  case eraseComplete => exact s.eraseComplete_keeps _ _
  case readLogGrant => exact s.readLogGrant_keeps
  case seekLogStep => exact s.seekLogStep_keeps
  case readJournalGrant => exact s.readJournalGrant_keeps
  case frameDiscard => exact s.frameDiscard_keeps _ _
  case frameGapTimeout => exact s.frameGap_keeps _
  case requestOverrun => exact (s.requestOverrun_keeps _ _ _).mono
  case unknownCommand => exact (s.unknownRequest_keeps _ _ _).mono
  case fetch => exact (s.fetch_keeps _ _).mono
  case replyTransmitStart => exact s.transmitStart_keeps.mono
  case replyTransmitDone => exact s.transmitDone_keeps
  case portCBreak => exact s.portBreak_keeps.mono
  case portcDividerLoad => exact s.dividerLoad_keeps
  case stationClockAdvance => exact s.clockTick_keeps
  case backupStoreExhausted => exact s.exhaustBackup_keeps
  case portCLineReturnsHigh => exact .of_view

/-- Every command answers a next state, and keeps all but the phase, the slots and the pending sets. -/
theorem exec_keeps (i : Instr) (s : State) : ∃ t, exec i s = .next t ∧ Keeps [.phase, .slots, .raised] s t := by
  cases h : requestOf i with
  | some r => exact ⟨_, exec_request h s, (serveRequest_keeps h s).mono⟩
  | none => exact event_keeps h s

theorem Keeps.of_pending (s : State) (is : List Instr) : Keeps [.pending] s { s with pending := is } := fun a ha => by
  cases a with
  | pending => simp at ha
  | phase => rfl
  | slots => exact fun _ _ => id
  | raised => exact fun _ => id
  | _ => exact id

/-- A step keeps every topic but the phase, the queue, the slots and the pending sets. -/
theorem step_keeps {s t : State} (h : step s = .next t) : Keeps [.phase, .pending, .slots, .raised] s t := by
  unfold step at h
  split at h
  · next i rest hpending =>
    obtain ⟨u, hu, hkeeps⟩ := exec_keeps i { s with pending := rest }
    obtain rfl : u = t := by simpa [hu] using h
    have htaken : Keeps [.phase, .pending, .slots, .raised] s { s with pending := rest } := (Keeps.of_pending s rest).mono
    exact htaken.trans hkeeps.mono
  · unfold idle at h
    split at h
    · next i hdue =>
      obtain ⟨u, hu, hkeeps⟩ := exec_keeps i s
      obtain rfl : u = t := by simpa [hu] using h
      exact hkeeps.mono
    · cases h
      exact s.rest_keeps

end Sys2Proof.Machine
end

section
/-! PROOFS. The machine as a whole: O1 to O13, of the step lemma. -/

namespace Sys2Proof.Machine

-- one theorem at a time: many elaborated side by side would take a thread and its stack each
set_option Elab.async false

/-- Settles O6: of what a step keeps. -/
theorem flashArrayStaysCanonical : Obligations.FlashArrayStaysCanonical :=
  fun _ _ hs h => step_keeps h .flash (by simp) hs

/-- Settles O7: of what a step keeps. -/
theorem verticalTableStaysConsistent : Obligations.VerticalTableStaysConsistent :=
  fun _ _ hs h => step_keeps h .table (by simp) hs

/-- Settles O8: of what a step keeps. -/
theorem pendingSetsStayWellFormed : Obligations.PendingSetsStayWellFormed :=
  fun _ _ hs h => step_keeps h .events (by simp) hs

/-- Settles O9: of what a step keeps. -/
theorem sirenStaysWithinItsLevel : Obligations.SirenStaysWithinItsLevel :=
  fun _ _ hs h => step_keeps h .siren (by simp) hs

/-- Settles O10: of what a step keeps. -/
theorem noActiveRunAboveRunLimit : Obligations.NoActiveRunAboveRunLimit :=
  fun _ _ hs h => step_keeps h .lockout (by simp) hs

/-- Settles O11: the buffer and the queue are two topics, each kept by a step. -/
theorem bufferAndJournalQueueStayInBounds : Obligations.BufferAndJournalQueueStayInBounds := fun s t hs h => by
  obtain ⟨hbuffer, hqueue⟩ := s.queuesHold_iff.1 hs
  exact t.queuesHold_iff.2 ⟨step_keeps h .buffer (by simp) hbuffer, step_keeps h .queues (by simp) hqueue⟩

/-- Settles O12: of what a step keeps. -/
theorem draftSlotMatchesActivationInFlight : Obligations.DraftSlotMatchesActivationInFlight :=
  fun _ _ hs h => step_keeps h .draft (by simp) hs

/-- Settles O13: of what a step keeps, the configurations and the rating sets apart. -/
theorem configurationAndRatingSetsStayValid : Obligations.ConfigurationAndRatingSetsStayValid :=
  fun _ _ h => ⟨step_keeps h .config (by simp), step_keeps h .rating (by simp)⟩

/-- Settles O5: every command answers a next state, and what it keeps holds the queue. -/
theorem everyCommandGoesOnAndKeepsTheQueue : Obligations.EveryCommandGoesOnAndKeepsTheQueue := fun i s => by
  obtain ⟨t, ht, hkeeps⟩ := exec_keeps i s
  exact ⟨t, ht, hkeeps .pending (by simp)⟩

/-- Settles O1: of the step's own branch. -/
theorem stepRunsFrontCommand : Obligations.StepRunsFrontCommand := fun _ _ _ => rfl

/-! ### The part right after reset -/

/-- Settles O4: the part after reset holds nothing but the defaults. -/
theorem invariantsHoldAtReset : Obligations.InvariantsHoldAtReset := by
  unfold Obligations.InvariantsHoldAtReset
  decide

/-- The items of the configuration after reset are their defaults. -/
theorem defaultConfig_get (i : Item) : defaultConfig.get i = i.row.default := by
  cases i with
  | interval l => cases l <;> rfl
  | stageEnter a | hyst a | rateEnter a | rateFloor a => cases a <;> rfl
  | perm p => cases p <;> rfl
  | _ => rfl

/-- Settles O3: the fields of the part after reset. -/
theorem resetLeavesFreshPartStarting : Obligations.ResetLeavesFreshPartStarting := by
  refine ⟨rfl, rfl, rfl, rfl, rfl, rfl, rfl, defaultConfig_get, rfl, rfl, rfl, rfl, rfl, rfl, rfl, rfl, rfl, rfl, rfl, rfl,
    rfl, rfl, rfl, rfl, rfl, fun p => ?_, rfl, rfl, rfl, rfl⟩
  cases p <;> exact ⟨rfl, rfl, rfl, rfl⟩

/-! ### On an empty queue -/

/-- A tick counts uptime on, or holds it at its greatest (R22). -/
theorem State.uptimeTicked_cases (s : State) :
    s.uptimeTicked.1 = s.uptime ∨ s.uptimeTicked.1 = s.uptime + 1 ∨ s.uptimeTicked.1 = uptimeLimit := by
  unfold State.uptimeTicked saturate
  split
  · exact .inl rfl
  · split
    · exact .inr (.inr rfl)
    · exact .inr (.inl rfl)

/-- The phase of the station clock's second is no part of its time. -/
@[simp] theorem State.phaseTicked_clock (s : State) : s.phaseTicked.clock = s.backup.clock := by
  unfold State.phaseTicked
  split <;> rfl

/-- Settles O2: the branches of the idle step. -/
theorem emptyQueueRunsWhatIsDue : Obligations.EmptyQueueRunsWhatIsDue := by
  intro s hempty
  have hstep : step s = idle s := by simp only [step, hempty]
  refine ⟨fun i hdue => ?_, fun hnone hblocked => ?_, fun hnone hfree hoff => ?_, fun hnone hfree hon => ?_⟩
  · simp only [hstep, idle, hdue]
  · simp only [hstep, idle, hnone, State.rest, hblocked, if_true]
  · simp [hstep, idle, hnone, State.rest, hfree, State.tick, hoff, State.offTick]
  · refine ⟨s.onTick, by simp [hstep, idle, hnone, State.rest, hfree, State.tick, hon], ?_⟩
    rw [State.onTick, State.lineTicked_frame]
    exact ⟨rfl, s.phaseTicked_clock, s.uptimeTicked_cases⟩

end Sys2Proof.Machine
end

section
/-! PROOFS. Requests at the port (O15 to O18): what a port does with a frame before a block sees it, and how a block that is
reached answers. -/

namespace Sys2Proof.Machine

-- one theorem at a time: many elaborated side by side would take a thread and its stack each
set_option Elab.async false

/-! ### The end of a transmission (R174, R191) -/

/-- The reset that a STATION_RESET arranged is due as its reply leaves. -/
def dueAfter (r : Reply) (q : Option ResetRequest) : Option ResetRequest :=
  if r.resets then q.map fun x => { x with due := true } else q

theorem State.replyLeft_eq (s : State) (r : Reply) :
    s.replyLeft r = { s with resetReq := dueAfter r s.resetReq } := by
  unfold State.replyLeft dueAfter
  split <;> rfl

theorem State.transmitDone_gone {s : State} {r : Reply} (hr : s.lineC.tx = some r)
    (hgone : s.lineC.charTicks (r.payload.length + 7) ≤ s.lineC.txTicks) :
    s.transmitDone = { s with
      lineC := { s.lineC with tx := none, txTicks := 0 }, resetReq := dueAfter r s.resetReq } := by
  simp [State.transmitDone, State.transmitted, hr, replyChars, hgone, State.replyLeft_eq, LineC.stopped]

theorem State.transmitDone_unsent {s : State} (h : s.transmitted = false) : s.transmitDone = s := by
  unfold State.transmitDone
  split
  · rfl
  · simp [h]

theorem State.transmitted_iff (s : State) : s.transmitted = true ↔
    ∃ r, s.lineC.tx = some r ∧ s.lineC.charTicks (r.payload.length + 7) ≤ s.lineC.txTicks := by
  unfold State.transmitted
  split
  · next h => simp [h]
  · next r h =>
    refine ⟨fun hgone => ⟨r, h, of_decide_eq_true hgone⟩, ?_⟩
    rintro ⟨q, hq, hgone⟩
    rw [h] at hq
    cases hq
    exact decide_eq_true hgone

theorem State.exists_reply_of_transmitDue {s : State} (h : s.transmitDue = true) :
    ∃ r, (s.port .c).reply = some r := by
  simp only [State.transmitDue, Bool.and_eq_true, Option.isSome_iff_exists] at h
  exact h.2

/-! ### The MAINT contact beside the line (R174, R179) -/

theorem State.withMaint_transmitDone (s : State) (b : Bool) :
    (s.withMaint b).transmitDone.resetReq = s.transmitDone.resetReq := by
  cases ht : s.transmitted with
  | false => rw [State.transmitDone_unsent ht, State.transmitDone_unsent (s := s.withMaint b) ht]; rfl
  | true =>
    obtain ⟨r, hr, hgone⟩ := s.transmitted_iff.1 ht
    rw [State.transmitDone_gone hr hgone, State.transmitDone_gone (s := s.withMaint b) hr hgone]
    rfl

theorem State.withMaint_transmitStart (s : State) (b : Bool) :
    (s.withMaint b).transmitStart = s.transmitStart.withMaint b := by
  cases hd : s.transmitDue with
  | false =>
    rw [State.transmitStart_idle s hd]
    exact State.transmitStart_idle _ hd
  | true =>
    obtain ⟨r, hr⟩ := State.exists_reply_of_transmitDue hd
    rw [State.transmitStart_due s r hd hr, State.transmitStart_due (s.withMaint b) r hd hr, s.withMaint_transmitDone]
    rfl

/-- Sampling the MAINT contact and serving port C's line do not meet. -/
theorem sampledMaint_lineServed (i : Instr) (s : State) (p : Port) :
    sampledMaint i (s.lineServed p) = (sampledMaint i s).lineServed p := by
  have hmaint (b : Bool) : (s.lineServed p).withMaint b = (s.withMaint b).lineServed p := by
    unfold State.lineServed
    split
    · exact (s.withMaint_transmitStart b).symm
    · rfl
  unfold sampledMaint
  split
  · exact hmaint _
  · exact hmaint _
  · rfl

@[simp] theorem sampledMaint_phase (i : Instr) (s : State) : (sampledMaint i s).phase = s.phase := by
  unfold sampledMaint
  split <;> rfl

@[simp] theorem sampledMaint_cfg (i : Instr) (s : State) : (sampledMaint i s).cfg = s.cfg := by
  unfold sampledMaint
  split <;> rfl

theorem State.lineServed_phase (s : State) (p : Port) : (s.lineServed p).phase = s.phase := by
  rw [State.lineServed_frame]

theorem State.lineServed_cfg (s : State) (p : Port) : (s.lineServed p).cfg = s.cfg := by
  rw [State.lineServed_frame]

/-! ### R169's steps -/

/-- Every command of the table has a family, or is free. -/
theorem codeClass_of_request {i : Instr} {r : Request} (h : requestOf i = some r) :
    codeClass r.code.toNat ≠ .unknown := by
  cases i <;> cases h <;> nofun

theorem State.admission_notReady {s : State} {p : Port} {code : Byte} (hcode : codeClass code.toNat ≠ .unknown)
    (hphase : s.phase ≠ .ready) (h1 : code ≠ 0x01#8) (h2 : code ≠ 0x02#8) : s.admission p code = some .notReady := by
  unfold State.admission
  split <;> simp_all

theorem State.admission_denied {s : State} {p : Port} {code : Byte} {f : Family}
    (hcode : codeClass code.toNat = .family f) (hphase : s.phase = .ready) (hdenied : s.cfg.permits p f = false) :
    s.admission p code = some .denied := by
  simp [State.admission, hcode, hphase, hdenied]

/-- A request that its port refuses, port C's line served first. -/
theorem State.serve_refused_served (s : State) (p : Port) (code : Byte) (payload : List Byte) (st : Status)
    (body : State → State × Option Answer) (h : s.deaf p = false) (hl : payload.length ≤ maxPayload)
    (hb : (s.lineServed p).slotBusy p = false) (ha : (s.lineServed p).admission p code = some st) :
    s.serve p code payload body = ((s.lineServed p).arrived p payload).answered p code st [] := by
  rw [s.serve_lineServed p code payload body h hl]
  exact State.serve_refused _ p code payload st body (by simpa using h) hl hb ha

/-- Settles O15: the branches of serving a request, in their order. -/
theorem portJudgesEveryRequestFirst : Obligations.PortJudgesEveryRequestFirst := by
  intro i r s hi x z
  have hexec := exec_request hi s
  have hphase : z.phase = s.phase := by rw [State.lineServed_phase, sampledMaint_phase]
  have hcfg : z.cfg = s.cfg := by rw [State.lineServed_cfg, sampledMaint_cfg]
  refine ⟨fun hdeaf => ?_, fun hhears hfits => ?_, fun hhears hlong => ?_, fun hhears hfits hbusy hcode => ?_,
    fun hhears hfits hfree hbefore h1 h2 => ?_, fun f hhears hfits hfree hready hfamily hdenied => ?_⟩
  · rw [hexec, State.serve_deaf _ _ _ _ _ hdeaf]
  · rw [hexec, exec_request hi, sampledMaint_lineServed, ← State.serve_lineServed _ _ _ _ _ hhears hfits]
  · rw [hexec, State.serve_long _ _ _ _ _ hhears hlong]
  · rw [hexec, State.serve_overrun _ _ _ _ _ hhears hfits hbusy hcode]
  · rw [hexec, State.serve_refused_served _ _ _ _ _ _ hhears hfits hfree
      (State.admission_notReady (codeClass_of_request hi) (hphase ▸ hbefore) h1 h2)]
  · rw [hexec, State.serve_refused_served _ _ _ _ _ _ hhears hfits hfree
      (State.admission_denied hfamily (hphase.trans hready) (hcfg ▸ hdenied))]

/-! ### A payload of another length (R165) -/

section
variable {pl : List Byte}

theorem parseEmpty_none (h : pl.length ≠ 0) : parseEmpty pl = none := by
  unfold parseEmpty
  split
  · simp at h
  · rfl

theorem parseByte_none (h : pl.length ≠ 1) : parseByte pl = none := by
  unfold parseByte
  split
  · simp at h
  · rfl

theorem parseTwo_none (h : pl.length ≠ 2) : parseTwo pl = none := by
  unfold parseTwo
  split
  · simp at h
  · rfl

theorem parseFour_none (h : pl.length ≠ 4) : parseFour pl = none := by
  unfold parseFour
  split
  · simp at h
  · rfl

theorem parseSigned_none (h : pl.length ≠ 2) : parseSigned pl = none := by
  unfold parseSigned
  split
  · simp at h
  · rfl

theorem parseReference_none (h : pl.length ≠ 3) : parseReference pl = none := by
  unfold parseReference
  split
  · simp at h
  · rfl

theorem parseShift_none (h : pl.length ≠ 7) : parseShift pl = none := by
  unfold parseShift
  split
  · simp at h
  · rfl

theorem parseRunOpen_none (h : pl.length ≠ 34) : parseRunOpen pl = none := by
  unfold parseRunOpen
  dsimp only
  split
  · next hrest =>
    have hlen := congrArg List.length hrest
    simp only [List.length_drop, List.length_cons, List.length_nil] at hlen
    omega
  · rfl

theorem parseVertical_none (h : pl.length ≠ 9) : parseVertical pl = none := by
  unfold parseVertical
  split
  · simp at h
  · rfl

theorem parseJournal_none (h : pl.length ≠ 3) : parseJournal pl = none := by
  unfold parseJournal
  split
  · simp at h
  · rfl

theorem parseConfig_none (h : pl.length ≠ 5) : parseConfig pl = none := by
  unfold parseConfig
  split
  · simp at h
  · rfl

end
/-- Every block of the command table checks the payload's length before all else. -/
theorem requestBlock_badArgument {i : Instr} {r : Request} (h : requestOf i = some r)
    (hlen : payloadLengthFits r.code r.payload.length = false) (s : State) : requestBlock i s = refuse s .badArgument := by
  cases i <;> cases h
  case getIdent | getTime | linkReset | stationReset | fetchEvents | getStage | readSources | requestSample |
      draftActivate | draftDiscard | getWarning | ackSiren | testSiren | verticalEnd | verticalCancel | runClose |
      runAbandon | runResume | runStatus | storeStatus | eraseLog | saveConfig =>
    simp only [requestBlock, getIdent, getTime, linkReset, stationReset, fetchEvents, getStage, readSources,
      requestSample, draftActivate, draftDiscard, getWarning, ackSiren, testSiren, verticalEnd, verticalCancel,
      runClose, runAbandon, runResume, runStatus, storeStatus, eraseLog, saveConfig,
      parseEmpty_none (ne_of_beq_false hlen)]
  case setEventGroups | selectSource | draftBegin | draftTruncate | getGaugings | readLog | getConfig =>
    simp only [requestBlock, setEventGroups, selectSource, draftBegin, draftTruncate, getGaugings, readLog,
      getConfig, parseByte_none (ne_of_beq_false hlen)]
  case setTime | verticalRemove | getVertical | seekLog =>
    simp only [requestBlock, setTime, verticalRemove, getVertical, seekLog, parseFour_none (ne_of_beq_false hlen)]
  case getRating | pointStart | setPermissions =>
    simp only [requestBlock, getRating, pointStart, setPermissions, parseTwo_none (ne_of_beq_false hlen)]
  case draftSetExtension => simp only [requestBlock, draftSetExtension, parseSigned_none (ne_of_beq_false hlen)]
  case setReference => simp only [requestBlock, setReference, parseReference_none (ne_of_beq_false hlen)]
  case queryDischarge => simp only [requestBlock, queryDischarge, parseQuery_none (ne_of_beq_false hlen)]
  case draftPutShift => simp only [requestBlock, draftPutShift, parseShift_none (ne_of_beq_false hlen)]
  case runOpen => simp only [requestBlock, runOpen, parseRunOpen_none (ne_of_beq_false hlen)]
  case verticalBegin => simp only [requestBlock, verticalBegin, parseVertical_none (ne_of_beq_false hlen)]
  case readJournal => simp only [requestBlock, readJournal, parseJournal_none (ne_of_beq_false hlen)]
  case setConfig => simp only [requestBlock, setConfig, parseConfig_none (ne_of_beq_false hlen)]
  case draftPutPoints p pl =>
    have hwrong : (pl.length % 6 == 1 && decide (7 ≤ pl.length) && decide (pl.length ≤ 121)) = false := hlen
    simp only [Bool.and_eq_false_iff, beq_eq_false_iff_ne, decide_eq_false_iff_not] at hwrong
    simp only [requestBlock, draftPutPoints, parsePutPoints_none (pl := pl) (by omega)]
  case writeIdent p pl b =>
    have hwrong : pl.length ≠ 16 := ne_of_beq_false hlen
    simp [requestBlock, writeIdent, identFits, hwrong]

/-- Settles O16: every block checks the length first, and its answer is the reply. -/
theorem wrongPayloadLengthIsBadArgument : Obligations.WrongPayloadLengthIsBadArgument := by
  intro i r s hi ht hlen
  rw [exec_request hi, State.serve_of_answer ht (requestBlock_badArgument hi hlen _)]

/-! ### The answer of a request that is taken (R168) -/

/-- A block's answer placed at the port keeps a request that is in service or answered. -/
theorem State.finish_slots {p : Port} {code : Byte} {x : State × Option Answer}
    (h : (x.1.port p).servedOrAnswered code) : ((State.finish p x).port p).servedOrAnswered code := by
  obtain ⟨u, a⟩ := x
  cases a with
  | none => exact h
  | some a => exact (u.reply_keeps (but := []) p a) .slots (by simp) p code h

/-- A block that leaves the request in service and answers at once has it answered. -/
theorem State.finish_in_service {p : Port} {code : Byte} {u : State} (a : Answer) (h : (u.port p).request = some code) :
    ((State.finish p (u, some a)).port p).servedOrAnswered code := by
  rw [State.finish_answer u p code a h]
  exact .inl ⟨by simp [State.answered], ⟨a.status, code, a.payload, false⟩, by simp [State.answered], rfl⟩

theorem linkReset_slots {p : Port} {pl : List Byte} {s : State} (h : (s.port p).servedOrAnswered 0x04#8) :
    ((State.finish p (linkReset p pl s)).port p).servedOrAnswered 0x04#8 := by
  unfold linkReset
  split
  · exact State.finish_slots h
  · exact State.finish_in_service _ (by simp [State.reenter, linkResetCode])

theorem State.arrangeReset_ports (s : State) (p : Port) : (s.arrangeReset p).ports = s.ports := by
  unfold State.arrangeReset
  split <;> rfl

theorem stationReset_slots {p : Port} {pl : List Byte} {s : State} (h : (s.port p).servedOrAnswered 0x05#8) :
    ((State.finish p (stationReset p pl s)).port p).servedOrAnswered 0x05#8 := by
  unfold stationReset
  split
  · exact State.finish_slots h
  · simp only [hold, State.finish, State.port, State.arrangeReset_ports]
    exact .inl ⟨by simp [State.replyReset], ⟨.ok, stationResetCode, [], s.resetReq.isNone⟩,
      by simp [State.replyReset], rfl⟩

/-- Settles O17: a block keeps the port's slot in service or answered, and its answer is placed there. -/
theorem takenRequestIsAnsweredOrInService : Obligations.TakenRequestIsAnsweredOrInService := by
  intro i r s t hi ht hexec
  obtain rfl : _ = t := by simpa [exec_request hi, State.serve_taken _ _ _ _ _ ht] using hexec
  have hserved : ((((sampledMaint i s).arrived r.port r.payload).serving r.port r.code).port r.port).servedOrAnswered
      r.code := .inr (by simp)
  have hadmit : (((sampledMaint i s).arrived r.port r.payload).serving r.port r.code).phase = .ready ∨
      r.code = 0x01#8 ∨ r.code = 0x02#8 := by
    obtain ⟨-, -, -, hnone⟩ := (State.takes_iff _ _ _ _).1 ht
    simpa [State.serving] using State.phase_of_admission hnone
  by_cases hslots : Topic.slots ∈ requestTopics i
  · cases i <;> cases hi <;> simp [requestTopics] at hslots
    · exact linkReset_slots hserved
    · exact stationReset_slots hserved
  · exact State.finish_slots (requestBlock_keeps hi _ hadmit .slots hslots _ _ hserved)

end Sys2Proof.Machine
end

section
/-! PROOFS. The links (O18 to O22): bad frames, the raising of events, FETCH, the frames themselves and port C's line. -/

namespace Sys2Proof.Machine

-- one theorem at a time: many elaborated side by side would take a thread and its stack each
set_option Elab.async false

/-! ### Bad frames (R164, R168 to R173) -/

theorem State.clocked_cases (s : State) (p : Port) (n : Nat) : s.clocked p n = if p = .c then s
    else s.setPort p { s.port p with sent := List.replicate n 0xFF#8 } := by
  cases p <;> rfl

theorem State.arrived_cases (s : State) (p : Port) (payload : List Byte) :
    s.arrived p payload = if p = .c then { s with run := s.run.map fun r =>
        if r.active = true ∧ r.silenceStart ≠ none then { r with silenceStart := some s.uptime } else r }
      else s.clocked p (payload.length + 5) := by
  have hheard : (fun r : Run => r.heard s.uptime) = fun r =>
      if r.active = true ∧ r.silenceStart ≠ none then { r with silenceStart := some s.uptime } else r := by
    funext r
    simp [Run.heard, Option.isSome_iff_ne_none]
  cases p with
  | c =>
    rw [State.arrived_eq, hheard]
    rfl
  | l | t => rfl

/-- Settles O18: each bad frame's own branch, after the port's line and the link's watchers. -/
theorem badFramesChangeOnlyTheirPort : Obligations.BadFramesChangeOnlyTheirPort := by
  refine ⟨fun p f s hhears hbad => ?_, fun bytes s hhears hshort => ?_, fun p code payload s hhears hfits hbusy hcode => ?_,
    fun p code payload s hhears hfits hfree hunknown => ?_, fun p n s => s.clocked_cases p n,
    fun p payload s => s.arrived_cases p payload⟩
  · show Host.Outcome.next (s.frameDiscard p f) = _
    simp [State.frameDiscard, hhears, hbad, State.discardFrame]
  · show Host.Outcome.next (s.frameGap bytes) = _
    simp [State.frameGap, hhears, hshort, State.discardFrame]
  · show Host.Outcome.next (s.requestOverrun p code payload) = _
    simp [State.requestOverrun, State.overruns, hhears, hfits, hbusy, hcode, State.dropRequest]
  · show Host.Outcome.next (s.unknownRequest p code payload) = _
    rw [State.unknownRequest, if_pos hunknown, State.serve_refused_served _ _ _ _ _ _ hhears hfits hfree]
    simp [State.admission, hunknown]

/-! ### Raising an event (R180) -/

/-- The entry of a kind counts one more. -/
theorem addEvent_counts {now : Word32} {k : EventKind} {es : List EventEntry} (hdiffer : kindsDiffer es = true)
    {e : EventEntry} (he : e ∈ es) (hk : e.kind = k) :
    { e with count := saturate 255 (e.count + 1) } ∈ addEvent now k es := by
  induction es with
  | nil => cases he
  | cons x rest ih =>
    simp only [kindsDiffer, Bool.and_eq_true, List.all_eq_true, decide_eq_true_eq] at hdiffer
    obtain ⟨hothers, hrest⟩ := hdiffer
    simp only [addEvent]
    rcases List.mem_cons.1 he with rfl | he
    · simp [hk]
    · have hx : x.kind ≠ k := fun h => hothers e he (hk.trans h.symm)
      simp [hx, ih hrest he]

/-- A kind that is not pending joins the set at its end. -/
theorem addEvent_joins {now : Word32} {k : EventKind} {es : List EventEntry} (h : ∀ e ∈ es, e.kind ≠ k) :
    addEvent now k es = es ++ [⟨k, now, 1⟩] := by
  induction es with
  | nil => rfl
  | cons x rest ih =>
    simp only [addEvent, if_neg (h x List.mem_cons_self), List.cons_append,
      ih fun e he => h e (List.mem_cons_of_mem _ he)]

/-- The entries of other kinds stay as they are. -/
theorem mem_addEvent_other {now : Word32} {k : EventKind} {es : List EventEntry} {e : EventEntry} (h : e.kind ≠ k) :
    e ∈ addEvent now k es ↔ e ∈ es := by
  induction es with
  | nil =>
    simp only [addEvent, List.mem_singleton, List.not_mem_nil, iff_false]
    rintro rfl
    exact h rfl
  | cons x rest ih =>
    simp only [addEvent]
    split
    · next hx =>
      have hne (n : Nat) : e ≠ { x with count := n } := fun he => h (he ▸ hx)
      simp [hne]
    · simp [ih]

theorem State.raiseAll_port (s : State) (k : EventKind) (p : Port) (h : s.phase = .ready) :
    (s.raiseAll k).port p = (s.port p).record s.backup.clock k := by
  rw [State.raiseAll_eq s k h]
  cases p <;> rfl

/-- Settles O19: what recording a kind does to a pending set. -/
theorem raisingReachesEveryEnabledPort : Obligations.RaisingReachesEveryEnabledPort := by
  intro s k p hready hset
  rw [State.raiseAll_port s k p hready, PortState.record_eq]
  refine ⟨by rw [State.raiseAll_eq s k hready], rfl, fun hoff => by simp [hoff], fun hon => ?_⟩
  simp only [hon, if_true]
  exact ⟨fun e he hk => addEvent_counts (((PortState.eventsHold_iff _).1 hset).1) he hk, addEvent_joins,
    fun e he => mem_addEvent_other he⟩

/-! ### Frames (R164 to R166) -/

theorem withCrc_eq (bs : List Byte) : withCrc bs =
    bs ++ [BitVec.ofNat 8 (crc16 bs).toNat, BitVec.ofNat 8 ((crc16 bs).toNat / 256)] := rfl

theorem payload_length_byte {payload : List Byte} (h : payload.length ≤ maxPayload) :
    (BitVec.ofNat 8 payload.length).toNat = payload.length := by
  simp only [maxPayload] at h
  simp only [BitVec.toNat_ofNat]
  omega

/-- Bytes that carry a length and end in two CRC bytes are a frame if the CRC is theirs. -/
theorem frameWhole_eq {code : Byte} {payload : List Byte} (h : payload.length ≤ maxPayload) (lo hi : Byte) :
    frameWhole (code :: BitVec.ofNat 8 payload.length :: (payload ++ [lo, hi])) =
      if code :: BitVec.ofNat 8 payload.length :: (payload ++ [lo, hi]) = requestFrame code payload
      then some (code, payload) else none := by
  have htake : (payload ++ [lo, hi]).take payload.length = payload := by simp
  simp only [frameWhole, payload_length_byte h, htake, h, List.length_append, List.length_cons, List.length_nil,
    true_and, requestFrame]
  exact ite_congr_iff Iff.rfl rfl rfl

/-- Settles O21: the frames byte by byte. -/
theorem framesAreBuiltAndReceivedWhole : Obligations.FramesAreBuiltAndReceivedWhole := by
  refine ⟨fun code payload h => ⟨?_, fun lo hi hother => ?_⟩, fun flags r => ⟨_, _, rfl, ?_, ?_⟩⟩
  · have hframe : requestFrame code payload = code :: BitVec.ofNat 8 payload.length :: (payload ++
        le16 (crc16 (code :: BitVec.ofNat 8 payload.length :: payload)).toNat) := rfl
    rw [hframe, show ∀ n, le16 n = [BitVec.ofNat 8 n, BitVec.ofNat 8 (n / 256)] from fun _ => rfl, frameWhole_eq h]
    exact if_pos hframe.symm
  · rw [frameWhole_eq h, if_neg hother]
  · have hlt := (crc16 (flags :: r.status.code :: r.echo :: BitVec.ofNat 8 r.payload.length :: r.payload)).isLt
    simp only [BitVec.toNat_ofNat]
    omega
  · simp [replyFrame, withCrc_eq]

/-! ### FETCH (R165, R167, R171) -/

theorem replyFrame_length (flags : Byte) (r : Reply) : (replyFrame flags r).length = r.payload.length + 6 := by
  simp [replyFrame, withCrc_eq]

/-- Bytes clocked out after the FETCH byte: all of the stream, then fill. -/
theorem State.fetchBytes_long {s : State} {p : Port} {n : Nat} (h : (s.fetchStream p).length ≤ n) :
    s.fetchBytes p n = 0xFF#8 :: s.fetchStream p ++ List.replicate (n - (s.fetchStream p).length) 0xFF#8 := by
  rw [State.fetchBytes, List.take_of_length_le h]

/-- Bytes clocked out after the FETCH byte: the first of the stream. -/
theorem State.fetchBytes_short {s : State} {p : Port} {n : Nat} (h : n ≤ (s.fetchStream p).length) :
    s.fetchBytes p n = 0xFF#8 :: (s.fetchStream p).take n := by
  simp [State.fetchBytes, Nat.sub_eq_zero_of_le h]

/-- The flags byte and the reset that a reply's leaving makes due do not meet. -/
theorem State.replyLeft_flagsSent (s : State) (r : Reply) (p : Port) (n : Nat) :
    (s.replyLeft r).flagsSent p n = (s.flagsSent p n).replyLeft r := by
  unfold State.replyLeft State.flagsSent
  split <;> split <;> rfl

/-- A reply that has not gone out in full stays in the slot. -/
theorem State.takeReply_short {s : State} {p : Port} {n : Nat} (h : n < (s.fetchStream p).length) :
    s.takeReply p n = s := by
  unfold State.takeReply
  split
  · rfl
  · exact if_neg (Nat.not_le.2 h)

/-- Settles O20: FETCH by whether a reply waits, and how much of it goes out. -/
theorem fetchSendsFlagsOrReply : Obligations.FetchSendsFlagsOrReply := by
  intro p n s hrunning hp
  have hspi : p.isSpi = true := by cases p <;> simp_all [Port.isSpi]
  have hexec (n : Nat) : exec (.fetch p n) s =
      .next (((s.setPort p { s.port p with sent := s.fetchBytes p n }).takeReply p n).flagsSent p n) := by
    show Host.Outcome.next (s.fetch p n) = _
    simp [State.fetch, hrunning, hspi]
  refine ⟨fun hnone hn => ?_, fun r hr hlong => ?_, fun r hr hshort hn => ?_, ?_⟩
  · have hstream : s.fetchStream p = [s.portFlags p] := by simp [State.fetchStream, hnone]
    rw [hexec, State.fetchBytes_long (by simp [hstream]; omega), hstream]
    simp [State.takeReply, hnone, State.flagsSent, hn, PortState.reporting, PortState.reported]
  · have hstream : s.fetchStream p = replyFrame (s.portFlags p) r := by simp [State.fetchStream, hr]
    have hn : n ≠ 0 := by
      rw [replyFrame_length] at hlong
      omega
    rw [hexec, State.fetchBytes_long (hstream ▸ hlong), hstream]
    rw [replyFrame_length] at hlong ⊢
    simp only [State.takeReply, State.setPort_port_same, hr, State.fetchStream, replyFrame_length, hlong, if_true]
    rw [State.replyLeft_flagsSent, State.replyLeft_eq]
    simp [State.flagsSent, hn, PortState.reporting, PortState.reported, dueAfter]
  · have hstream : s.fetchStream p = replyFrame (s.portFlags p) r := by simp [State.fetchStream, hr]
    rw [hexec, State.fetchBytes_short (hstream ▸ Nat.le_of_lt hshort), hstream]
    rw [replyFrame_length] at hshort
    simp [State.takeReply, hr, State.fetchStream, replyFrame_length, Nat.not_le.2 hshort, State.flagsSent, hn,
      PortState.reporting, PortState.reported]
  · have hstream (t : State) : 0 < (t.fetchStream p).length := by
      unfold State.fetchStream
      split <;> simp [replyFrame_length]
    rw [hexec, State.fetchBytes_short (Nat.zero_le _), State.takeReply_short (hstream _)]
    simp [State.flagsSent]

/-! ### Port C's line (R172, R174) -/

/-- What runs of itself on an empty queue with nothing due is a tick (log 1). -/
theorem step_tick {s : State} (hempty : s.pending = []) (hnone : s.dueEvent = none) (hfree : s.timeBlocked = false)
    (hon : s.phase ≠ .off) : step s = .next s.counted.lineTicked := by
  simp [step, hempty, idle, hnone, State.rest, hfree, State.tick, hon, State.onTick]

theorem LineC.ticked_sending {x : LineC} {r : Reply} (h : x.tx = some r) :
    x.ticked = { x with txTicks := x.txTicks + 1, charLeft := x.charLeft - 1 } := by
  simp [LineC.ticked, h]

theorem LineC.ticked_idle {x : LineC} (h : x.tx = none) : x.ticked = { x with charLeft := x.charLeft - 1 } := by
  simp [LineC.ticked, h]

/-- A tick brings a reply on the line its flags byte, or takes it out (R167, R174). -/
theorem State.lineTicked_sending {s : State} {r : Reply} (h : s.lineC.tx = some r) :
    s.lineTicked.ports.c = if s.lineC.txTicks = s.lineC.charTicks 1 then
        { s.ports.c with frameAgain := false, overrunAgain := false, sent := 0x7E#8 :: replyFrame (s.portFlags .c) r }
      else if s.lineC.txTicks = s.lineC.charTicks 2 then
        { s.ports.c with frameError := s.ports.c.frameAgain, overrun := s.ports.c.overrunAgain }
      else s.ports.c := by
  simp only [State.lineTicked, h]
  split
  · rfl
  · split <;> rfl

/-- Bit by bit, a byte of flags is the flags. -/
theorem flags_getLsbD (a b c d e : Bool) (i : Nat) :
    (BitVec.ofNat 8 (bitsNat [a, b, c, d, e])).getLsbD i = ([a, b, c, d, e][i]?.getD false) := by
  revert a b c d e
  by_cases hi : i < 8
  · have hcases : i = 0 ∨ i = 1 ∨ i = 2 ∨ i = 3 ∨ i = 4 ∨ i = 5 ∨ i = 6 ∨ i = 7 := by omega
    rcases hcases with rfl | rfl | rfl | rfl | rfl | rfl | rfl | rfl <;> decide
  · intro a b c d e
    rw [BitVec.getLsbD_of_ge _ _ (Nat.not_lt.1 hi), List.getElem?_eq_none (by simp; omega)]
    rfl

theorem State.transmitted_false {s : State} {r : Reply} (hr : s.lineC.tx = some r)
    (hearly : s.lineC.txTicks < s.lineC.charTicks (r.payload.length + 7)) : s.transmitted = false := by
  rw [Bool.eq_false_iff, Ne, State.transmitted_iff]
  rintro ⟨q, hq, hgone⟩
  rw [hr] at hq
  cases hq
  exact absurd hgone (Nat.not_le.2 hearly)

theorem State.transmitted_idle {s : State} (h : s.lineC.tx = none) : s.transmitted = false := by
  simp [State.transmitted, h]

/-- The port flags, bit by bit (R167). -/
theorem State.portFlags_bits (s : State) (p : Port) :
    ((s.portFlags p).getLsbD 0 = true ↔ (s.port p).reply ≠ none ∨ (p = .c ∧ s.lineC.tx ≠ none)) ∧
    ((s.portFlags p).getLsbD 1 = true ↔ (s.port p).request ≠ none) ∧
    (s.portFlags p).getLsbD 2 = (s.port p).frameError ∧ (s.portFlags p).getLsbD 3 = (s.port p).overrun ∧
    (s.phase = .ready → ((s.portFlags p).getLsbD 4 = true ↔ (s.port p).events ≠ [])) ∧
    (∀ i, 5 ≤ i → (s.portFlags p).getLsbD i = false) := by
  simp only [State.portFlags, flags_getLsbD]
  refine ⟨?_, ?_, rfl, rfl, fun hready => ?_, fun i hi => ?_⟩
  · simp [State.replyReady, Option.isSome_iff_ne_none]
  · simp [State.inService, Option.isSome_iff_ne_none]
  · simp [State.attention, hready]
  · rw [List.getElem?_eq_none (by simpa using hi)]
    rfl

/-- Settles O22: the line's events one by one, and the flags bit by bit. -/
theorem portCTransmitsAndLoadsItsDivider : Obligations.PortCTransmitsAndLoadsItsDivider := by
  refine ⟨fun r s hrunning hidle hchar hr => ?_, fun q r s hrunning hq hgone hr => ?_, fun q s hbusy => ?_,
    fun s hempty hnone hfree hon hidle => ?_, fun r s hempty hnone hfree hon hr => ?_, fun p s => ?_, fun n x => rfl,
    fun r s hr => ⟨fun hgone => ?_, fun hearly => ?_⟩, fun s hrunning hrx hidle hchar hr => ?_, fun s hbusy => ?_⟩
  · have hdue : s.transmitDue = true := by
      simp [State.transmitDue, State.lineFree, State.port, Ports.get, hrunning, hidle, hchar, hr]
    show Host.Outcome.next s.transmitStart = _
    rw [State.transmitStart_due s r hdue hr, State.transmitDone_unsent (State.transmitted_idle hidle)]
  · have hdone : s.transmitted = true := s.transmitted_iff.2 ⟨q, hq, hgone⟩
    have hdue : s.transmitDue = true := by
      simp [State.transmitDue, State.lineFree, State.port, Ports.get, hrunning, hdone, hr]
    show Host.Outcome.next s.transmitStart = _
    rw [State.transmitStart_due s r hdue hr, State.transmitDone_gone hq hgone]
    rfl
  · have hbusy : s.lineFree = false := by
      rcases hbusy with ⟨hq, hearly⟩ | ⟨hidle, hchar⟩
      · simp [State.lineFree, State.transmitted_false hq hearly, hq]
      · simp [State.lineFree, State.transmitted_idle hidle, hchar]
    show Host.Outcome.next s.transmitStart = _
    rw [State.transmitStart_idle _ (by simp [State.transmitDue, hbusy])]
  · have hticked : s.counted.lineC.tx = none := by simp [State.counted, LineC.ticked_idle hidle, hidle]
    refine ⟨_, step_tick hempty hnone hfree hon, ?_, ?_⟩
    · rw [State.lineTicked_frame]
      exact LineC.ticked_idle hidle
    · rw [show s.counted.lineTicked = s.counted by simp only [State.lineTicked, hticked]]
      rfl
  · have hticked : s.counted.lineC.tx = some r := by simp [State.counted, LineC.ticked_sending hr, hr]
    refine ⟨_, step_tick hempty hnone hfree hon, ?_, ?_, ?_, ?_⟩
    · rw [State.lineTicked_frame]
      exact LineC.ticked_sending hr
    · rw [State.lineTicked_frame]
      rfl
    · rw [State.lineTicked_frame]
      rfl
    · rw [State.lineTicked_sending hticked]
      simp only [State.counted, LineC.ticked_sending hr]
      rfl
  · exact s.portFlags_bits p
  · show Host.Outcome.next s.transmitDone = _
    rw [State.transmitDone_gone hr hgone]
    rfl
  · show Host.Outcome.next s.transmitDone = _
    rw [State.transmitDone_unsent (State.transmitted_false hr hearly)]
  · show Host.Outcome.next s.dividerLoad = _
    simp [State.dividerLoad, State.lineIdle, State.port, Ports.get, hrunning, hrx, hidle, hchar, hr, State.loadDivider]
  · show Host.Outcome.next s.dividerLoad = _
    simp [State.dividerLoad, hbusy]

end Sys2Proof.Machine
end

section
/-! PROOFS. Requests of the links and those that read (O24, O25): FETCH_EVENTS, SET_EVENT_GROUPS, and the blocks that reply
at once and change nothing. -/

namespace Sys2Proof.Machine

-- one theorem at a time: many elaborated side by side would take a thread and its stack each
set_option Elab.async false

/-! ### Placing an answer -/

/-- A request whose block replaces its port's state but the slots, and answers at once. -/
theorem State.serve_of_port {s : State} {p : Port} {code : Byte} {payload : List Byte}
    {body : State → State × Option Answer} {x : PortState} {a : Answer} (ht : s.takes p code payload = true)
    (hb : body ((s.arrived p payload).serving p code) =
      (((s.arrived p payload).serving p code).setPort p { x with request := some code, reply := none }, some a)) :
    s.serve p code payload body = ((s.arrived p payload).setPort p x).answered p code a.status a.payload := by
  rw [State.serve_taken _ _ _ _ _ ht, hb, State.finish_answer _ _ code _ (by simp)]
  simp [State.answered, State.serving]

/-! ### The fetch order (R182) -/

theorem fetchesBefore_trans {a b c : EventEntry} (hab : fetchesBefore a b = true) (hbc : fetchesBefore b c = true) :
    fetchesBefore a c = true := by
  simp only [fetchesBefore, Bool.or_eq_true, Bool.and_eq_true, decide_eq_true_eq] at hab hbc ⊢
  rcases hab with hab | ⟨hab, hab'⟩ <;> rcases hbc with hbc | ⟨hbc, hbc'⟩
  · exact .inl (Nat.lt_trans hab hbc)
  · exact .inl (hbc ▸ hab)
  · exact .inl (hab ▸ hbc)
  · exact .inr ⟨hab.trans hbc, BitVec.le_trans hab' hbc'⟩

theorem fetchesBefore_total (a b : EventEntry) : fetchesBefore a b = true ∨ fetchesBefore b a = true := by
  simp only [fetchesBefore, Bool.or_eq_true, Bool.and_eq_true, decide_eq_true_eq]
  rcases Nat.lt_trichotomy a.kind.group.bit b.kind.group.bit with h | h | h
  · exact .inl (.inl h)
  · rcases BitVec.le_total a.first b.first with h' | h'
    · exact .inl (.inr ⟨h, h'⟩)
    · exact .inr (.inr ⟨h.symm, h'⟩)
  · exact .inr (.inl h)

theorem insertEvent_perm (e : EventEntry) (es : List EventEntry) : (insertEvent e es).Perm (e :: es) := by
  induction es with
  | nil => exact .refl _
  | cons x rest ih =>
    simp only [insertEvent]
    split
    · exact .refl _
    · exact (ih.cons x).trans (.swap e x rest)

theorem fetchOrder_perm (es : List EventEntry) : (fetchOrder es).Perm es := by
  induction es with
  | nil => exact .refl _
  | cons e rest ih => exact (insertEvent_perm e _).trans (ih.cons e)

theorem insertEvent_sorted {e : EventEntry} {es : List EventEntry} (h : es.Pairwise fun a b => fetchesBefore a b) :
    (insertEvent e es).Pairwise fun a b => fetchesBefore a b := by
  induction es with
  | nil => simp [insertEvent]
  | cons x rest ih =>
    obtain ⟨hx, hrest⟩ := List.pairwise_cons.1 h
    simp only [insertEvent]
    split
    · next hbefore =>
      refine List.pairwise_cons.2 ⟨fun y hy => ?_, h⟩
      rcases List.mem_cons.1 hy with rfl | hy
      · exact hbefore
      · exact fetchesBefore_trans hbefore (hx y hy)
    · next hbehind =>
      refine List.pairwise_cons.2 ⟨fun y hy => ?_, ih hrest⟩
      rcases List.mem_cons.1 ((insertEvent_perm e rest).mem_iff.1 hy) with rfl | hy
      · exact (fetchesBefore_total _ _).resolve_left hbehind
      · exact hx y hy

theorem fetchOrder_sorted (es : List EventEntry) : (fetchOrder es).Pairwise fun a b => fetchesBefore a b := by
  induction es with
  | nil => exact .nil
  | cons e rest ih => exact insertEvent_sorted ih

theorem mem_unfetched {es : List EventEntry} {e : EventEntry} :
    e ∈ unfetched es ↔ e ∈ es ∧ ∀ x ∈ fetched es, x.kind ≠ e.kind := by
  simp [unfetched]

theorem mem_of_mem_fetched {es : List EventEntry} {e : EventEntry} (h : e ∈ fetched es) : e ∈ es :=
  (fetchOrder_perm es).mem_iff.1 (List.mem_of_mem_take h)

theorem not_mem_unfetched {es : List EventEntry} {e : EventEntry} (h : e ∈ fetched es) : e ∉ unfetched es :=
  fun h' => (mem_unfetched.1 h').2 e h rfl

/-- Entries of a set that are of one kind are the same. -/
theorem eq_of_kind_eq {es : List EventEntry} (h : kindsDiffer es = true) {a b : EventEntry} (ha : a ∈ es) (hb : b ∈ es)
    (hk : a.kind = b.kind) : a = b := by
  induction es with
  | nil => cases ha
  | cons x rest ih =>
    simp only [kindsDiffer, Bool.and_eq_true, List.all_eq_true, decide_eq_true_eq] at h
    obtain ⟨hx, hrest⟩ := h
    rcases List.mem_cons.1 ha with hax | ha <;> rcases List.mem_cons.1 hb with hbx | hb
    · exact hax.trans hbx.symm
    · exact absurd (hax ▸ hk.symm) (hx b hb)
    · exact absurd (hbx ▸ hk) (hx a ha)
    · exact ih hrest ha hb

theorem fetched_or_unfetched {es : List EventEntry} (h : kindsDiffer es = true) {e : EventEntry} (he : e ∈ es) :
    e ∈ fetched es ∨ e ∈ unfetched es := by
  by_cases hkind : ∃ x ∈ fetched es, x.kind = e.kind
  · obtain ⟨x, hx, hk⟩ := hkind
    exact .inl (eq_of_kind_eq h (mem_of_mem_fetched hx) he hk ▸ hx)
  · exact .inr (mem_unfetched.2 ⟨he, fun x hx hk => hkind ⟨x, hx, hk⟩⟩)

/-- What is handed out stands before what is left. -/
theorem fetched_before_unfetched {es : List EventEntry} {a b : EventEntry} (ha : a ∈ fetched es)
    (hb : b ∈ unfetched es) : fetchesBefore a b = true := by
  have hlater : b ∈ (fetchOrder es).drop 8 := by
    have hmem : b ∈ (fetchOrder es).take 8 ++ (fetchOrder es).drop 8 := by
      rw [List.take_append_drop]
      exact (fetchOrder_perm es).mem_iff.2 (mem_unfetched.1 hb).1
    exact (List.mem_append.1 hmem).resolve_left fun h => not_mem_unfetched h hb
  have hsorted := fetchOrder_sorted es
  rw [← List.take_append_drop 8 (fetchOrder es)] at hsorted
  exact (List.pairwise_append.1 hsorted).2.2 a ha b hlater

/-- Each group has its bit among the enables. -/
theorem group_bit_setWidth (b : Byte) (g : Group) : (b.setWidth 5).getLsbD g.bit = b.getLsbD g.bit := by
  cases g <;> simp [Group.bit]

theorem exec_fetchEvents (p : Port) (payload : List Byte) (s : State) :
    exec (.fetchEvents p payload) s = .next (s.serve p 0x06#8 payload (fetchEvents p payload)) := rfl

theorem exec_setEventGroups (p : Port) (payload : List Byte) (s : State) :
    exec (.setEventGroups p payload) s = .next (s.serve p 0x07#8 payload (setEventGroups p payload)) := rfl

/-- A frame's arrival leaves the pending set. -/
theorem State.arrived_events (s : State) (p : Port) (payload : List Byte) :
    ((s.arrived p payload).port p).events = (s.port p).events := by
  rw [State.arrived_port_same]
  split <;> rfl

/-- Settles O24: the fetch order is sorted, and the two requests answer in place. -/
theorem eventsAreFetchedAndGroupsSet : Obligations.EventsAreFetchedAndGroupsSet := by
  refine ⟨fun p s ht => ?_, fun es => ⟨?_, (fetchOrder_sorted es).sublist (List.take_sublist _ _),
    fun e => mem_of_mem_fetched, fun h e he => fetched_or_unfetched h he, fun e => not_mem_unfetched,
    List.filter_sublist, fun a ha b hb => fetched_before_unfetched ha hb⟩, fun p b s ht hfive => ?_, fun p b s ht hover => ?_⟩
  · rw [exec_fetchEvents, State.serve_of_port (x := { (s.arrived p []).port p with
      events := unfetched (s.port p).events }) (a := ⟨.ok, eventsPayload (s.port p).events⟩) ht
      (by simp only [fetchEvents, parseEmpty, ok, State.serving_port, State.arrived_events])]
    rfl
  · rw [fetched, List.length_take, (fetchOrder_perm es).length_eq]
  · have hgroups : ¬32 ≤ b.toNat := Nat.not_le.2 hfive
    have henables : BitVec.ofNat 5 b.toNat = b.setWidth 5 := by
      rw [BitVec.ofNat_toNat]
    rw [exec_setEventGroups, State.serve_of_port (x := ((s.arrived p [b]).port p).withEnables (b.setWidth 5))
      (a := ⟨.ok, le8 b.toNat ++ le8 (((s.arrived p [b]).port p).withEnables (b.setWidth 5)).events.length⟩) ht
      (by simp only [setEventGroups, parseByte, hgroups, if_false, henables, ok, State.serving_port]; rfl)]
    simp only [PortState.withEnables, State.arrived_events, group_bit_setWidth]
  · rw [exec_setEventGroups, State.serve_of_answer (a := ⟨.badArgument, []⟩) ht
      (by simp [setEventGroups, parseByte, hover, refuse])]

/-! ### The requests that only read -/

/-- What a block finds as it is reached differs from the state before in the ports and the run alone. -/
theorem State.serving_view (s : State) (p : Port) (payload : List Byte) (code : Byte) :
    ∃ ps, (s.arrived p payload).serving p code = { s with
      ports := ps, run := if p = .c then s.run.map fun r => r.heard s.uptime else s.run } := by
  rw [State.arrived_eq, State.clocked_eq]
  exact ⟨_, rfl⟩

/-- A frame's arrival leaves the cursor and the lost count. -/
theorem State.arrived_cursor (s : State) (p : Port) (payload : List Byte) :
    ((s.arrived p payload).port p).cursor = (s.port p).cursor ∧ ((s.arrived p payload).port p).lost = (s.port p).lost := by
  rw [State.arrived_port_same]
  split <;> exact ⟨rfl, rfl⟩

theorem State.serving_storePayload (s : State) (p : Port) (payload : List Byte) (code : Byte) :
    ((s.arrived p payload).serving p code).storePayload p = s.storePayload p := by
  obtain ⟨hcursor, hlost⟩ := s.arrived_cursor p payload
  have hstore : ((s.arrived p payload).serving p code).store = s.store := by
    obtain ⟨ps, h⟩ := s.serving_view p payload code
    rw [h]
  simp only [State.storePayload, hstore, State.serving_port, hcursor, hlost]

/-- What a frame's arrival leaves of a run's vertical and table. -/
theorem Run.heard_table (r : Run) (now : Nat) : (r.heard now).openVertical = r.openVertical ∧
    (r.heard now).table = r.table := by
  rw [Run.heard_eq]
  exact ⟨rfl, rfl⟩

section
variable {s : State} {p : Port} {code : Byte} {payload : List Byte} {body : State → State × Option Answer}

/-- A block that answers a state it leaves. -/
theorem State.serve_of_read {a : Answer} (ht : s.takes p code payload = true)
    (hb : ∀ ps, body { s with ports := ps, run := if p = .c then s.run.map fun r => r.heard s.uptime else s.run } =
      ({ s with ports := ps, run := if p = .c then s.run.map fun r => r.heard s.uptime else s.run }, some a)) :
    s.serve p code payload body = (s.arrived p payload).answered p code a.status a.payload := by
  obtain ⟨ps, h⟩ := s.serving_view p payload code
  exact State.serve_of_answer ht (h ▸ hb ps)

end

/-- GET_VERTICAL's answer, by the run. -/
def verticalAnswer (run : Option Run) (station : Nat) : Answer :=
  match run with
  | none => ⟨.wrongState, []⟩
  | some r =>
    if station = openStation then
      match r.openVertical with
      | none => ⟨.badArgument, []⟩
      | some o => ⟨.ok, o.bytes⟩
    else
      match r.table.find? fun x => x.station = station with
      | none => ⟨.badArgument, []⟩
      | some x => ⟨.ok, x.bytes⟩

theorem getVertical_eq (s : State) (a b c d : Byte) :
    getVertical [a, b, c, d] s = (s, some (verticalAnswer s.run (u32 a b c d))) := by
  simp only [getVertical, parseFour, verticalAnswer]
  cases s.run with
  | none => rfl
  | some r =>
    by_cases hopen : u32 a b c d = openStation
    · simp only [hopen, if_true]
      cases r.openVertical <;> rfl
    · simp only [hopen, if_false]
      cases r.table.find? fun x => decide (x.station = u32 a b c d) <;> rfl

/-- A frame's arrival leaves what GET_VERTICAL reads of the run. -/
theorem verticalAnswer_heard (run : Option Run) (now station : Nat) :
    verticalAnswer (run.map fun r => r.heard now) station = verticalAnswer run station := by
  cases run with
  | none => rfl
  | some r =>
    obtain ⟨hopen, htable⟩ := r.heard_table now
    simp only [Option.map_some, verticalAnswer, hopen, htable]

/-- GET_VERTICAL replies with the open vertical or one of the table, or refuses. -/
theorem exec_getVertical {s : State} {p : Port} (a b c d : Byte) (ht : s.takes p 0x4A#8 [a, b, c, d] = true) :
    exec (.getVertical p [a, b, c, d]) s = .next ((s.arrived p [a, b, c, d]).answered p 0x4A#8
      (verticalAnswer s.run (u32 a b c d)).status (verticalAnswer s.run (u32 a b c d)).payload) := by
  refine congrArg _ (State.serve_of_read (body := getVertical [a, b, c, d]) ht fun ps => ?_)
  rw [getVertical_eq]
  split
  · rw [verticalAnswer_heard]
  · rfl

/-- Settles O25: each block's reply, which no frame's arrival touches. -/
theorem readsReplyAndChangeNothing : Obligations.ReadsReplyAndChangeNothing := by
  intro p s
  refine ⟨fun ht hknown => ?_, fun ht => ?_, fun c ht hc => ?_, fun ht hnone => ?_, fun ht => ?_, fun ht => ?_, fun ht => ?_,
    fun ht => ?_, fun slot i ht => ?_, fun a b c d ht => ?_, fun i ht => ?_, fun i ht => ?_⟩
  · refine congrArg _ (State.serve_of_read (body := getIdent []) (a := ⟨.ok, s.identPayload⟩) ht fun ps => ?_)
    have hserved : ¬(s.phase = .starting ∧ s.identRead = false) := by
      rintro ⟨hstarting, hunread⟩
      simp [hstarting, hunread] at hknown
    exact if_neg hserved
  · exact congrArg _ (State.serve_of_read (body := getTime []) (a := ⟨.ok, s.timeStatePayload⟩) ht fun _ => rfl)
  · exact congrArg _ (State.serve_of_read (body := getStage []) (a := ⟨.ok, c.bytes⟩) ht fun ps => by
      simp [getStage, parseEmpty, hc, ok])
  · exact congrArg _ (State.serve_of_read (body := getStage []) (a := ⟨.notReady, []⟩) ht fun ps => by
      simp [getStage, parseEmpty, hnone, refuse])
  · exact congrArg _ (State.serve_of_read (body := readSources []) (a := ⟨.ok, s.sourcesPayload⟩) ht fun _ => rfl)
  · exact congrArg _ (State.serve_of_read (body := getWarning []) (a := ⟨.ok, s.warningPayload⟩) ht fun _ => rfl)
  · exact congrArg _ (State.serve_of_answer (body := runStatus [])
      (a := ⟨.ok, (s.arrived p []).runStatusPayload⟩) ht rfl)
  · exact congrArg _ (State.serve_of_answer (body := storeStatus p []) (a := ⟨.ok, s.storePayload p⟩) ht
      (by rw [← s.serving_storePayload p [] 0x52#8]; rfl))
  · cases hview : s.rating.view slot.toNat with
    | none =>
      exact congrArg _ (State.serve_of_read (body := getRating [slot, i]) (a := ⟨.badArgument, []⟩) ht fun ps => by
        simp [getRating, parseTwo, hview, refuse])
    | some v =>
      by_cases hlen : v.set.points.length < i.toNat
      · simp only [hlen, if_true]
        exact congrArg _ (State.serve_of_read (body := getRating [slot, i]) (a := ⟨.badArgument, []⟩) ht fun ps => by
          simp [getRating, parseTwo, hview, hlen, refuse])
      · simp only [hlen, if_false]
        exact congrArg _ (State.serve_of_read (body := getRating [slot, i]) (a := ⟨.ok, v.payload slot.toNat i.toNat⟩) ht
          fun ps => by simp [getRating, parseTwo, hview, hlen, ok])
  · rw [exec_getVertical a b c d ht]
    simp only [verticalAnswer]
    cases s.run with
    | none => rfl
    | some r =>
      by_cases hopen : u32 a b c d = openStation
      · simp only [hopen, if_true]
        cases r.openVertical <;> rfl
      · simp only [hopen, if_false]
        cases r.table.find? fun x => decide (x.station = u32 a b c d) <;> rfl
  · by_cases hlen : s.gaugings.length < i.toNat
    · simp only [hlen, if_true]
      exact congrArg _ (State.serve_of_read (body := getGaugings [i]) (a := ⟨.badArgument, []⟩) ht fun ps => by
        simp [getGaugings, parseByte, hlen, refuse])
    · simp only [hlen, if_false]
      exact congrArg _ (State.serve_of_read (body := getGaugings [i]) (a := ⟨.ok, gaugingsPayload s.gaugings i.toNat⟩) ht
        fun ps => by simp [getGaugings, parseByte, hlen, ok])
  · cases hitem : itemOfCode i.toNat with
    | none =>
      exact congrArg _ (State.serve_of_read (body := getConfig [i]) (a := ⟨.badArgument, []⟩) ht fun ps => by
        simp [getConfig, parseByte, hitem, refuse])
    | some x =>
      exact congrArg _ (State.serve_of_read (body := getConfig [i]) (a := ⟨.ok, s.configPayload x⟩) ht fun ps => by
        simp [getConfig, parseByte, hitem, ok, State.configPayload])

end Sys2Proof.Machine
end

section
/-! PROOFS. The stage sensors and the schedule (O27, O28, O30). -/

namespace Sys2Proof.Machine

-- one theorem at a time: many elaborated side by side would take a thread and its stack each
set_option Elab.async false

/-! ### Arithmetic of the sensors -/

theorem clampInt_eq_max_min {lo hi : Int} (x : Int) (h : lo ≤ hi) : clampInt lo hi x = max lo (min hi x) := by
  unfold clampInt
  split
  · omega
  · split <;> omega

theorem saturate_eq_min (limit n : Nat) : saturate limit n = min limit n := by
  unfold saturate
  split <;> omega

theorem clampStage_eq (x : Int) : clampStage x = max (-9999) (min 29999 x) :=
  clampInt_eq_max_min x (by decide)

theorem Measurement.used_eq (m : Measurement) : m.used = max 400000 (min 6000000 m.freq) := by
  unfold Measurement.used
  split
  · omega
  · split <;> omega

/-- A change of one input is a step of the cycle 00, 10, 11, 01 when the new first input is the negation of the old second,
and the new second the old first (R1). -/
theorem countsUp_iff {a b fa fb : Bool} (h : a ≠ fa ↔ b = fb) : countsUp a b fa fb = true ↔ fa = !b ∧ fb = a := by
  revert h
  cases a <;> cases b <;> cases fa <;> cases fb <;> decide

/-! ### The float channel -/

theorem FloatChannel.quality_outOfRange {f : FloatChannel} (h : f.unclamped < -9999 ∨ 29999 < f.unclamped) :
    f.quality = .outOfRange := if_pos h

/-- Within the stage range the float quality is judged by overtopping, stall, phase errors and origin (R4). -/
theorem FloatChannel.quality_within {f : FloatChannel} (hl : -9999 ≤ f.unclamped) (hu : f.unclamped ≤ 29999) :
    f.quality = if f.floatTop ≤ f.unclamped then .overtopped else if f.stallMark then .stalled
      else if 8 ≤ f.phaseErrors then .suspect else if f.origin = .restored then .restored else .good :=
  if_neg (not_or.2 ⟨Int.not_lt.2 hl, Int.not_lt.2 hu⟩)

/-- The first pair after a reset counts nothing (R1; log 44). -/
theorem FloatChannel.sampled_first {f : FloatChannel} (fa fb : Bool) (h : f.prevPair = none) :
    f.sampled fa fb = { f with prevPair := some (fa, fb) } := by
  simp [FloatChannel.sampled, h]

theorem FloatChannel.sampled_same {f : FloatChannel} {fa fb : Bool} (h : f.prevPair = some (fa, fb)) :
    f.sampled fa fb = f := by
  simp [FloatChannel.sampled, h]

/-- A change of both inputs is a phase error (R2). -/
theorem FloatChannel.sampled_both {f : FloatChannel} {a b fa fb : Bool} (h : f.prevPair = some (a, b)) (ha : a ≠ fa)
    (hb : b ≠ fb) : f.sampled fa fb =
      { f with prevPair := some (fa, fb), phaseErrors := min 255 (f.phaseErrors + 1) } := by
  simp [FloatChannel.sampled, h, ha, hb, saturate_eq_min]

/-- A change of one input counts (R1). -/
theorem FloatChannel.sampled_one {f : FloatChannel} {a b fa fb : Bool} (h : f.prevPair = some (a, b))
    (h1 : a ≠ fa ↔ b = fb) : f.sampled fa fb = { f with
      prevPair := some (fa, fb)
      count := if countsUp a b fa fb then f.count + 1 else f.count - 1
      stallMark := false } := by
  have hn : ¬(a = fa ∧ b = fb) := fun ⟨ha, hb⟩ => h1.2 hb ha
  have hb : ¬(a ≠ fa ∧ b ≠ fb) := fun ⟨ha, hb⟩ => hb (h1.1 ha)
  simp only [FloatChannel.sampled, h, if_neg hn, if_neg hb]

theorem exec_encoder {s : State} (h : s.running = true) (fa fb : Bool) :
    exec (.encoderTransition fa fb) s = .next { s with floatCh := s.floatCh.sampled fa fb } :=
  congrArg Host.Outcome.next (if_pos h)

/-- Settles O27: the float quality is R4's table, and an encoder transition is one of the cases of R1 and R2 by how many
inputs changed. -/
theorem encoderCountsLegalTransitions : Obligations.EncoderCountsLegalTransitions := by
  refine ⟨fun f => ⟨clampStage_eq _, f.quality_outOfRange, fun hl hu => ?_⟩, fun fa fb s h => ?_⟩
  · have hq := FloatChannel.quality_within (f := f) hl hu
    refine ⟨fun ht => hq.trans (if_pos ht), fun ht hm => ?_, fun ht hm hp => ?_, fun ht hm hp => ?_⟩
    · exact hq.trans ((if_neg (Int.not_le.2 ht)).trans (if_pos hm))
    · exact hq.trans ((if_neg (Int.not_le.2 ht)).trans ((if_neg (Bool.eq_false_iff.1 hm)).trans (if_pos hp)))
    · exact hq.trans ((if_neg (Int.not_le.2 ht)).trans ((if_neg (Bool.eq_false_iff.1 hm)).trans
        (if_neg (Nat.not_le.2 hp))))
  · rw [exec_encoder h]
    refine ⟨fun hp => ?_, fun hp => ?_, fun a b hp ha hb => ?_, fun a b hp h1 hu => ?_, fun a b hp h1 hu => ?_⟩
    · rw [FloatChannel.sampled_first fa fb hp]
    · rw [FloatChannel.sampled_same hp]
    · rw [FloatChannel.sampled_both hp ha hb]
    · rw [FloatChannel.sampled_one hp h1, if_pos ((countsUp_iff h1).2 hu)]
    · rw [FloatChannel.sampled_one hp h1, if_neg fun hc => hu ((countsUp_iff h1).1 hc)]

/-! ### The pressure channel -/

/-- The pressure stage before clamping, by the newest measurement (R10). -/
theorem PressureChannel.unclamped_of_newest {c : PressureChannel} {m : Measurement} (h : c.newest = some m) :
    c.unclamped = c.datum + roundHalfAway (c.gaugeFactor *
      (c.zeroReading - ((max 400000 (min 6000000 m.freq) * max 400000 (min 6000000 m.freq) / 1000000 : Nat) : Int)))
      1000000 := by
  simp only [PressureChannel.unclamped, PressureChannel.head, h, Measurement.reading, Measurement.used_eq]

theorem PressureChannel.stage_of_newest {c : PressureChannel} {m : Measurement} (h : c.newest = some m) :
    c.stage = clampStage c.unclamped := by
  simp only [PressureChannel.stage, h]

/-- The pressure quality by the newest measurement: its age, then validity and range (R11). -/
theorem PressureChannel.quality_of_newest {c : PressureChannel} {m : Measurement} (h : c.newest = some m) (now : Nat) :
    c.quality now = if m.completedAt + 2 < now then .noSignal
      else if ¬(400000 ≤ m.freq ∧ m.freq ≤ 6000000) ∨ c.unclamped < -9999 ∨ 29999 < c.unclamped then .outOfRange
      else .good := by
  simp only [PressureChannel.quality, h, Measurement.valid, Bool.and_eq_true, decide_eq_true_eq]
  rfl

theorem PressureChannel.quality_noSignal_iff {c : PressureChannel} {m : Measurement} (h : c.newest = some m) (now : Nat) :
    c.quality now = .noSignal ↔ m.completedAt + 2 < now := by
  rw [PressureChannel.quality_of_newest h]
  split
  · simp [*]
  · split <;> simp [*]

theorem frequencyOf_eq (total : Nat) :
    frequencyOf total = min 4294967295 ((2 * (256 * 10 ^ 10) + total) / (2 * total)) :=
  saturate_eq_min _ _

theorem exec_measurementAbandoned {s : State} (h : s.running = true) :
    exec .measurementAbandoned s = .next { s with pressCh := { s.pressCh with measuring := false } } :=
  congrArg Host.Outcome.next (if_pos h)

theorem exec_measurementComplete {s : State} {total : Nat} (h : s.running = true) (h1 : 1 ≤ total)
    (h2 : total ≤ 16000000) :
    exec (.measurementComplete total) s = .next { s with pressCh := { s.pressCh with
      measuring := true, signalSeen := true
      newest := some ⟨min 4294967295 ((2 * (256 * 10 ^ 10) + total) / (2 * total)), s.uptime⟩ } } := by
  show Host.Outcome.next (s.completeMeasurement total) = _
  have hn : ¬(s.running = false ∨ total = 0) := by simp [h]; omega
  have hl : ¬periodLimit < total := Nat.not_lt.2 h2
  rw [State.completeMeasurement, if_neg hn, if_neg hl]
  rw [frequencyOf_eq]

theorem exec_measurementTooLong {s : State} {total : Nat} (h : s.running = true) (h2 : 16000000 < total) :
    exec (.measurementComplete total) s = exec .measurementAbandoned s := by
  show Host.Outcome.next (s.completeMeasurement total) = .next s.abandonMeasurement
  have hn : ¬(s.running = false ∨ total = 0) := by simp [h]; omega
  have hl : periodLimit < total := h2
  rw [State.completeMeasurement, if_neg hn, if_pos hl]

/-- PRESSURE_NO_SIGNAL with nothing to raise (R12). -/
theorem exec_pressureNoSignal_idle {s : State} (h : s.signalLost = false) : exec .pressureNoSignal s = .next s :=
  congrArg Host.Outcome.next (if_neg (by simp [h]))

/-- Settles O28: stage and quality by the newest measurement, and the events of a measurement by its period total. -/
theorem measurementHoldsItsFrequency : Obligations.MeasurementHoldsItsFrequency := by
  refine ⟨fun c m now hm => ?_, fun c now hm => ⟨by simp [PressureChannel.stage, hm], by simp [PressureChannel.quality, hm]⟩,
    fun total s h h1 h2 => exec_measurementComplete h h1 h2,
    fun total s h h2 => (exec_measurementTooLong h h2).trans (exec_measurementAbandoned h),
    fun s h => exec_measurementAbandoned h, fun m s h hs hm ho => ?_, fun s hs => ?_, fun m s hm hn => ?_⟩
  · have hq := PressureChannel.quality_of_newest hm now
    have hst := PressureChannel.stage_of_newest hm
    rw [PressureChannel.unclamped_of_newest hm] at hq hst
    refine ⟨hst.trans (clampStage_eq _), fun ho => hq.trans (if_pos ho), fun hn hb => ?_, fun hn hv hl hu => ?_⟩
    · exact hq.trans ((if_neg (Nat.not_lt.2 hn)).trans (if_pos hb))
    · refine hq.trans ((if_neg (Nat.not_lt.2 hn)).trans (if_neg ?_))
      rintro (hb | hb | hb)
      · exact hb hv
      · exact absurd hl (Int.not_le.2 hb)
      · exact absurd hu (Int.not_le.2 hb)
  · have hl : s.signalLost = true := by
      simp [State.signalLost, h, hs, (PressureChannel.quality_noSignal_iff hm _).2 ho]
    exact congrArg Host.Outcome.next (if_pos hl)
  · exact exec_pressureNoSignal_idle (by simp [State.signalLost, hs])
  · have hq : s.pressCh.quality s.uptime ≠ .noSignal := fun hq =>
      absurd ((PressureChannel.quality_noSignal_iff hm _).1 hq) (Nat.not_lt.2 hn)
    exact exec_pressureNoSignal_idle (by simp [State.signalLost, hq])

/-! ### The schedule -/

/-- The next multiple is at most every later one (R25). -/
theorem nextMultiple_le {interval t m : Nat} (hi : 1 ≤ interval) (ht : t < m) (hm : interval ∣ m) :
    nextMultiple interval t ≤ m := by
  obtain ⟨k, rfl⟩ := hm
  have hk : t / interval < k := (Nat.div_lt_iff_lt_mul hi).2 (by rwa [Nat.mul_comm])
  calc nextMultiple interval t ≤ k * interval := Nat.mul_le_mul_right _ hk
    _ = interval * k := Nat.mul_comm _ _

theorem lt_nextMultiple {interval t : Nat} (hi : 1 ≤ interval) : t < nextMultiple interval t := by
  have := Nat.div_add_mod t interval
  have := Nat.mod_lt t hi
  rw [nextMultiple, Nat.add_mul, Nat.mul_comm (t / interval)]
  omega

/-- Below 2^32 the next sample time is the next multiple (R25). -/
theorem nextSampleAfter_toNat {interval t : Nat} (h : nextMultiple interval t < 2 ^ 32) :
    (nextSampleAfter interval t).toNat = nextMultiple interval t := by
  rw [nextSampleAfter, if_pos h, BitVec.toNat_ofNat, Nat.mod_eq_of_lt h]

/-- The schedule after a level change is realigned by the new level's interval (R26, R78). -/
theorem State.changeLevel_sched (s : State) (rise : Bool) (new : Level) (t : Word32) (now : Nat) :
    (s.changeLevel rise new t now).sched =
      if nextSampleAfter (s.cfg.intervalOf new) s.backup.clock.toNat < s.sched.nextSample
      then { s.sched with nextSample := nextSampleAfter (s.cfg.intervalOf new) s.backup.clock.toNat }
      else s.sched := by
  simp only [State.changeLevel, State.mapWarn_sched, State.parkAbove]
  have hrealign (u : State) : u.realign.sched = if nextSampleAfter u.interval u.backup.clock.toNat < u.sched.nextSample
      then { u.sched with nextSample := nextSampleAfter u.interval u.backup.clock.toNat } else u.sched :=
    apply_ite State.sched _ (u.setNextSample _) u
  split <;> simp only [State.park_sched, hrealign, State.interval, State.raiseAll_cfg, State.raiseAll_warn,
    State.raiseAll_backup, State.raiseAll_sched] <;> rfl

/-- Settles O30: the next multiple is the smallest later one, and a change of level realigns by it. -/
theorem nextSampleIsTheSmallestLaterMultiple : Obligations.NextSampleIsTheSmallestLaterMultiple := by
  refine ⟨fun interval t m hi ht hm hm' => ?_, fun rise new time now s => ⟨?_, s.changeLevel_sched rise new time now⟩⟩
  · have hle := nextMultiple_le hi ht hm
    rw [nextSampleAfter_toNat (Nat.lt_of_le_of_lt hle hm')]
    exact ⟨Nat.dvd_mul_left _ _, lt_nextMultiple hi, hle⟩
  · exact s.changeLevel_level rise new time now

end Sys2Proof.Machine

end

section
/-! PROOFS. SET_REFERENCE (O29), and the request whose block changes the state and answers at once. -/

namespace Sys2Proof.Machine

-- one theorem at a time: many elaborated side by side would take a thread and its stack each
set_option Elab.async false

/-! ### A block that changes the state and answers -/

/-- A request whose block changes the state, by what does not touch the port's slots, and answers at once. -/
theorem State.serve_of_change {s : State} {p : Port} {code : Byte} {payload : List Byte}
    {body : State → State × Option Answer} (f : State → State) {a : Answer} (ht : s.takes p code payload = true)
    (hb : body ((s.arrived p payload).serving p code) = (f ((s.arrived p payload).serving p code), some a))
    (hf : f ((s.arrived p payload).serving p code) = (f (s.arrived p payload)).serving p code) :
    s.serve p code payload body = (f (s.arrived p payload)).answered p code a.status a.payload := by
  rw [State.serve_taken _ _ _ _ _ ht, hb, hf, State.finish_answer _ _ code _ (by simp), State.serving_answered]

/-- A request whose block changes the state and holds its reply. -/
theorem State.serve_of_hold {s : State} {p : Port} {code : Byte} {payload : List Byte}
    {body : State → State × Option Answer} (f : State → State) (ht : s.takes p code payload = true)
    (hb : body ((s.arrived p payload).serving p code) = (f ((s.arrived p payload).serving p code), none))
    (hf : f ((s.arrived p payload).serving p code) = (f (s.arrived p payload)).serving p code) :
    s.serve p code payload body = (f (s.arrived p payload)).serving p code := by
  rw [State.serve_taken _ _ _ _ _ ht, hb, hf]
  rfl

/-! ### SET_REFERENCE (R15 to R18) -/

/-- Whether a target includes the governing source. -/
theorem State.targetGoverns_iff (s : State) (target : Nat) : s.targetGoverns target = true ↔
    (target.testBit 0 = true ∧ s.sel.current = some .float) ∨
      (target.testBit 1 = true ∧ s.sel.current = some .pressure) := by
  simp [State.targetGoverns]

/-- What an accepted SET_REFERENCE changes. -/
theorem State.setReference_eq (s : State) (staff : Int) (target : Nat) : s.setReference staff target = { s with
    floatCh := if target.testBit 0 then s.floatCh.referenced staff else s.floatCh
    pressCh := if target.testBit 1 then { s.pressCh with datum := staff - s.pressCh.head } else s.pressCh
    cfg := if target.testBit 1 then s.cfg.set .datum (staff - s.pressCh.head) else s.cfg
    window := if s.targetGoverns target then [] else s.window
    run := s.run.map Run.markReference } := by
  have hpurge (u : State) (b : Bool) : u.purgeIf b = { u with window := if b then [] else u.window } := by
    cases b <;> rfl
  have hfloat : s.referenceFloat target staff = { s with
      floatCh := if target.testBit 0 then s.floatCh.referenced staff else s.floatCh } := by
    unfold State.referenceFloat
    split <;> rfl
  have hpress (u : State) : u.referencePressure target staff = { u with
      pressCh := if target.testBit 1 then { u.pressCh with datum := staff - u.pressCh.head } else u.pressCh
      cfg := if target.testBit 1 then u.cfg.set .datum (staff - u.pressCh.head) else u.cfg } := by
    unfold State.referencePressure
    split <;> rfl
  rw [State.setReference, hpurge, hpress, hfloat]
  rfl

/-- A float channel referenced to the staff shows the staff reading. -/
theorem FloatChannel.referenced_stage (f : FloatChannel) {staff : Int} (hlo : -9999 ≤ staff) (hhi : staff ≤ 29999) :
    (f.referenced staff).stage = staff := by
  have hun : (f.referenced staff).unclamped = staff := by
    simp [FloatChannel.unclamped, FloatChannel.difference, FloatChannel.referenced, roundHalfAway, roundHalfUp]
  rw [FloatChannel.stage, hun, clampStage_eq]
  omega

/-- A pressure channel with a measurement, its datum tied to the staff, shows the staff reading. -/
theorem PressureChannel.tied_stage {c : PressureChannel} {m : Measurement} (hm : c.newest = some m) {staff : Int}
    (hlo : -9999 ≤ staff) (hhi : staff ≤ 29999) :
    PressureChannel.stage { c with datum := staff - c.head } = staff := by
  have hun : PressureChannel.unclamped { c with datum := staff - c.head } = staff := Int.sub_add_cancel staff c.head
  rw [PressureChannel.stage_of_newest (c := { c with datum := staff - c.head }) (m := m) hm, hun, clampStage_eq]
  omega

theorem PressureChannel.newest_of_good {c : PressureChannel} {now : Nat} (h : c.quality now = .good) :
    ∃ m, c.newest = some m := by
  cases hm : c.newest with
  | none => simp [PressureChannel.quality, hm] at h
  | some m => exact ⟨m, rfl⟩

section
variable {s : State} {p : Port} {a b t : Byte}

theorem setReference_refused {st : Status} (h : s.referenceCheck (s16 a b) t.toNat = some st) :
    setReference [a, b, t] s = (s, some ⟨st, []⟩) := by
  simp [setReference, parseReference, h, refuse]

theorem setReference_accepted (h : s.referenceCheck (s16 a b) t.toNat = none) : setReference [a, b, t] s =
    (s.setReference (s16 a b) t.toNat,
      some ⟨.ok, (s.setReference (s16 a b) t.toNat).referencePayload t.toNat⟩) := by
  simp [setReference, parseReference, h, ok]

/-- The checks read what a frame's arrival leaves. -/
theorem State.serving_referenceCheck (s : State) (p : Port) (payload : List Byte) (code : Byte) (staff : Int)
    (target : Nat) :
    ((s.arrived p payload).serving p code).referenceCheck staff target = s.referenceCheck staff target := by
  obtain ⟨ps, h⟩ := s.serving_view p payload code
  rw [h]
  rfl

theorem exec_setReference_refused {st : Status} (ht : s.takes p 0x12#8 [a, b, t] = true)
    (h : s.referenceCheck (s16 a b) t.toNat = some st) :
    exec (.setReference p [a, b, t]) s = .next ((s.arrived p [a, b, t]).answered p 0x12#8 st []) :=
  congrArg _ (State.serve_of_answer (body := setReference [a, b, t]) (a := ⟨st, []⟩) ht
    (setReference_refused ((State.serving_referenceCheck ..).trans h)))

theorem exec_setReference_accepted (ht : s.takes p 0x12#8 [a, b, t] = true)
    (h : s.referenceCheck (s16 a b) t.toNat = none) : exec (.setReference p [a, b, t]) s =
      .next (((s.arrived p [a, b, t]).setReference (s16 a b) t.toNat).answered p 0x12#8 .ok
        (((s.arrived p [a, b, t]).setReference (s16 a b) t.toNat).referencePayload t.toNat)) :=
  congrArg _ (State.serve_of_change (body := setReference [a, b, t]) (fun u => u.setReference (s16 a b) t.toNat)
    (a := ⟨.ok, ((s.arrived p [a, b, t]).setReference (s16 a b) t.toNat).referencePayload t.toNat⟩) ht
    ((setReference_accepted ((State.serving_referenceCheck ..).trans h)).trans (by simp only [State.setReference_eq]; rfl))
    (by simp only [State.setReference_eq]; rfl))

end

/-- R15's checks in order. -/
theorem State.referenceCheck_eq (s : State) (staff : Int) (target : Nat) : s.referenceCheck staff target =
    if ¬(1 ≤ target ∧ target ≤ 3 ∧ -9999 ≤ staff ∧ staff ≤ 29999) then some .badArgument
    else if ¬(target.testBit 0 = true → s.floatCh.quality ≠ .outOfRange) then some .wrongState
    else if ¬(target.testBit 1 = true → s.pressCh.quality s.uptime = .good) then some .wrongState
    else if ¬(target.testBit 1 = true → -100000 ≤ staff - s.pressCh.head ∧ staff - s.pressCh.head ≤ 100000)
      then some .badArgument
    else none := by
  have hfits : (target = 0 ∨ 3 < target ∨ inRange stageMin stageMax staff = false) ↔
      ¬(1 ≤ target ∧ target ≤ 3 ∧ -9999 ≤ staff ∧ staff ≤ 29999) := by
    rw [← Bool.not_eq_true, Machine.inRange_iff, stageMin, stageMax]
    omega
  have hdatum : (target.testBit 1 = true ∧ inRange (Item.row .datum).least (Item.row .datum).greatest
      (staff - s.pressCh.head) = false) ↔
      ¬(target.testBit 1 = true → -100000 ≤ staff - s.pressCh.head ∧ staff - s.pressCh.head ≤ 100000) := by
    rw [← Bool.not_eq_true, Machine.inRange_iff, Item.row, Classical.not_imp]
  have hfloat : (target.testBit 0 = true ∧ s.floatCh.quality = .outOfRange) ↔
      ¬(target.testBit 0 = true → s.floatCh.quality ≠ .outOfRange) := by
    simp only [Classical.not_imp, ne_eq, Decidable.not_not]
  unfold State.referenceCheck
  refine ite_congr_iff hfits rfl (ite_congr_iff hfloat rfl (ite_congr_iff Classical.not_imp.symm rfl
    (ite_congr_iff hdatum rfl rfl)))

/-- Settles O29: R15's checks in order, and what an accepted SET_REFERENCE changes, field by field. -/
theorem setReferenceTiesChannelsToTheStaff : Obligations.SetReferenceTiesChannelsToTheStaff := by
  intro p a b t s ht
  have hcheck := s.referenceCheck_eq (s16 a b) t.toNat
  refine ⟨fun h => ?_, fun h h1 => ?_, fun h h1 h2 => ?_, fun h h1 h2 h3 => ?_, fun h h1 h2 h3 => ?_⟩
  · exact exec_setReference_refused ht (hcheck.trans (if_pos h))
  · exact exec_setReference_refused ht (hcheck.trans ((if_neg (not_not_intro h)).trans (if_pos h1)))
  · exact exec_setReference_refused ht (hcheck.trans ((if_neg (not_not_intro h)).trans ((if_neg (not_not_intro h1)).trans
      (if_pos h2))))
  · exact exec_setReference_refused ht (hcheck.trans ((if_neg (not_not_intro h)).trans ((if_neg (not_not_intro h1)).trans
      ((if_neg (not_not_intro h2)).trans (if_pos h3)))))
  · have hnone := hcheck.trans ((if_neg (not_not_intro h)).trans ((if_neg (not_not_intro h1)).trans
      ((if_neg (not_not_intro h2)).trans (if_neg (not_not_intro h3)))))
    obtain ⟨-, -, hlo, hhi⟩ := h
    rw [exec_setReference_accepted ht hnone, State.setReference_eq]
    refine ⟨_, rfl, ?_⟩
    simp only [State.answered_floatCh, State.answered_pressCh, State.answered_cfg, State.answered_window,
      State.answered_run, State.answered_sel, State.answered_warn, State.answered_store, State.answered_rating,
      State.answered_sched, State.answered_backup, State.answered_meter, State.answered_gaugings, State.arrived_floatCh,
      State.arrived_pressCh, State.arrived_cfg, State.arrived_window, State.arrived_sel, State.arrived_warn,
      State.arrived_store, State.arrived_rating, State.arrived_sched, State.arrived_backup, State.arrived_meter,
      State.arrived_gaugings]
    refine ⟨rfl, rfl, rfl, fun hf => ?_, fun hp => ?_, ?_, rfl, ?_, fun q hq => ?_, trivial, trivial, trivial, trivial, trivial, trivial, trivial, trivial⟩
    · have hbit : t.toNat.testBit 0 = true := hf
      rw [if_pos hbit]
      exact FloatChannel.referenced_stage _ hlo hhi
    · have hbit : t.toNat.testBit 1 = true := hp
      obtain ⟨m, hm⟩ := PressureChannel.newest_of_good (h2 hp)
      rw [if_pos hbit]
      exact PressureChannel.tied_stage hm hlo hhi
    · refine ite_congr_iff (((s.arrived p [a, b, t]).targetGoverns_iff t.toNat).trans ?_) rfl rfl
      rw [State.arrived_sel]
      rfl
    · rw [State.answered_port]
      have hhead : PressureChannel.head (if t.toNat.testBit 1 = true then
          { s.pressCh with datum := s16 a b - s.pressCh.head } else s.pressCh) = s.pressCh.head := by
        split <;> rfl
      simp only [State.referencePayload, hhead]
      rfl
    · rw [State.answered_other _ _ _ _ _ _ hq]
      exact State.arrived_port_other _ _ _ _ hq

end Sys2Proof.Machine

end

section
/-! PROOFS. The evaluation of a sample, outcome by outcome (R72 to R80, R83), and what it changes (O43). -/

namespace Sys2Proof.Machine

-- one theorem at a time: many elaborated side by side would take a thread and its stack each
set_option Elab.async false

/-! ### The outcomes of an evaluation -/

/-- The state once a sample with a stage has been seen: items loaded, the stage-lost count and FAULT cleared (R72, R73, R77). -/
def State.sighted (s : State) (c : Level) (clearSince : Option Nat) : State := { s with
  warn := { s.warn with
    items := s.cfg.warnItems, stageLost := 0, fault := false, computed := some c, clearSince := clearSince } }

/-- The state once a sample without a stage has been seen (R72, R77). -/
def State.unsighted (s : State) (fault : Bool) : State := { s with
  warn := { s.warn with
    items := s.cfg.warnItems, clearSince := none, computed := none, stageLost := min 255 (s.warn.stageLost + 1)
    fault := fault } }

/-- Whether this sample without a stage is the one at which the stage is lost (R77). -/
def State.losesStage (s : State) : Bool :=
  decide (s.cfg.get .stageLostSamples ≤ ((min 255 (s.warn.stageLost + 1) : Nat) : Int)) && !s.warn.fault

section
variable {s : State} {x : StageSample}

theorem State.losesStage_iff : s.losesStage = true ↔
    s.cfg.get .stageLostSamples ≤ ((min 255 (s.warn.stageLost + 1) : Nat) : Int) ∧ s.warn.fault = false := by
  simp [State.losesStage]

theorem State.evaluate_absent (h : x.stage = none) : s.evaluate x =
    if s.losesStage then (s.unsighted true).raiseAll .stageLost else s.unsighted s.warn.fault := by
  have hblind : s.loadWarnItems.mapWarn WarningUnit.blind = s.unsighted s.warn.fault := by
    simp only [State.loadWarnItems, State.mapWarn, WarningUnit.blind, State.unsighted, saturate_eq_min]
  have hrule : s.evaluate x = if (s.unsighted s.warn.fault).warn.items.stageLostSamples ≤
        ((s.unsighted s.warn.fault).warn.stageLost : Int) ∧ (s.unsighted s.warn.fault).warn.fault = false
      then ((s.unsighted s.warn.fault).mapWarn fun w => { w with fault := true }).raiseAll .stageLost
      else s.unsighted s.warn.fault := by
    rw [State.evaluate, h, ← hblind]
    rfl
  rw [hrule]
  exact ite_congr_iff State.losesStage_iff.symm rfl rfl

variable {stage : Int} (h : x.stage = some stage)
include h

theorem State.evaluate_rise (hrise : s.warn.level.rank < (s.cfg.warnItems.computed stage x.rate).rank) :
    s.evaluate x = (s.sighted (s.cfg.warnItems.computed stage x.rate) s.warn.clearSince).changeLevel true
      (s.cfg.warnItems.computed stage x.rate) x.time x.uptime := by
  rw [State.evaluate_present h, State.judge]
  exact if_pos hrise

/-- Without a rise the clear condition of the current level is judged, and the hold (R75, R76). -/
theorem State.evaluate_no_rise (hrise : (s.cfg.warnItems.computed stage x.rate).rank ≤ s.warn.level.rank)
    {since : Option Nat} (hsince : (s.sighted (s.cfg.warnItems.computed stage x.rate) s.warn.clearSince).warn.judgedClear
      stage x.rate x.uptime = since) : s.evaluate x =
    if timerDue since (s.cfg.get .holdTime) x.uptime then
      (s.sighted (s.cfg.warnItems.computed stage x.rate) since).changeLevel false
        (s.cfg.warnItems.computed stage x.rate) x.time x.uptime
    else s.sighted (s.cfg.warnItems.computed stage x.rate) since := by
  subst hsince
  rw [State.evaluate_present h, State.judge]
  exact (if_neg (Nat.not_lt.2 hrise)).trans rfl

/-- A clear condition that does not hold leaves the level (R75). -/
theorem State.evaluate_uncleared (hrise : (s.cfg.warnItems.computed stage x.rate).rank ≤ s.warn.level.rank)
    (hclear : ∀ items, s.cfg.warnItems.of s.warn.level = some items → items.clear stage x.rate = false) :
    s.evaluate x = s.sighted (s.cfg.warnItems.computed stage x.rate) none := by
  refine (State.evaluate_no_rise (since := none) h hrise ?_).trans (if_neg (by simp [timerDue]))
  have hfalse : (s.sighted (s.cfg.warnItems.computed stage x.rate) s.warn.clearSince).warn.clearHolds stage x.rate
      = false := by
    simp only [WarningUnit.clearHolds, State.sighted]
    split
    · rfl
    · next items hi => exact hclear items hi
  simp [WarningUnit.judgedClear, hfalse]

/-- A clear condition that holds runs its hold from the first sample on at which it held (R75, R76). -/
theorem State.evaluate_cleared {items : LevelItems}
    (hrise : (s.cfg.warnItems.computed stage x.rate).rank ≤ s.warn.level.rank)
    (hi : s.cfg.warnItems.of s.warn.level = some items) (hclear : items.clear stage x.rate = true) : s.evaluate x =
    if s.cfg.get .holdTime ≤ (x.uptime : Int) - ((s.warn.clearSince.getD x.uptime : Nat) : Int) then
      (s.sighted (s.cfg.warnItems.computed stage x.rate) (some (s.warn.clearSince.getD x.uptime))).changeLevel false
        (s.cfg.warnItems.computed stage x.rate) x.time x.uptime
    else s.sighted (s.cfg.warnItems.computed stage x.rate) (some (s.warn.clearSince.getD x.uptime)) := by
  refine (State.evaluate_no_rise (since := some (s.warn.clearSince.getD x.uptime)) h hrise ?_).trans
    (ite_congr_iff (by simp [timerDue]) rfl rfl)
  have htrue : (s.sighted (s.cfg.warnItems.computed stage x.rate) s.warn.clearSince).warn.clearHolds stage x.rate
      = true := by
    simp only [WarningUnit.clearHolds, State.sighted, hi, hclear]
  rw [WarningUnit.judgedClear, if_pos htrue]
  cases hs : s.warn.clearSince <;> simp [State.sighted]

/-- A sample with a stage is seen, and changes the level or not. -/
theorem State.evaluate_seen : ∃ since, (s.evaluate x = s.sighted (s.cfg.warnItems.computed stage x.rate) since) ∨
    (s.evaluate x = (s.sighted (s.cfg.warnItems.computed stage x.rate) since).changeLevel true
      (s.cfg.warnItems.computed stage x.rate) x.time x.uptime ∧
      s.warn.level.rank < (s.cfg.warnItems.computed stage x.rate).rank) ∨
    (s.evaluate x = (s.sighted (s.cfg.warnItems.computed stage x.rate) since).changeLevel false
      (s.cfg.warnItems.computed stage x.rate) x.time x.uptime ∧
      (s.cfg.warnItems.computed stage x.rate).rank ≤ s.warn.level.rank ∧
      ∃ items, s.cfg.warnItems.of s.warn.level = some items ∧ items.clear stage x.rate = true) := by
  by_cases hrise : s.warn.level.rank < (s.cfg.warnItems.computed stage x.rate).rank
  · exact ⟨_, .inr (.inl ⟨State.evaluate_rise h hrise, hrise⟩)⟩
  · have hle := Nat.not_lt.1 hrise
    by_cases hc : ∃ items, s.cfg.warnItems.of s.warn.level = some items ∧ items.clear stage x.rate = true
    · obtain ⟨items, hi, hclear⟩ := hc
      have he := State.evaluate_cleared h hle hi hclear
      by_cases hd : s.cfg.get .holdTime ≤ (x.uptime : Int) - ((s.warn.clearSince.getD x.uptime : Nat) : Int)
      · exact ⟨_, .inr (.inr ⟨he.trans (if_pos hd), hle, items, hi, hclear⟩)⟩
      · exact ⟨_, .inl (he.trans (if_neg hd))⟩
    · refine ⟨none, .inl (State.evaluate_uncleared h hle fun items hi => ?_)⟩
      exact eq_false_of_ne_true fun hclear => hc ⟨items, hi, hclear⟩

end

/-! ### What a change of level changes -/

theorem WarningUnit.sirenChanged_frame (w : WarningUnit) (rise : Bool) (c : Level) (now : Nat) :
    (w.sirenChanged rise c now).clearSince = w.clearSince ∧ (w.sirenChanged rise c now).lastChange = w.lastChange ∧
      (w.sirenChanged rise c now).stageLost = w.stageLost ∧ (w.sirenChanged rise c now).fault = w.fault := by
  simp only [WarningUnit.sirenChanged, apply_ite WarningUnit.clearSince, apply_ite WarningUnit.lastChange,
    apply_ite WarningUnit.stageLost, apply_ite WarningUnit.fault, ite_self, and_self]

/-- The record of a change (R74, R76, R78). -/
theorem State.changeLevel_record (s : State) (rise : Bool) (c : Level) (t : Word32) (now : Nat) :
    (s.changeLevel rise c t now).warn.clearSince = none ∧
      (s.changeLevel rise c t now).warn.lastChange = some ⟨t, now, s.warn.level⟩ ∧
      (s.changeLevel rise c t now).warn.stageLost = s.warn.stageLost ∧
      (s.changeLevel rise c t now).warn.fault = s.warn.fault := by
  rw [State.changeLevel_warn]
  obtain ⟨hclear, hlast, hlost, hfault⟩ := (s.warn.moved c t now).sirenChanged_frame rise c now
  exact ⟨hclear, hlast, hlost, hfault⟩

@[simp] theorem State.changeLevel_store (s : State) (rise : Bool) (c : Level) (t : Word32) (now : Nat) :
    (s.changeLevel rise c t now).store = s.store := by
  simp only [State.changeLevel, State.mapWarn_store, State.parkAbove]
  split <;> simp

/-- Raisings of another state read no more than phase, clock and ports. -/
theorem State.raiseAll_ports_congr {s t : State} (k : EventKind) (hphase : t.phase = s.phase)
    (hclock : t.backup.clock = s.backup.clock) (hports : t.ports = s.ports) :
    (t.raiseAll k).ports = (s.raiseAll k).ports := by
  by_cases h : s.phase = .ready
  · rw [State.raiseAll_eq _ _ h, State.raiseAll_eq _ _ (hphase.trans h), hclock, hports]
  · rwa [State.raiseAll_before_ready _ _ h, State.raiseAll_before_ready _ _ (hphase ▸ h)]

theorem State.raiseOn_ports_congr {s t : State} (p : Port) (k : EventKind) (hphase : t.phase = s.phase)
    (hclock : t.backup.clock = s.backup.clock) (hports : t.ports = s.ports) :
    (t.raiseOn p k).ports = (s.raiseOn p k).ports := by
  simp only [State.raiseOn, hphase]
  split <;> simp [State.setPort, State.port, hclock, hports]

/-- A change of level that finds no run to park. -/
theorem State.changeLevel_quiet {s : State} {rise : Bool} {c : Level} (t : Word32) (now : Nat)
    (h : rise = true → (∀ r, s.run = some r → r.active = false) ∨ c.rank ≤ s.cfg.runLimitRank) :
    (s.changeLevel rise c t now).run = s.run ∧ (s.changeLevel rise c t now).meter = s.meter ∧
      (s.changeLevel rise c t now).ports = (s.raiseAll .levelChanged).ports := by
  have hpark (u : State) (hrun : u.run = s.run) (hcfg : u.cfg = s.cfg) : u.parkAbove rise c = u := by
    unfold State.parkAbove
    split
    · next hp =>
      simp only [Bool.and_eq_true, decide_eq_true_eq] at hp
      obtain ⟨hr, hl⟩ := hp
      refine u.park_idle _ fun r hr' => ?_
      rcases h hr with hidle | hle
      · simp [Run.parksOn, hidle r (hrun ▸ hr')]
      · rw [hcfg] at hl
        omega
    · rfl
  rw [State.changeLevel, hpark _ (by simp) (by simp)]
  refine ⟨by simp, by simp, ?_⟩
  simp only [State.mapWarn_ports, State.realign_ports]
  exact State.raiseAll_ports_congr _ rfl rfl rfl

/-- A rise above run_limit parks an active run (R79, R94). -/
theorem State.changeLevel_parks {s : State} {r : Run} {c : Level} (t : Word32) (now : Nat) (hr : s.run = some r)
    (ha : r.active = true) (hl : s.cfg.runLimitRank < c.rank) :
    (s.changeLevel true c t now).run = some (r.parked .level s.uptime) ∧
      (s.changeLevel true c t now).meter = s.meter.stopped ∧
      (s.changeLevel true c t now).ports = (((s.raiseAll .levelChanged).raiseAll .runParked).raiseOn .c .recall).ports := by
  have hpark (u : State) (hrun : u.run = s.run) (hcfg : u.cfg = s.cfg) (hup : u.uptime = s.uptime) : u.parkAbove true c =
      ({ u with run := some (r.parked .level s.uptime), meter := u.meter.stopped }.raiseAll .runParked).raiseOn
        .c .recall := by
    have hcond : (true && decide (u.cfg.runLimitRank < c.rank)) = true := by simp [hcfg, hl]
    rw [State.parkAbove, if_pos hcond, u.park_run _ r (hrun.trans hr) (by simp [Run.parksOn, ha]), hup]
  rw [State.changeLevel, hpark _ (by simp) (by simp) (by simp)]
  refine ⟨by simp, by simp, ?_⟩
  rw [State.mapWarn_ports]
  refine State.raiseOn_ports_congr _ _ (by simp) (by simp) (State.raiseAll_ports_congr _ (by simp) (by simp) ?_)
  simp only [State.realign_ports]
  exact State.raiseAll_ports_congr _ rfl rfl rfl

/-! ### The obligation -/

/-- Where run_limit lies below a level above NORMAL, as an item and as a rank. -/
theorem LiveConfig.runLimit_lt_iff (c : LiveConfig) {n : Nat} (h : 0 < n) :
    c.get .runLimit < (n : Int) ↔ c.runLimitRank < n := by
  unfold LiveConfig.runLimitRank
  omega

/-- Settles O43: the outcomes of an evaluation, and what a change of level changes. -/
theorem levelRisesAtOnceAndFallsAfterTheHold : Obligations.LevelRisesAtOnceAndFallsAfterTheHold := by
  refine ⟨fun s x => ⟨fun h => ?_, fun h => ?_⟩, fun s x stage items c h hc => ?_⟩
  · have hloses := s.losesStage_iff
    have he := State.evaluate_absent (s := s) h
    cases hl : s.losesStage with
    | true =>
      obtain ⟨hlost, hfault⟩ := hloses.1 hl
      rw [hl, if_pos rfl] at he
      simp only [he, hlost, hfault]
      refine ⟨by simp; rfl, by simp; rfl, by simp; rfl, by simp; rfl, by simp; rfl, by simp; rfl, by simp; rfl, by simp; rfl, ?_, by simp; rfl, by simp; rfl, by simp; rfl⟩
      simp only [and_self, if_true]
      exact State.raiseAll_ports_congr .stageLost rfl rfl rfl
    | false =>
      have hnot : ¬(_ ∧ _) := fun hc => Bool.false_ne_true (hl.symm.trans (hloses.2 hc))
      rw [hl, if_neg Bool.false_ne_true] at he
      rw [he, if_neg hnot]
      refine ⟨rfl, rfl, rfl, rfl, rfl, rfl, rfl, ?_, rfl, rfl, rfl, rfl⟩
      show s.warn.fault = true ↔ _
      cases hf : s.warn.fault with
      | true => simp
      | false => simpa [hf] using hnot
  · obtain ⟨stage, h⟩ := Option.ne_none_iff_exists'.1 h
    obtain ⟨since, he | ⟨he, -⟩ | ⟨he, -⟩⟩ := State.evaluate_seen (s := s) h
    · rw [he]
      exact ⟨rfl, rfl⟩
    · obtain ⟨-, -, hlost, hfault⟩ := (s.sighted _ since).changeLevel_record true _ x.time x.uptime
      exact ⟨(congrArg (fun u : State => u.warn.stageLost) he).trans hlost,
        (congrArg (fun u : State => u.warn.fault) he).trans hfault⟩
    · obtain ⟨-, -, hlost, hfault⟩ := (s.sighted _ since).changeLevel_record false _ x.time x.uptime
      exact ⟨(congrArg (fun u : State => u.warn.stageLost) he).trans hlost,
        (congrArg (fun u : State => u.warn.fault) he).trans hfault⟩
  · subst hc
    refine ⟨fun hrise => ?_, fun hn hcn => ?_, fun hle hi hclear => ?_, fun hle hi hclear => ?_⟩
    · rw [State.evaluate_rise h hrise]
      obtain ⟨hclear, hlast, -, -⟩ := (s.sighted (s.cfg.warnItems.computed stage x.rate) s.warn.clearSince).changeLevel_record
        true (s.cfg.warnItems.computed stage x.rate) x.time x.uptime
      refine ⟨⟨State.changeLevel_level .., hclear, hlast, State.changeLevel_store .., State.changeLevel_sched ..⟩,
        fun hd => ?_, fun hd hs => ?_, fun r hr ha hl => ?_, fun hq => ?_⟩
      · rw [State.changeLevel_warn]
        simp [WarningUnit.sirenChanged, hd]
      · rw [State.changeLevel_warn]
        simp [WarningUnit.sirenChanged, WarningUnit.moved, State.sighted, hd, hs]
      · obtain ⟨hrun, hmeter, hports⟩ := State.changeLevel_parks
          (s := s.sighted (s.cfg.warnItems.computed stage x.rate) s.warn.clearSince) x.time x.uptime hr ha
          ((s.cfg.runLimit_lt_iff (Nat.zero_lt_of_lt hrise)).1 hl)
        refine ⟨hrun, hmeter, hports.trans ?_⟩
        refine State.raiseOn_ports_congr _ _ (by simp; rfl) (by simp; rfl) (State.raiseAll_ports_congr _ (by simp; rfl) (by simp; rfl) ?_)
        exact State.raiseAll_ports_congr _ rfl rfl rfl
      · obtain ⟨hrun, hmeter, hports⟩ := State.changeLevel_quiet (rise := true)
          (s := s.sighted (s.cfg.warnItems.computed stage x.rate) s.warn.clearSince) x.time x.uptime
          (c := s.cfg.warnItems.computed stage x.rate) fun _ => hq.imp_right fun hle => by
            show _ ≤ s.cfg.runLimitRank
            have := s.cfg.runLimit_lt_iff (Nat.zero_lt_of_lt hrise)
            omega
        exact ⟨hrun, hmeter, hports.trans (State.raiseAll_ports_congr _ rfl rfl rfl)⟩
    · have hrank : (s.cfg.warnItems.computed stage x.rate).rank ≤ s.warn.level.rank :=
        Nat.le_of_eq (congrArg Level.rank (hcn.trans hn.symm))
      rw [State.evaluate_uncleared h hrank fun items hi => by simp [hn, WarnItems.of] at hi]
      exact ⟨⟨rfl, rfl, rfl, rfl, rfl, rfl, rfl, rfl⟩, rfl⟩
    · rw [State.evaluate_uncleared h hle fun items' hi' => Option.some.inj (hi.symm.trans hi') ▸ hclear]
      exact ⟨⟨rfl, rfl, rfl, rfl, rfl, rfl, rfl, rfl⟩, rfl⟩
    · refine ⟨fun hd => ?_, fun hd => ?_⟩
      · rw [State.evaluate_cleared h hle hi hclear, if_neg (Int.not_le.2 hd)]
        exact ⟨⟨rfl, rfl, rfl, rfl, rfl, rfl, rfl, rfl⟩, rfl⟩
      · rw [State.evaluate_cleared h hle hi hclear, if_pos hd]
        generalize hv : s.sighted (s.cfg.warnItems.computed stage x.rate) (some (s.warn.clearSince.getD x.uptime)) = v
        obtain ⟨hclear', hlast, -, -⟩ := v.changeLevel_record false (s.cfg.warnItems.computed stage x.rate) x.time x.uptime
        obtain ⟨hrun, hmeter, hports⟩ := State.changeLevel_quiet (s := v) (rise := false)
          (c := s.cfg.warnItems.computed stage x.rate) x.time x.uptime nofun
        subst hv
        refine ⟨⟨State.changeLevel_level .., hclear', hlast, State.changeLevel_store .., State.changeLevel_sched ..⟩,
          hrun, hmeter, hports.trans (State.raiseAll_ports_congr _ rfl rfl rfl), fun hd hs => ?_⟩
        rw [State.changeLevel_warn]
        simp [WarningUnit.sirenChanged, WarningUnit.moved, State.sighted, hs]

end Sys2Proof.Machine

end

section
/-! PROOFS. A sample, step by step (R35): what it changes and what it leaves. -/

namespace Sys2Proof.Machine

-- one theorem at a time: many elaborated side by side would take a thread and its stack each
set_option Elab.async false

/-! ### Raisings change the ports alone -/

theorem State.raiseAll_view (s : State) (k : EventKind) : ∃ ps, s.raiseAll k = { s with ports := ps } := by
  by_cases h : s.phase = .ready
  · exact ⟨_, State.raiseAll_eq s k h⟩
  · exact ⟨s.ports, State.raiseAll_before_ready s k h⟩

theorem State.park_view (s : State) (x : ParkReason) : ∃ ps m, s.park x = { s with
    run := s.run.map fun r => if r.parksOn x then r.parked x s.uptime else r, meter := m, ports := ps } := by
  cases hr : s.run with
  | none => exact ⟨s.ports, s.meter, by rw [State.park_idle s x (by simp [hr]), Option.map_none, ← hr]⟩
  | some r =>
    by_cases hp : r.parksOn x = true
    · rw [State.park_run s x r hr hp, State.raiseOn_eq]
      obtain ⟨ps, h⟩ := State.raiseAll_view { s with run := some (r.parked x s.uptime), meter := s.meter.stopped } .runParked
      rw [h]
      exact ⟨_, _, by simp only [Option.map_some, hp, if_true]; rfl⟩
    · refine ⟨s.ports, s.meter, (State.park_idle s x (by simpa [hr] using hp)).trans ?_⟩
      rw [Option.map_some, if_neg hp, ← hr]

/-! ### Up to the delivery (R35, steps 1 to 7) -/

/-- What the stall history of a sample's selector is (R34, R36). -/
def State.stallSel (s : State) : Selector :=
  { s.sel.loaded s.cfg with history := joinHistory s.sel.history s.loadChannels.stallEntry }

/-- Whether the sample finds a stall (R36). -/
def State.stallFound (s : State) : Bool :=
  stalled s.stallSel.history s.stallSel.stallSamples.toNat s.stallSel.stallLimit

/-- The float channel once the stall is judged. -/
def State.stallFloat (s : State) : FloatChannel :=
  { s.loadChannels.floatCh with stallMark := s.floatCh.stallMark || s.stallFound }

/-- What the channels hand to a sample (R7, R13). -/
def State.sampleHanded (s : State) : Handed :=
  { floatStage := s.stallFloat.stage, floatQuality := s.stallFloat.quality, pressStage := s.loadChannels.pressCh.stage,
    pressQuality := s.loadChannels.pressCh.quality s.uptime }

/-- The source a sample chooses, and whether at preference 1 of AUTO (R37 to R39). -/
def State.sampleChoice (s : State) : Source × Bool :=
  (s.stallSel.counted s.stallFloat.quality).choice s.sampleHanded

/-- The selector a sample leaves, its newest sample apart (R34 to R41). -/
def State.sampleSel (s : State) : Selector :=
  { ((s.stallSel.counted s.stallFloat.quality).chosen s.sampleChoice).judged s.sampleHanded with
    current := some s.sampleChoice.1 }

/-- Whether a sample switches the source (R41). -/
def State.sampleSwitches (s : State) : Bool := s.sel.switches s.sampleChoice.1

/-- The rise window after a sample (R46, R47). -/
def State.sampleWindow (s : State) : List Rank :=
  match s.sampleHanded.stageOf s.sampleChoice.1 with
  | none => if s.sampleSwitches then [] else s.window
  | some h => offerRank (if s.sampleSwitches then [] else s.window) s.uptime h

/-- A run at a switch of source (R42, R104). -/
def Run.switched (now : Nat) (r : Run) : Run :=
  if r.markSource.parksOn .sourceSwitch then r.markSource.parked .sourceSwitch now else r.markSource

/-- The state as a sample is delivered: R35's steps 1 to 7. -/
def State.governed (s : State) : State :=
  ((((s.sampleLoad.sampleStall.sampleHand.mapSel fun x => x.counted s.sampleHanded.floatQuality).mapSel fun x =>
    x.chosen s.sampleChoice).sampleJudge s.sampleHanded).sampleSwitch s.sampleChoice.1).sampleOffer
    (s.sampleHanded.stageOf s.sampleChoice.1)

theorem State.sampleStall_view (s : State) : ∃ ps, s.sampleLoad.sampleStall =
    { s with sel := s.stallSel, floatCh := s.stallFloat, pressCh := s.loadChannels.pressCh, ports := ps } := by
  have hstall : s.sampleLoad.sampleStall = if s.floatCh.stallMark = false ∧ s.stallFound = true
      then ({ s with sel := s.stallSel, floatCh := { s.loadChannels.floatCh with stallMark := true }
                     pressCh := s.loadChannels.pressCh } : State).raiseAll .floatStalled
      else { s with sel := s.stallSel, floatCh := s.loadChannels.floatCh, pressCh := s.loadChannels.pressCh } := rfl
  rw [hstall]
  split
  · next h =>
    have hf : s.stallFloat = { s.loadChannels.floatCh with stallMark := true } := by simp [State.stallFloat, h]
    rw [hf]
    exact State.raiseAll_view ..
  · next h =>
    have hmark : (s.floatCh.stallMark || s.stallFound) = s.floatCh.stallMark := by
      cases hm : s.floatCh.stallMark <;> simp_all
    have hf : s.stallFloat = s.loadChannels.floatCh := by
      rw [State.stallFloat, hmark]
      rfl
    rw [hf]
    exact ⟨s.ports, rfl⟩

theorem State.sampleStall_handed (s : State) : s.sampleLoad.sampleStall.handed = s.sampleHanded := by
  obtain ⟨ps, h⟩ := s.sampleStall_view
  rw [h]
  rfl

theorem State.sampleHand_view (s : State) : ∃ ps, s.sampleHand =
    { s with floatCh := { s.floatCh with lastHanded := some s.floatCh.quality, phaseErrors := 0 }, ports := ps } := by
  unfold State.sampleHand
  dsimp only
  split
  · exact State.raiseAll_view ..
  · exact ⟨s.ports, rfl⟩

theorem State.sampleJudge_view (s : State) (h : Handed) : ∃ ps, s.sampleJudge h =
    { s with sel := s.sel.judged h, ports := ps } := by
  unfold State.sampleJudge
  dsimp only
  split
  · exact State.raiseAll_view ..
  · exact ⟨s.ports, rfl⟩

theorem State.sampleSwitch_view (s : State) (c : Source) : ∃ ps m, s.sampleSwitch c = { s with
    sel := { s.sel with current := some c }
    window := if s.sel.switches c then [] else s.window
    run := if s.sel.switches c then s.run.map (Run.switched s.uptime) else s.run
    meter := m, ports := ps } := by
  unfold State.sampleSwitch
  dsimp only
  split
  · obtain ⟨ps, hraise⟩ := (s.mapSel fun x => { x with current := some c }).raiseAll_view .sourceSwitched
    obtain ⟨ps', m, hpark⟩ := ((((s.mapSel fun x => { x with current := some c }).raiseAll .sourceSwitched).purgeWindow).mapRun
      Run.markSource).park_view .sourceSwitch
    refine ⟨ps', m, hpark.trans ?_⟩
    rw [hraise]
    simp only [State.purgeWindow, State.mapRun, State.setRun, State.mapSel, Option.map_map]
    rfl
  · exact ⟨s.ports, s.meter, rfl⟩

theorem State.sampleOffer_eq (s : State) (stage : Option Int) : s.sampleOffer stage = { s with
    window := match stage with
      | none => s.window
      | some h => offerRank s.window s.uptime h } := by
  cases stage <;> rfl

/-- The run as a sample is delivered. -/
def State.switchedRun (s : State) : Option Run :=
  if s.sampleSwitches then s.run.map (Run.switched s.uptime) else s.run

/-- The float channel a sample leaves (R2, R7, R36). -/
def State.sampleFloat (s : State) : FloatChannel :=
  { s.stallFloat with lastHanded := some s.stallFloat.quality, phaseErrors := 0 }

theorem Selector.judged_frame (x : Selector) (h : Handed) : (x.judged h).current = x.current ∧
    (x.judged h).away = x.away ∧ (x.judged h).returnCount = x.returnCount ∧ (x.judged h).history = x.history := by
  unfold Selector.judged
  split
  · exact ⟨rfl, rfl, rfl, rfl⟩
  · split <;> exact ⟨rfl, rfl, rfl, rfl⟩

theorem Selector.chosen_frame (x : Selector) (c : Source × Bool) : (x.chosen c).current = x.current ∧
    (x.chosen c).history = x.history := by
  unfold Selector.chosen
  split
  · exact ⟨rfl, rfl⟩
  · split
    · exact ⟨rfl, rfl⟩
    · split <;> exact ⟨rfl, rfl⟩

theorem Selector.counted_frame (x : Selector) (q : Quality) : (x.counted q).current = x.current ∧
    (x.counted q).history = x.history ∧ (x.counted q).mode = x.mode ∧ (x.counted q).away = x.away := by
  unfold Selector.counted
  split <;> exact ⟨rfl, rfl, rfl, rfl⟩

theorem Selector.switches_congr {x y : Selector} (h : x.current = y.current) (c : Source) :
    x.switches c = y.switches c := by
  simp only [Selector.switches, h]

/-- A sample's selector before its choice is in force still knows the source before. -/
theorem State.judgedSel_current (s : State) :
    (((s.stallSel.counted s.sampleHanded.floatQuality).chosen s.sampleChoice).judged s.sampleHanded).current =
      s.sel.current := by
  rw [(Selector.judged_frame ..).1, (Selector.chosen_frame ..).1, (Selector.counted_frame ..).1]
  rfl

/-- What R35's steps 1 to 7 change. -/
theorem State.governed_view (s : State) : ∃ ps m, s.governed = { s with
    sel := s.sampleSel, floatCh := s.sampleFloat, pressCh := s.loadChannels.pressCh, window := s.sampleWindow
    run := s.switchedRun, meter := m, ports := ps } := by
  obtain ⟨ps, hstall⟩ := s.sampleStall_view
  obtain ⟨ps', hhand⟩ := State.sampleHand_view s.sampleLoad.sampleStall
  let u : State := { s with
    sel := (s.stallSel.counted s.sampleHanded.floatQuality).chosen s.sampleChoice, floatCh := s.sampleFloat
    pressCh := s.loadChannels.pressCh, ports := ps' }
  have hu : s.governed = ((u.sampleJudge s.sampleHanded).sampleSwitch s.sampleChoice.1).sampleOffer
      (s.sampleHanded.stageOf s.sampleChoice.1) := by
    rw [State.governed, hhand, hstall]
    rfl
  obtain ⟨ps'', hjudge⟩ := u.sampleJudge_view s.sampleHanded
  obtain ⟨ps3, m, hswitch⟩ := (u.sampleJudge s.sampleHanded).sampleSwitch_view s.sampleChoice.1
  have hsw : (u.sampleJudge s.sampleHanded).sel.switches s.sampleChoice.1 = s.sampleSwitches := by
    rw [hjudge]
    exact Selector.switches_congr s.judgedSel_current _
  rw [hsw, hjudge] at hswitch
  refine ⟨ps3, m, ?_⟩
  rw [hu, hjudge, hswitch, State.sampleOffer_eq]
  unfold State.sampleWindow State.switchedRun
  cases s.sampleHanded.stageOf s.sampleChoice.1 <;> rfl

/-! ### The evaluation, by what it reads and what it changes -/

/-- The warning unit after R74 to R76. -/
def WarningUnit.judgedLevel (w : WarningUnit) (c : Level) (x : StageSample) (stage : Int) : WarningUnit :=
  if w.level.rank < c.rank then (w.moved c x.time x.uptime).sirenChanged true c x.uptime
  else
    let w := { w with clearSince := w.judgedClear stage x.rate x.uptime }
    if w.holdRun x.uptime then (w.moved c x.time x.uptime).sirenChanged false c x.uptime else w

/-- The warning unit after the evaluation of a sample, by the configuration (R72 to R78). -/
def WarningUnit.evaluated (w : WarningUnit) (cfg : LiveConfig) (x : StageSample) : WarningUnit :=
  match x.stage with
  | some stage => ({ w with items := cfg.warnItems }.seen (cfg.warnItems.computed stage x.rate)).judgedLevel
      (cfg.warnItems.computed stage x.rate) x stage
  | none =>
    let v := { w with items := cfg.warnItems }.blind
    if cfg.warnItems.stageLostSamples ≤ (v.stageLost : Int) ∧ v.fault = false then { v with fault := true } else v

theorem State.judge_warn (s : State) (c : Level) (x : StageSample) (stage : Int) :
    (s.judge c x stage).warn = s.warn.judgedLevel c x stage := by
  unfold State.judge WarningUnit.judgedLevel
  split
  · exact State.changeLevel_warn ..
  · dsimp only
    rw [apply_ite State.warn, State.changeLevel_warn]
    rfl

theorem State.evaluate_warn (s : State) (x : StageSample) : (s.evaluate x).warn = s.warn.evaluated s.cfg x := by
  cases h : x.stage with
  | some stage =>
    have he : s.evaluate x = s.loadWarnItems.evaluateStage x stage := by
      rw [State.evaluate, h]
    have hw : s.warn.evaluated s.cfg x = (({ s.warn with items := s.cfg.warnItems }.seen
        (s.cfg.warnItems.computed stage x.rate)).judgedLevel (s.cfg.warnItems.computed stage x.rate) x stage) := by
      rw [WarningUnit.evaluated, h]
    rw [he, hw]
    exact State.judge_warn ..
  | none =>
    have he : s.evaluate x = s.loadWarnItems.evaluateAbsent := by
      rw [State.evaluate, h]
    rw [he, WarningUnit.evaluated, h, State.evaluateAbsent]
    dsimp only
    rw [apply_ite State.warn, State.raiseAll_warn]
    rfl

/-- A run as a level is reached (R79, R94). -/
def State.risePark (s : State) (c : Level) (r : Run) : Run :=
  if s.warn.level.rank < c.rank ∧ s.cfg.runLimitRank < c.rank ∧ r.active = true then r.parked .level s.uptime else r

theorem State.realign_view (s : State) : s.realign = { s with sched := s.realign.sched } := by
  unfold State.realign
  dsimp only
  split <;> rfl

/-- What a change of level changes. -/
theorem State.changeLevel_view (s : State) (rise : Bool) (c : Level) (t : Word32) (now : Nat) : ∃ ps m,
    s.changeLevel rise c t now = { s with
      warn := (s.warn.moved c t now).sirenChanged rise c now
      sched := (s.changeLevel rise c t now).sched
      run := (s.changeLevel rise c t now).run
      meter := m, ports := ps } := by
  obtain ⟨ps, hraise⟩ := (s.mapWarn fun w => w.moved c t now).raiseAll_view .levelChanged
  have hreal := ((s.mapWarn fun w => w.moved c t now).raiseAll .levelChanged).realign_view
  generalize hu : ((s.mapWarn fun w => w.moved c t now).raiseAll .levelChanged).realign = u at hreal
  have hc : s.changeLevel rise c t now = (u.parkAbove rise c).mapWarn fun w => w.sirenChanged rise c now := by
    rw [← hu]
    rfl
  rw [hraise] at hreal
  rw [hc]
  unfold State.parkAbove
  split
  · obtain ⟨ps', m, hpark⟩ := u.park_view .level
    refine ⟨ps', m, ?_⟩
    rw [hpark, hreal]
    rfl
  · refine ⟨ps, s.meter, ?_⟩
    rw [hreal]
    rfl

/-- Within the ranges, a level whose clear condition holds is not the computed one (R73, R75). -/
theorem LiveConfig.computed_ne_of_clear {c : LiveConfig} (h : c.inRange = true) {stage : Int} {rate : Option Int}
    {l : Level} {items : LevelItems} (hi : c.warnItems.of l = some items) (hclear : items.clear stage rate = true) :
    c.warnItems.computed stage rate ≠ l := by
  have hnot (a : Above) (ha : (c.levelItems a).clear stage rate = true) : (c.levelItems a).qualifies stage rate = false := by
    have hhyst : 0 ≤ c.get (.hyst a) := (LiveConfig.get_bounds_of_inRange h (.hyst a)).1
    have hhyst' : (c.levelItems a).hyst = c.get (.hyst a) := rfl
    simp only [LevelItems.clear, Bool.and_eq_true, decide_eq_true_eq, Bool.not_eq_true'] at ha
    simp only [LevelItems.qualifies, ha.2, Bool.or_false, decide_eq_false_iff_not]
    omega
  rw [LiveConfig.warnItems_computed]
  cases l with
  | normal => simp [WarnItems.of] at hi
  | watch =>
    have := hnot .watch ((congrArg (LevelItems.clear · stage rate) (Option.some.inj hi)).trans hclear)
    split
    · nofun
    · split
      · nofun
      · simp [this]
  | warning =>
    have := hnot .warning ((congrArg (LevelItems.clear · stage rate) (Option.some.inj hi)).trans hclear)
    split
    · nofun
    · rw [if_neg (by simp [this])]
      split <;> nofun
  | danger =>
    have := hnot .danger ((congrArg (LevelItems.clear · stage rate) (Option.some.inj hi)).trans hclear)
    rw [if_neg (by simp [this])]
    split
    · nofun
    · split <;> nofun

/-- The schedule realigned to an interval (R26). -/
def Schedule.realigned (x : Schedule) (interval : Nat) (clock : Word32) : Schedule :=
  if nextSampleAfter interval clock.toNat < x.nextSample
  then { x with nextSample := nextSampleAfter interval clock.toNat } else x

/-- What an evaluation changes: the level stays, with schedule and run, or it is changed. -/
theorem State.evaluate_view (s : State) (x : StageSample) : ∃ ps m,
    s.evaluate x = { s with
      warn := s.warn.evaluated s.cfg x
      sched := (s.evaluate x).sched
      run := s.run.map (s.risePark (s.evaluate x).warn.level)
      meter := m, ports := ps } ∧
    (((s.evaluate x).warn.level = s.warn.level ∧ (s.evaluate x).sched = s.sched) ∨
      ((s.cfg.inRange = true → (s.evaluate x).warn.level ≠ s.warn.level) ∧ (s.evaluate x).sched =
        s.sched.realigned (s.cfg.intervalOf (s.evaluate x).warn.level) s.backup.clock)) := by
  have hkept {u : State} (h : u.warn.level = s.warn.level) : s.run.map (s.risePark u.warn.level) = s.run := by
    have : s.risePark u.warn.level = id := by
      funext r
      simp [State.risePark, h]
    rw [this, Option.map_id, id]
  have hwarn := s.evaluate_warn x
  cases hst : x.stage with
  | none =>
    have he := State.evaluate_absent (s := s) hst
    by_cases hl : s.losesStage = true
    · rw [if_pos hl] at he
      obtain ⟨ps, hraise⟩ := (s.unsighted true).raiseAll_view .stageLost
      rw [hraise] at he
      rw [← hwarn, hkept (u := s.evaluate x) (by rw [he]; rfl), he]
      exact ⟨ps, s.meter, rfl, .inl ⟨rfl, rfl⟩⟩
    · rw [if_neg hl] at he
      rw [← hwarn, hkept (u := s.evaluate x) (by rw [he]; rfl), he]
      exact ⟨s.ports, s.meter, rfl, .inl ⟨rfl, rfl⟩⟩
  | some stage =>
    obtain ⟨since, he | ⟨he, hrise⟩ | ⟨he, hle, items, hi, hclear⟩⟩ := State.evaluate_seen (s := s) hst
    · rw [← hwarn, hkept (u := s.evaluate x) (by rw [he]; rfl), he]
      exact ⟨s.ports, s.meter, rfl, .inl ⟨rfl, rfl⟩⟩
    · generalize s.cfg.warnItems.computed stage x.rate = c at he hrise
      obtain ⟨ps, m, hview⟩ := (s.sighted c since).changeLevel_view true c x.time x.uptime
      have hlevel : (s.evaluate x).warn.level = c := by rw [he, State.changeLevel_level]
      have hrun : (s.evaluate x).run = s.run.map (s.risePark c) := by
        rw [he, State.changeLevel_run]
        refine congrArg (fun f => s.run.map f) (funext fun r => ?_)
        exact ite_congr_iff (by simp [hrise, State.sighted]) rfl rfl
      refine ⟨ps, m, ?_, .inr ⟨fun _ h => ?_, ?_⟩⟩
      · rw [hlevel, ← hrun, ← hwarn, he]
        exact hview.trans (by rw [State.changeLevel_warn]; rfl)
      · rw [hlevel] at h
        rw [h] at hrise
        exact Nat.lt_irrefl _ hrise
      · rw [hlevel, he]
        exact State.changeLevel_sched ..
    · have hne : s.cfg.inRange = true → s.cfg.warnItems.computed stage x.rate ≠ s.warn.level := fun h =>
        LiveConfig.computed_ne_of_clear h hi hclear
      generalize s.cfg.warnItems.computed stage x.rate = c at he hle hne
      obtain ⟨ps, m, hview⟩ := (s.sighted c since).changeLevel_view false c x.time x.uptime
      have hlevel : (s.evaluate x).warn.level = c := by rw [he, State.changeLevel_level]
      have hrun : (s.evaluate x).run = s.run.map (s.risePark c) := by
        rw [he, State.changeLevel_run]
        refine congrArg (fun f => s.run.map f) (funext fun r => ?_)
        exact ite_congr_iff (by simp [Nat.not_lt.2 hle]) rfl rfl
      refine ⟨ps, m, ?_, .inr ⟨fun h => hlevel ▸ hne h, ?_⟩⟩
      · rw [hlevel, ← hrun, ← hwarn, he]
        exact hview.trans (by rw [State.changeLevel_warn]; rfl)
      · rw [hlevel, he]
        exact State.changeLevel_sched ..

/-! ### A record enters the buffer (R142, R151) -/

/-- The record memory once a record or mark has entered its buffer, been dropped, or joined the ring. -/
def Store.entered (st : Store) (body : LogBody) : Store :=
  if st.degraded then
    match st.buffer with
    | r :: rest =>
      if bufferLimit ≤ st.buffer.length then { st with
        buffer := rest ++ [⟨st.nextSeq, 0, body⟩], firstSeq := r.seq + 1, nextSeq := st.nextSeq + 1 }
      else { st with buffer := st.buffer ++ [⟨st.nextSeq, 0, body⟩], nextSeq := st.nextSeq + 1 }
    | [] => { st with buffer := [⟨st.nextSeq, 0, body⟩], nextSeq := st.nextSeq + 1 }
  else if st.buffer.length < bufferLimit then { st with
    buffer := st.buffer ++ [⟨st.nextSeq, st.dropped, body⟩], dropped := 0, nextSeq := st.nextSeq + 1 }
  else { st with dropped := saturate 255 (st.dropped + 1) }

theorem State.dragPort_view (s : State) (old new : Word32) (p : Port) : ∃ ps, s.dragPort old new p = { s with ports := ps } := by
  unfold State.dragPort
  split
  · rw [State.raiseOn_eq]
    exact ⟨_, rfl⟩
  · exact ⟨s.ports, rfl⟩

theorem State.advanceFirst_view (s : State) (new : Word32) : ∃ ps, s.advanceFirst new =
    { s with store := { s.store with firstSeq := new }, ports := ps } := by
  unfold State.advanceFirst
  dsimp only
  obtain ⟨ps, hl⟩ := (s.setStore { s.store with firstSeq := new }).dragPort_view s.store.firstSeq new .l
  rw [hl]
  obtain ⟨ps', ht⟩ := ({ s.setStore { s.store with firstSeq := new } with ports := ps } : State).dragPort_view
    s.store.firstSeq new .t
  rw [ht]
  obtain ⟨ps'', hc⟩ := ({ s.setStore { s.store with firstSeq := new } with ports := ps' } : State).dragPort_view
    s.store.firstSeq new .c
  exact ⟨ps'', hc⟩

/-- A full ring loses its oldest record (R151). -/
theorem State.overwriteRing_full {s : State} {r : LogRecord} {rest : List LogRecord} (hb : s.store.buffer = r :: rest)
    (hl : bufferLimit ≤ s.store.buffer.length) :
    s.overwriteRing = (s.setStore { s.store with buffer := rest }).advanceFirst (r.seq + 1) := by
  simp only [State.overwriteRing, hb] at hl ⊢
  exact if_pos hl

theorem State.overwriteRing_room {s : State} (hl : s.store.buffer.length < bufferLimit) : s.overwriteRing = s := by
  unfold State.overwriteRing
  split
  · rfl
  · exact if_neg (Nat.not_le.2 hl)

/-- In DEGRADED a record joins a ring with room (R151). -/
theorem State.enterBuffer_ring {s : State} (body : LogBody) (hd : s.store.degraded = true)
    (hl : s.store.buffer.length < bufferLimit) : s.enterBuffer body = s.setStore { s.store with
      buffer := s.store.buffer ++ [⟨s.store.nextSeq, 0, body⟩], nextSeq := s.store.nextSeq + 1 } := by
  rw [State.enterBuffer, if_pos hd, State.overwriteRing_room hl]
  rfl

theorem State.enterBuffer_view (s : State) (body : LogBody) : ∃ ps, s.enterBuffer body =
    { s with store := s.store.entered body, ports := ps } := by
  unfold Store.entered
  by_cases hd : s.store.degraded = true
  · rw [if_pos hd]
    split
    · next r rest hb =>
      split
      · next hl =>
        obtain ⟨ps, hadv⟩ := (s.setStore { s.store with buffer := rest }).advanceFirst_view (r.seq + 1)
        refine ⟨ps, ?_⟩
        rw [State.enterBuffer, if_pos hd, State.overwriteRing_full hb hl, hadv]
        rfl
      · next hl => exact ⟨s.ports, State.enterBuffer_ring body hd (Nat.not_le.1 hl)⟩
    · next hb =>
      refine ⟨s.ports, (State.enterBuffer_ring body hd (by rw [hb]; decide)).trans ?_⟩
      rw [hb]
      rfl
  · rw [if_neg hd]
    have hd' : s.store.degraded = false := by simpa using hd
    split
    · next hl => exact ⟨s.ports, s.enterBuffer_room body hd' hl⟩
    · next hl => exact ⟨s.ports, s.enterBuffer_full body hd' (Nat.not_lt.1 hl)⟩

/-! ### The delivery (R35, step 8; R44, R109, R141) -/

/-- The stage sample record of a sample (R43). -/
def State.sampleOf (s : State) (extra : Bool) : StageSample :=
  { time := s.backup.clock, uptime := s.uptime, stage := s.sampleHanded.stageOf s.sampleChoice.1
    source := s.sampleChoice.1, floatStage := s.sampleHanded.floatStage, floatQuality := s.sampleHanded.floatQuality
    pressStage := s.sampleHanded.pressStage, pressQuality := s.sampleHanded.pressQuality
    rate := match s.sampleHanded.stageOf s.sampleChoice.1 with
      | none => none
      | some _ => windowRate s.sampleWindow (s.cfg.get .rateWindow) (s.cfg.get .minSpan)
    extra := extra, disagree := s.sampleHanded.bothValid && s.sampleSel.disagree, unset := s.backup.unset }

/-- The sample as it is composed, with its discharge and the verdict it leaves (R44, R141). -/
def State.composedOf (s : State) (extra : Bool) : ComposedSample :=
  s.evaluate (s.sampleOf extra) |>.composed (s.sampleOf extra)
    (s.rateSample (s.sampleOf extra).stage (s.sampleOf extra).time)

/-- A run as a sample reaches it, before or after the level it brings (R79, R109; log 9). -/
def State.weighedRun (s : State) (x : StageSample) (r : Run) : Run :=
  if Config.stageBeforePark s.freeIndex then s.risePark (s.evaluate x).warn.level (r.accumulate x.stage)
  else (s.risePark (s.evaluate x).warn.level r).accumulate x.stage

theorem State.weigh_view (s : State) (x : StageSample) : ∃ u ps m,
    u.warn = s.warn ∧ u.cfg = s.cfg ∧ u.sched = s.sched ∧ u.backup = s.backup ∧
    s.weigh x = { s with
      warn := (s.evaluate x).warn
      sched := (State.evaluate u x).sched
      run := s.run.map (s.weighedRun x)
      meter := m, ports := ps, freeIndex := s.freeIndex + 1 } := by
  unfold State.weigh State.weighedRun
  dsimp only
  split
  · obtain ⟨ps, m, he, -⟩ := (({ s with freeIndex := s.freeIndex + 1 } : State).mapRun fun r => r.accumulate x.stage).evaluate_view x
    refine ⟨({ s with freeIndex := s.freeIndex + 1 } : State).mapRun fun r => r.accumulate x.stage, ps, m, rfl, rfl, rfl, rfl, ?_⟩
    rw [he, State.evaluate_warn, State.evaluate_warn, State.mapRun_run, Option.map_map]
    rfl
  · obtain ⟨ps, m, he, -⟩ := ({ s with freeIndex := s.freeIndex + 1 } : State).evaluate_view x
    refine ⟨{ s with freeIndex := s.freeIndex + 1 }, ps, m, rfl, rfl, rfl, rfl, ?_⟩
    rw [he, State.evaluate_warn, State.evaluate_warn, State.mapRun, State.setRun, Option.map_map]
    rfl

theorem State.governed_sampleRecord (s : State) (extra : Bool) :
    s.governed.sampleRecord s.sampleHanded s.sampleChoice.1 extra = s.sampleOf extra := by
  obtain ⟨ps, m, hg⟩ := s.governed_view
  rw [hg]
  rfl

/-- A sample is R35's steps 1 to 7 and the delivery of its record. -/
theorem State.formSample_eq (s : State) (extra : Bool) :
    s.formSample extra = s.governed.deliver (s.sampleOf extra) := by
  obtain ⟨ps, hstall⟩ := s.sampleStall_view
  obtain ⟨ps', hhand⟩ := State.sampleHand_view s.sampleLoad.sampleStall
  have hsel : s.sampleLoad.sampleStall.sampleHand.sel = s.stallSel := by rw [hhand, hstall]
  have hchoice : (s.sampleLoad.sampleStall.sampleHand.mapSel fun x => x.counted s.sampleHanded.floatQuality).sel.choice
      s.sampleHanded = s.sampleChoice := by
    rw [State.mapSel, hsel]
    rfl
  rw [← State.governed_sampleRecord, State.formSample, State.sampleStall_handed, State.sampleGovern]
  rw [hchoice]
  rfl

/-- What a sample changes. -/
theorem State.formSample_view (s : State) (extra : Bool) : ∃ (u : State) (ps : Ports) (m : MeterCapture),
    u.warn = s.warn ∧ u.cfg = s.cfg ∧ u.sched = s.sched ∧ u.backup = s.backup ∧
    s.formSample extra = { s with
      sel := { s.sampleSel with newest := some (s.composedOf extra) }
      floatCh := s.sampleFloat, pressCh := s.loadChannels.pressCh, window := s.sampleWindow
      warn := (s.evaluate (s.sampleOf extra)).warn
      sched := (u.evaluate (s.sampleOf extra)).sched
      run := s.switchedRun.map (s.weighedRun (s.sampleOf extra))
      store := s.store.entered (.sample (s.composedOf extra))
      meter := m, ports := ps, freeIndex := s.freeIndex + 1 } := by
  obtain ⟨ps, m, hg⟩ := s.governed_view
  obtain ⟨u, ps', m', hwarn, hcfg, hsched, hbackup, hweigh⟩ := s.governed.weigh_view (s.sampleOf extra)
  have hrated : s.governed.rateSample (s.sampleOf extra).stage (s.sampleOf extra).time =
      s.rateSample (s.sampleOf extra).stage (s.sampleOf extra).time := by
    rw [hg]
    rfl
  have heval : (s.governed.evaluate (s.sampleOf extra)).warn = (s.evaluate (s.sampleOf extra)).warn := by
    rw [State.evaluate_warn, State.evaluate_warn, hg]
  have hcomposed : (s.governed.weigh (s.sampleOf extra)).composed (s.sampleOf extra)
      (s.rateSample (s.sampleOf extra).stage (s.sampleOf extra).time) = s.composedOf extra := by
    rw [hweigh, State.composedOf, State.composed, State.composed, heval]
  have hrun : s.governed.weighedRun (s.sampleOf extra) = s.weighedRun (s.sampleOf extra) := by
    funext r
    simp only [State.weighedRun, State.risePark, heval]
    rw [hg]
  obtain ⟨ps'', henter⟩ := ({ s.governed.weigh (s.sampleOf extra) with
    sel := { (s.governed.weigh (s.sampleOf extra)).sel with newest := some (s.composedOf extra) } } : State).enterBuffer_view
    (.sample (s.composedOf extra))
  rw [hg] at hwarn hcfg hsched hbackup
  refine ⟨u, ps'', m', hwarn, hcfg, hsched, hbackup, ?_⟩
  rw [State.formSample_eq, State.deliver, hrated]
  dsimp only
  rw [hcomposed, State.compose, henter, hweigh, heval, hrun, hg]

end Sys2Proof.Machine

end

section
/-! PROOFS. What a sample leaves, and the requests and events that take one (O32, O33). -/

namespace Sys2Proof.Machine

-- one theorem at a time: many elaborated side by side would take a thread and its stack each
set_option Elab.async false

/-! ### The slots through a sample -/

/-- Every port's request and reply stay. -/
def State.SlotsStay (s t : State) : Prop :=
  ∀ p, (t.port p).request = (s.port p).request ∧ (t.port p).reply = (s.port p).reply

namespace State.SlotsStay

theorem of_ports {s t : State} (h : t.ports = s.ports := by rfl) : s.SlotsStay t := fun p => by
  simp only [State.port, h, and_self]

theorem trans {s t u : State} (h : s.SlotsStay t) (h' : t.SlotsStay u) : s.SlotsStay u := fun p =>
  ⟨(h' p).1.trans (h p).1, (h' p).2.trans (h p).2⟩

theorem ite {c : Prop} [Decidable c] {s t u : State} (ht : s.SlotsStay t) (hu : s.SlotsStay u) :
    s.SlotsStay (if c then t else u) := by
  split
  · exact ht
  · exact hu

theorem of_setPort {s : State} {p : Port} {x : PortState} (hq : x.request = (s.port p).request)
    (hr : x.reply = (s.port p).reply) : s.SlotsStay (s.setPort p x) := fun q => by
  rw [State.port_setPort]
  split
  · next h => exact h ▸ ⟨hq, hr⟩
  · exact ⟨rfl, rfl⟩

end State.SlotsStay

section
variable (s : State)

theorem State.raiseOn_slots (p : Port) (k : EventKind) : s.SlotsStay (s.raiseOn p k) := by
  unfold State.raiseOn
  refine .ite (.of_setPort ?_ ?_) .of_ports <;> simp only [PortState.record_eq]

theorem State.raiseAll_slots (k : EventKind) : s.SlotsStay (s.raiseAll k) :=
  ((s.raiseOn_slots _ k).trans (State.raiseOn_slots _ _ k)).trans (State.raiseOn_slots _ _ k)

theorem State.park_slots (x : ParkReason) : s.SlotsStay (s.park x) := by
  unfold State.park
  split
  · exact .of_ports
  · refine .ite (.trans (.trans (t := { s with run := some (Run.parked _ x s.uptime), meter := s.meter.stopped }) .of_ports
      (State.raiseAll_slots _ _)) (State.raiseOn_slots _ _ _)) .of_ports

theorem State.changeLevel_slots (rise : Bool) (c : Level) (t : Word32) (now : Nat) :
    s.SlotsStay (s.changeLevel rise c t now) := by
  have hraise : s.SlotsStay (((s.mapWarn fun w => w.moved c t now).raiseAll .levelChanged).realign) :=
    .trans (.trans .of_ports (State.raiseAll_slots _ _)) (.of_ports (State.realign_ports _))
  unfold State.changeLevel State.parkAbove
  exact hraise.trans (.trans (.ite (State.park_slots _ _) .of_ports) .of_ports)

theorem State.evaluate_slots (x : StageSample) : s.SlotsStay (s.evaluate x) := by
  cases h : x.stage with
  | none =>
    rw [State.evaluate_absent h]
    exact .ite (.trans (t := s.unsighted true) .of_ports (State.raiseAll_slots _ _)) .of_ports
  | some stage =>
    obtain ⟨since, he | ⟨he, -⟩ | ⟨he, -⟩⟩ := State.evaluate_seen (s := s) h
    · rw [he]
      exact .of_ports
    all_goals
      rw [he]
      exact .trans (t := s.sighted (s.cfg.warnItems.computed stage x.rate) since) .of_ports
        (State.changeLevel_slots _ _ _ _ _)

theorem State.dragPort_slots (old new : Word32) (p : Port) : s.SlotsStay (s.dragPort old new p) := by
  unfold State.dragPort
  refine .ite (.trans (.of_setPort ?_ ?_) (State.raiseOn_slots _ _ _)) .of_ports <;> rfl

theorem State.enterBuffer_slots (body : LogBody) : s.SlotsStay (s.enterBuffer body) := by
  have hring : s.SlotsStay s.overwriteRing := by
    unfold State.overwriteRing
    split
    · exact .of_ports
    · next r rest _ =>
      refine .ite (.trans (t := (s.setStore { s.store with buffer := rest }).setStore
        { s.store with buffer := rest, firstSeq := r.seq + 1 }) .of_ports ?_) .of_ports
      exact ((State.dragPort_slots _ _ _ _).trans (State.dragPort_slots _ _ _ _)).trans (State.dragPort_slots _ _ _ _)
  unfold State.enterBuffer
  exact .ite (hring.trans .of_ports) (.ite .of_ports .of_ports)

theorem State.deliver_slots (x : StageSample) : s.SlotsStay (s.deliver x) := by
  have hweigh : s.SlotsStay (s.weigh x) := by
    unfold State.weigh
    exact .ite (.trans (t := ({ s with freeIndex := s.freeIndex + 1 } : State).mapRun fun r => r.accumulate x.stage)
      .of_ports (State.evaluate_slots _ x))
      (.trans (.trans (t := { s with freeIndex := s.freeIndex + 1 }) .of_ports (State.evaluate_slots _ x)) .of_ports)
  exact hweigh.trans (.trans (.of_ports) (State.enterBuffer_slots
    { s.weigh x with sel := { (s.weigh x).sel with newest := some _ } } _))

theorem State.formSample_slots (extra : Bool) : s.SlotsStay (s.formSample extra) := by
  have hstall (u : State) : u.SlotsStay u.sampleStall := by
    unfold State.sampleStall
    exact .ite (.trans .of_ports (State.raiseAll_slots _ _)) .of_ports
  have hhand (u : State) : u.SlotsStay u.sampleHand := by
    unfold State.sampleHand
    exact .ite (.trans .of_ports (State.raiseAll_slots _ _)) .of_ports
  have hjudge (u : State) (h : Handed) : u.SlotsStay (u.sampleJudge h) := by
    unfold State.sampleJudge
    exact .ite (.trans .of_ports (State.raiseAll_slots _ _)) .of_ports
  have hswitch (u : State) (c : Source) : u.SlotsStay (u.sampleSwitch c) := by
    unfold State.sampleSwitch
    exact .ite (.trans (.trans (.trans (t := u.mapSel fun x => { x with current := some c }) .of_ports
      (State.raiseAll_slots _ _)) .of_ports) (State.park_slots _ _)) .of_ports
  have hoffer (u : State) (st : Option Int) : u.SlotsStay (u.sampleOffer st) :=
    .of_ports (by rw [State.sampleOffer_eq])
  unfold State.formSample State.sampleGovern
  refine .trans (.trans (.trans (t := s.sampleLoad) .of_ports (hstall _)) (hhand _)) ?_
  refine .trans (.trans (.trans (.trans .of_ports (hjudge _ _)) (hswitch _ _)) (hoffer _ _)) (State.deliver_slots _ _)

end

/-! ### The schedule through a sample -/

/-- The schedule after a sample: left where the level stays, realigned to the interval of a new one (R26, R78). -/
theorem State.formSample_sched (s : State) (extra : Bool) :
    ((s.formSample extra).warn.level = s.warn.level ∧ (s.formSample extra).sched = s.sched) ∨
      ((s.cfg.inRange = true → (s.formSample extra).warn.level ≠ s.warn.level) ∧ (s.formSample extra).sched =
        s.sched.realigned (s.cfg.intervalOf (s.formSample extra).warn.level) s.backup.clock) := by
  obtain ⟨u, ps, m, hwarn, hcfg, hsched, hbackup, hview⟩ := s.formSample_view extra
  obtain ⟨-, -, -, hcases⟩ := u.evaluate_view (s.sampleOf extra)
  have hlevel : (u.evaluate (s.sampleOf extra)).warn = (s.formSample extra).warn := by
    rw [hview, State.evaluate_warn, State.evaluate_warn, hwarn, hcfg]
  have hs : (u.evaluate (s.sampleOf extra)).sched = (s.formSample extra).sched := by rw [hview]
  rwa [hlevel, hs, hwarn, hcfg, hsched, hbackup] at hcases

/-- A realigned schedule keeps the times of the newest sample. -/
theorem Schedule.realigned_frame (x : Schedule) (interval : Nat) (clock : Word32) :
    (x.realigned interval clock).lastSample = x.lastSample ∧ (x.realigned interval clock).lastUptime = x.lastUptime ∧
      (x.realigned interval clock).nextSample = if nextSampleAfter interval clock.toNat < x.nextSample
        then nextSampleAfter interval clock.toNat else x.nextSample := by
  unfold Schedule.realigned
  split <;> exact ⟨rfl, rfl, rfl⟩

/-- The next sample time is never the second it follows (R25). -/
theorem nextSampleAfter_ne {interval : Nat} (hi : 1 ≤ interval) (clock : Word32) :
    nextSampleAfter interval clock.toNat ≠ clock := by
  intro h
  by_cases hlt : nextMultiple interval clock.toNat < 2 ^ 32
  · have hnext := nextSampleAfter_toNat hlt
    have := lt_nextMultiple (t := clock.toNat) hi
    rw [h] at hnext
    omega
  · rw [nextSampleAfter, if_neg hlt] at h
    unfold sampleTimeAtWrap at h
    rw [BitVec.ofNat_toNat, BitVec.setWidth_eq] at h
    split at h
    · have hone := congrArg BitVec.toNat h
      rw [BitVec.toNat_ofNat] at hone
      omega
    · next hne => exact hne h

/-- Within the ranges an interval is of 10 s at least (R24). -/
theorem LiveConfig.one_le_intervalOf {c : LiveConfig} (h : c.inRange = true) (l : Level) : 1 ≤ c.intervalOf l := by
  have hb : 10 ≤ c.get (.interval l) := (LiveConfig.get_bounds_of_inRange h (.interval l)).1
  unfold LiveConfig.intervalOf
  omega

/-- Within the ranges no sample falls due at a second that has had one (R25). -/
theorem State.formSample_not_due {s : State} {extra : Bool} (h : s.cfg.inRange = true)
    (hnext : s.sched.nextSample ≠ s.backup.clock) : (s.formSample extra).sampleDue = false := by
  have hclock : (s.formSample extra).backup.clock = s.backup.clock := by
    obtain ⟨u, ps, m, -, -, -, -, hview⟩ := s.formSample_view extra
    rw [hview]
  have hne : (s.formSample extra).sched.nextSample ≠ s.backup.clock := by
    rcases s.formSample_sched extra with ⟨-, hs⟩ | ⟨-, hs⟩
    · rw [hs]
      exact hnext
    · rw [hs, (Schedule.realigned_frame ..).2.2]
      split
      · exact nextSampleAfter_ne (LiveConfig.one_le_intervalOf h _) _
      · exact hnext
  simp [State.sampleDue, hclock, hne.symm]

/-- The state as a scheduled sample is formed: its schedule moved on (R25). -/
def State.firing (s : State) : State :=
  (s.setNextSample (nextSampleAfter s.interval s.backup.clock.toNat)).sampleTaken

theorem State.scheduledSample_due {s : State} (h : s.sampleDue = true) :
    s.scheduledSample = s.firing.formSample false := if_pos h

theorem State.scheduledSample_idle {s : State} (h : s.sampleDue = false) : s.scheduledSample = s :=
  if_neg (by simp [h])

theorem State.scheduledSample_not_due {s : State} (h : s.configHolds = true) (hdue : s.sampleDue = true) :
    s.scheduledSample.sampleDue = false := by
  have hr : s.cfg.inRange = true := by
    simp only [State.configHolds, Bool.and_eq_true] at h
    exact h.1.1
  rw [State.scheduledSample_due hdue]
  exact State.formSample_not_due hr (nextSampleAfter_ne (LiveConfig.one_le_intervalOf hr _) _)

/-! ### The station clock -/

theorem State.clockCounts_iff (s : State) :
    s.clockCounts = true ↔ (s.phase ≠ .off ∨ s.backup.valid = true) ∧ s.backup.held = false := by
  simp only [State.clockCounts, Bool.and_eq_true, Bool.not_eq_true', Bool.and_eq_false_iff, decide_eq_false_iff_not,
    Bool.not_eq_false']

theorem exec_stationClockAdvance {s : State} (h : s.sampleDue = false) :
    exec .stationClockAdvance s = .next s.advanceClock := by
  show Host.Outcome.next s.scheduledSample.advanceClock = _
  rw [State.scheduledSample_idle h]

theorem State.advanceClock_powered {s : State} (h : s.phase ≠ .off ∨ s.backup.valid = true) :
    s.advanceClock = { s with backup := s.backup.advanced } :=
  if_neg fun ⟨hoff, hinvalid⟩ => h.elim (fun h => h hoff) fun h => by simp [hinvalid] at h

/-- Settles O32: the clock's conditions, and the sample that fires before an advance leaves none due. -/
theorem stationClockAdvances : Obligations.StationClockAdvances := by
  refine ⟨fun s hheld hpower => ⟨?_, ?_, fun hdue => ⟨s.backup.subSecond - s.backup.second, ?_, fun h => ?_, fun h => ?_⟩⟩,
    fun s h => ?_, fun s hdue hheld hon => ?_, fun s hoff hlost => ?_, fun s hcfg hdue => ?_, fun s hoff => ?_,
    fun s hon => ?_⟩
  · have hcounts := s.clockCounts_iff.2 ⟨hpower, hheld⟩
    simp only [State.clockDue, hcounts, Bool.true_and, decide_eq_true_eq]
    rfl
  · exact if_pos (s.clockCounts_iff.2 ⟨hpower, hheld⟩)
  · rw [exec_stationClockAdvance hdue, State.advanceClock_powered hpower]
    simp [BackupDomain.advanced, hheld]
  · exact Nat.sub_add_cancel h
  · exact Nat.sub_eq_zero_of_le (Nat.le_of_lt h)
  · have hcounts : s.clockCounts = false := by
      refine eq_false_of_ne_true fun hc => ?_
      obtain ⟨hpower, hheld⟩ := s.clockCounts_iff.1 hc
      rcases h with h | ⟨hoff, hlost⟩
      · simp [h] at hheld
      · simp [hoff, hlost] at hpower
    simp [State.clockDue, State.phaseTicked, hcounts]
  · rw [exec_stationClockAdvance hdue, State.advanceClock_powered (.inl hon)]
    simp [BackupDomain.advanced, hheld]
  · have hdue : s.sampleDue = false := by simp [State.sampleDue, State.scheduleRuns, hoff]
    rw [exec_stationClockAdvance hdue, State.advanceClock, if_pos ⟨hoff, hlost⟩]
  · refine ⟨s.scheduledSample, rfl, ?_⟩
    rw [exec_stationClockAdvance (State.scheduledSample_not_due hcfg hdue)]
    rfl
  · exact congrArg Host.Outcome.next (if_pos hoff)
  · exact congrArg Host.Outcome.next (if_neg hon)

/-! ### What a sample leaves (R44, R109) -/

theorem Run.accumulate_none (r : Run) : r.accumulate none = r := rfl

theorem Run.accumulate_idle {r : Run} (h : r.active = false) (stage : Option Int) : r.accumulate stage = r := by
  cases stage with
  | none => rfl
  | some x => simp [Run.accumulate, h]

theorem Run.accumulate_joins {r : Run} (h : r.active = true) (x : Int) : r.joinsStage (r.accumulate (some x)) x := by
  simp only [Run.accumulate, h, if_true, Run.joinsStage]
  refine ⟨trivial, trivial, fun hz => ⟨if_pos (.inl hz), if_pos (.inl hz)⟩, fun hz => ⟨?_, ?_⟩⟩
  · simp only [hz, false_or]
    split <;> omega
  · simp only [hz, false_or]
    split <;> omega

theorem Run.accumulate_active (r : Run) (stage : Option Int) : (r.accumulate stage).active = r.active := by
  simp only [Run.active, (r.accumulate_kept stage).2.2.2]

theorem Run.accumulate_frame (r : Run) (stage : Option Int) : (r.accumulate stage).id = r.id ∧
    (r.accumulate stage).table = r.table ∧ (r.accumulate stage).sourceChanged = r.sourceChanged := by
  unfold Run.accumulate
  split
  · exact ⟨rfl, rfl, rfl⟩
  · split <;> exact ⟨rfl, rfl, rfl⟩

section
variable {s : State} {r : Run}

/-- Whether a level rises, and above run_limit (R79). -/
def State.risesAbove (s : State) (c : Level) : Prop :=
  s.warn.level.rank < c.rank ∧ s.cfg.get .runLimit < (c.rank : Int)

theorem State.risePark_eq (s : State) (c : Level) (r : Run) (hr : s.risesAbove c) (ha : r.active = true) :
    s.risePark c r = r.parked .level s.uptime :=
  if_pos ⟨hr.1, (s.cfg.runLimit_lt_iff (Nat.zero_lt_of_lt hr.1)).1 hr.2, ha⟩

theorem State.risePark_not (s : State) (c : Level) (r : Run) (hr : ¬s.risesAbove c) : s.risePark c r = r :=
  if_neg fun ⟨h, hl, _⟩ => hr ⟨h, (s.cfg.runLimit_lt_iff (Nat.zero_lt_of_lt h)).2 hl⟩

theorem State.risePark_idle (s : State) (c : Level) (h : r.active = false) : s.risePark c r = r :=
  if_neg fun ⟨_, _, ha⟩ => by simp [h] at ha

theorem State.weighedRun_idle (x : StageSample) (h : r.active = false) : s.weighedRun x r = r := by
  unfold State.weighedRun
  rw [Run.accumulate_idle h, State.risePark_idle _ _ h, Run.accumulate_idle h, ite_self]

/-- An active run without a park takes the stage. -/
theorem State.weighedRun_stays (x : StageSample) (hr : ¬s.risesAbove (s.evaluate x).warn.level) :
    s.weighedRun x r = r.accumulate x.stage := by
  unfold State.weighedRun
  rw [State.risePark_not _ _ _ hr, State.risePark_not _ _ _ hr, ite_self]

/-- An active run that a rise parks takes the stage before it, or not at all (log 9). -/
theorem State.weighedRun_parks (x : StageSample) (ha : r.active = true) (hr : s.risesAbove (s.evaluate x).warn.level) :
    s.weighedRun x r = (r.accumulate x.stage).parked .level s.uptime ∨ s.weighedRun x r = r.parked .level s.uptime := by
  unfold State.weighedRun
  split
  · exact .inl (State.risePark_eq _ _ _ hr ((Run.accumulate_active ..).trans ha))
  · exact .inr ((congrArg (fun u : Run => u.accumulate x.stage) (State.risePark_eq _ _ _ hr ha)).trans
      (Run.accumulate_idle rfl _))

end

/-! ### What a sample raises (R78) -/

section
variable {s : State} {k : EventKind}

theorem State.raiseAll_pendingWhere (h : s.phase = .ready) : (s.raiseAll k).pendingWhereEnabled k := fun p hp => by
  rw [State.raiseAll_port _ _ _ h, PortState.record_eq] at hp ⊢
  simp only at hp
  simp only [hp, if_true]
  exact exists_mem_addEvent_same ..

theorem Keeps.pending {s t : State} (h : Keeps [] s t) (hs : s.pendingWhereEnabled k) : t.pendingWhereEnabled k :=
  h .raised (by simp) k hs

theorem State.changeLevel_pending (h : s.phase = .ready) (rise : Bool) (c : Level) (t : Word32) (now : Nat) :
    (s.changeLevel rise c t now).pendingWhereEnabled .levelChanged := by
  have hraised : ((s.mapWarn fun w => w.moved c t now).raiseAll .levelChanged).pendingWhereEnabled .levelChanged :=
    State.raiseAll_pendingWhere h
  have hparked := ((State.realign_keeps _).trans (State.parkAbove_keeps _ rise c)).pending hraised
  exact hparked

/-- A level that changed stands pending, and so does a stage that is lost (R77, R78). -/
theorem State.evaluate_pending (h : s.phase = .ready) (x : StageSample) :
    ((s.evaluate x).warn.level ≠ s.warn.level → (s.evaluate x).pendingWhereEnabled .levelChanged) ∧
      (s.warn.fault = false → (s.evaluate x).warn.fault = true → (s.evaluate x).pendingWhereEnabled .stageLost) := by
  cases hst : x.stage with
  | none =>
    rw [State.evaluate_absent hst]
    split
    · refine ⟨fun hne => absurd ?_ hne, fun _ _ => State.raiseAll_pendingWhere h⟩
      rw [State.raiseAll_warn]
      rfl
    · refine ⟨fun hne => absurd rfl hne, fun hf ht => ?_⟩
      have ht' : s.warn.fault = true := ht
      simp [hf] at ht'
  | some stage =>
    obtain ⟨since, he | ⟨he, -⟩ | ⟨he, -⟩⟩ := State.evaluate_seen (s := s) hst
    · rw [he]
      exact ⟨fun hne => absurd rfl hne, fun _ => nofun⟩
    all_goals
      rw [he]
      refine ⟨fun _ => State.changeLevel_pending (s := s.sighted (s.cfg.warnItems.computed stage x.rate) since) h _ _ _ _, fun _ hf => ?_⟩
      rw [(State.changeLevel_record ..).2.2.2] at hf
      cases hf

theorem State.governed_frame (s : State) : s.governed.warn = s.warn ∧ s.governed.cfg = s.cfg ∧ s.governed.phase = s.phase := by
  obtain ⟨ps, m, hg⟩ := s.governed_view
  rw [hg]
  exact ⟨rfl, rfl, rfl⟩

/-- What the evaluation of a sample raises stands pending once the sample is formed. -/
theorem State.formSample_pending_of (h : s.phase = .ready) (extra : Bool)
    (heval : ∀ u : State, u.warn = s.warn → u.cfg = s.cfg → u.phase = .ready →
      (u.evaluate (s.sampleOf extra)).pendingWhereEnabled k) : (s.formSample extra).pendingWhereEnabled k := by
  obtain ⟨hwarn, hcfg, hphase⟩ := s.governed_frame
  have hready : s.governed.phase = .ready := hphase.trans h
  have hweigh : (s.governed.weigh (s.sampleOf extra)).pendingWhereEnabled k := by
    unfold State.weigh
    dsimp only
    split
    · exact heval _ hwarn hcfg hready
    · exact heval { s.governed with freeIndex := s.governed.freeIndex + 1 } hwarn hcfg hready
  rw [State.formSample_eq]
  exact (State.compose_keeps _ ((State.weigh_keeps (but := []) _ hready).phase_eq.trans hready)).pending hweigh

end

/-! ### The run through a sample (R42, R79, R104, R109) -/

/-- A run that another is but for its silence timer and the mark of a changed source. -/
def Run.marked (r : Run) (silence : Option Nat) (changed : Bool) : Run :=
  { r with silenceStart := silence, sourceChanged := changed }

/-- Whether a sample of this source parks the run (R41, R104). -/
def State.switchParks (s : State) (r : Run) : Prop := s.sampleSwitches = true ∧ r.desc.sourceSwitch = true

theorem Selector.switches_iff (x : Selector) (c : Source) :
    x.switches c = true ↔ x.current ≠ none ∧ x.current ≠ some c := by
  unfold Selector.switches
  split <;> simp_all

/-- A run at a switch of source is parked, if its mask says so, or marked. -/
theorem Run.switched_cases {r : Run} (now : Nat) (ha : r.active = true) :
    (r.desc.sourceSwitch = true → r.switched now = r.markSource.parked .sourceSwitch now) ∧
      (r.desc.sourceSwitch = false → r.switched now = r.marked r.silenceStart true) := by
  have hmark : r.markSource = r.marked r.silenceStart true := by
    rw [Run.markSource_eq, ha]
    rfl
  have hactive : (r.marked r.silenceStart true).active = true := ha
  refine ⟨fun hs => ?_, fun hs => ?_⟩
  · refine if_pos ?_
    have hs' : (r.marked r.silenceStart true).desc.sourceSwitch = true := hs
    rw [hmark, Run.parksOn, hactive, hs']
    rfl
  · rw [← hmark]
    refine if_neg ?_
    have hs' : (r.marked r.silenceStart true).desc.sourceSwitch = false := hs
    rw [hmark, Run.parksOn, hs']
    simp

theorem Run.switched_idle {r : Run} (now : Nat) (h : r.active = false) : r.switched now = r := by
  have hmark : r.markSource = r := by
    rw [Run.markSource_eq, h]
    rfl
  rw [Run.switched, hmark]
  exact if_neg (by simp [Run.parksOn, h])

/-- A run as a sample's delivery finds it: marked at most, or parked by a switch of source. -/
theorem State.switchedRun_cases {s : State} {r : Run} (hr : s.run = some r) : ∃ r1, s.switchedRun = some r1 ∧
    (r.active = false → r1 = r) ∧
    (r.active = true → ¬s.switchParks r → ∃ changed, r1 = r.marked r.silenceStart changed ∧
      (s.sampleSwitches = true → changed = true)) ∧
    (r.active = true → s.switchParks r → r1 = r.markSource.parked .sourceSwitch s.uptime) := by
  unfold State.switchedRun
  rw [hr]
  split
  · next hsw =>
    refine ⟨_, rfl, Run.switched_idle _, fun ha hp => ⟨true, (Run.switched_cases _ ha).2 ?_, fun _ => rfl⟩, fun ha hp => ?_⟩
    · exact eq_false_of_ne_true fun hs => hp ⟨hsw, hs⟩
    · exact (Run.switched_cases _ ha).1 hp.2
  · next hsw => exact ⟨_, rfl, fun _ => rfl, fun _ _ => ⟨r.sourceChanged, rfl, fun h => absurd h hsw⟩, fun _ hp => absurd hp.1 hsw⟩

theorem Run.accumulate_marked (r : Run) (silence : Option Nat) (changed : Bool) (stage : Option Int) :
    (r.marked silence changed).accumulate stage = (r.accumulate stage).marked silence changed := by
  have hactive : (r.marked silence changed).active = r.active := rfl
  unfold Run.accumulate
  split
  · rfl
  · rw [hactive]
    split <;> rfl

/-- What a sample makes of a run, its silence timer apart. -/
theorem State.formSample_run {s : State} {r : Run} {extra : Bool} {silence : Option Nat}
    (hr : s.run = some (r.marked silence r.sourceChanged))
    (hsilence : r.active = false → r.marked silence r.sourceChanged = r) :
    ∃ r', s.switchedRun.map (s.weighedRun (s.sampleOf extra)) = some r' ∧
      (r.active = false → r' = r) ∧
      (r.active = true → s.switchParks r →
        r' = (r.marked silence true).parked .sourceSwitch s.uptime) ∧
      (r.active = true → ¬s.switchParks r → ¬s.risesAbove (s.evaluate (s.sampleOf extra)).warn.level →
        ∃ changed, r' = (r.accumulate (s.sampleOf extra).stage).marked silence changed ∧
          (s.sampleSwitches = true → changed = true)) ∧
      (r.active = true → ¬s.switchParks r → s.risesAbove (s.evaluate (s.sampleOf extra)).warn.level →
        ∃ changed, (r' = ((r.accumulate (s.sampleOf extra).stage).marked silence changed).parked .level s.uptime ∨
          r' = (r.marked silence changed).parked .level s.uptime) ∧ (s.sampleSwitches = true → changed = true)) := by
  obtain ⟨r1, h1, hidle, hmarked, hparked⟩ := State.switchedRun_cases hr
  rw [h1]
  refine ⟨_, rfl, fun ha => ?_, fun ha hp => ?_, fun ha hp hrise => ?_, fun ha hp hrise => ?_⟩
  · rw [hidle ha, hsilence ha, State.weighedRun_idle _ ha]
  · rw [hparked ha hp, State.weighedRun_idle (r := Run.parked _ .sourceSwitch s.uptime) _ rfl, Run.markSource_eq]
    have ha' : (r.marked silence r.sourceChanged).active = true := ha
    rw [ha']
    rfl
  · obtain ⟨changed, rfl, hc⟩ := hmarked ha hp
    refine ⟨changed, ?_, hc⟩
    rw [State.weighedRun_stays _ hrise]
    exact Run.accumulate_marked r silence changed _
  · obtain ⟨changed, rfl, hc⟩ := hmarked ha hp
    refine ⟨changed, ?_, hc⟩
    rw [← Run.accumulate_marked]
    exact State.weighedRun_parks (r := r.marked silence changed) _ ha hrise

end Sys2Proof.Machine

end

section
/-! PROOFS. What a sample leaves (O33), and the events and requests that take one. -/

namespace Sys2Proof.Machine

-- one theorem at a time: many elaborated side by side would take a thread and its stack each
set_option Elab.async false

/-! ### The parts of what a sample leaves -/

/-- A state as a sample is formed: its schedule, its ports and the silence timer of its run moved on (R25, R31, R105). -/
def State.readied (s : State) (sched : Schedule) (ps : Ports) (silence : Run → Option Nat) : State :=
  { s with sched := sched, ports := ps, run := s.run.map fun r => r.marked (silence r) r.sourceChanged }

section
variable (s : State) (sched : Schedule) (ps : Ports) (silence : Run → Option Nat) (extra : Bool)

theorem State.readied_composedOf : (s.readied sched ps silence).composedOf extra =
    { s.composedOf extra with
      level := (s.evaluate (s.sampleOf extra)).warn.level, fault := (s.evaluate (s.sampleOf extra)).warn.fault } := by
  rw [State.composedOf, State.composed, State.evaluate_warn, State.evaluate_warn]
  rfl

end

/-- What a sample's record memory is, case by case (R142, R151). -/
theorem Store.entered_cases (st : Store) (body : LogBody) :
    (st.degraded = false → st.buffer.length < bufferLimit → st.entered body = { st with
      buffer := st.buffer ++ [⟨st.nextSeq, st.dropped, body⟩], nextSeq := st.nextSeq + 1, dropped := 0 }) ∧
    (st.degraded = false → bufferLimit ≤ st.buffer.length →
      st.entered body = { st with dropped := saturate 255 (st.dropped + 1) }) ∧
    (st.degraded = true → st.buffer.length < bufferLimit → st.entered body = { st with
      buffer := st.buffer ++ [⟨st.nextSeq, 0, body⟩], nextSeq := st.nextSeq + 1 }) ∧
    (∀ r rest, st.degraded = true → st.buffer = r :: rest → bufferLimit ≤ st.buffer.length → st.entered body = { st with
      buffer := rest ++ [⟨st.nextSeq, 0, body⟩], firstSeq := r.seq + 1, nextSeq := st.nextSeq + 1 }) := by
  unfold Store.entered
  refine ⟨fun hd hl => ?_, fun hd hl => ?_, fun hd hl => ?_, fun r rest hd hb hl => ?_⟩
  · rw [if_neg (by simp [hd]), if_pos hl]
  · rw [if_neg (by simp [hd]), if_neg (Nat.not_lt.2 hl)]
  · rw [if_pos hd]
    split
    · exact if_neg (Nat.not_le.2 hl)
    · next hb => rw [hb]; rfl
  · rw [if_pos hd, hb]
    rw [hb] at hl
    exact if_pos hl

theorem Store.entered_flash (st : Store) (body : LogBody) : (st.entered body).flash = st.flash := by
  unfold Store.entered
  split
  · split
    · split <;> rfl
    · rfl
  · split <;> rfl

theorem Handed.stageOf_eq (h : Handed) (c : Source) : h.stageOf c = match c with
    | .none => none
    | .float => some h.floatStage
    | .pressure => some h.pressStage := by
  cases c <;> rfl

/-- The discharge a sample carries (R67). -/
theorem State.rateSample_cases (s : State) (stage : Option Int) (t : Word32) :
    (stage = none → (s.rateSample stage t).1 = none ∧ (s.rateSample stage t).2.1 = noRatingFlags) ∧
    (s.rating.active = none → s.rateSample stage t = (none, noRatingFlags, 0)) ∧
    (∀ r, s.rating.active = some r → (s.rateSample stage t).2.2 = r.id ∧ ∀ h, stage = some h →
      (s.rateSample stage t).1 = some (r.rate h t).1 ∧ (s.rateSample stage t).2.1 = (r.rate h t).2) := by
  unfold State.rateSample
  refine ⟨?_, ?_, ?_⟩
  · rintro rfl
    cases s.rating.active <;> exact ⟨rfl, rfl⟩
  · intro h
    rw [h]
  · intro r h
    rw [h]
    cases stage with
    | none => exact ⟨rfl, nofun⟩
    | some x =>
      refine ⟨rfl, fun y hy => ?_⟩
      cases hy
      exact ⟨rfl, rfl⟩

section
variable {s : State} {sched : Schedule} {ps : Ports} {silence : Run → Option Nat} {extra : Bool}

theorem State.formSample_carries : carriesStageAndDischarge s ((s.readied sched ps silence).formSample extra)
    ((s.readied sched ps silence).composedOf extra) := by
  obtain ⟨u, ps', m, -, -, -, -, hview⟩ := (s.readied sched ps silence).formSample_view extra
  obtain ⟨hnone, hunrated, hrated⟩ := s.rateSample_cases (s.sampleOf extra).stage s.backup.clock
  rw [hview]
  refine ⟨rfl, rfl, rfl, rfl, Handed.stageOf_eq .., fun h => ⟨?_, hnone h⟩, fun h => ?_, hrated⟩
  · have h' : s.sampleHanded.stageOf s.sampleChoice.1 = none := h
    show (match s.sampleHanded.stageOf s.sampleChoice.1 with
      | none => none
      | some _ => windowRate s.sampleWindow (s.cfg.get .rateWindow) (s.cfg.get .minSpan)) = none
    rw [h']
  · have hr := hunrated h
    exact ⟨congrArg Prod.fst hr, congrArg (fun x => x.2.1) hr, congrArg (fun x => x.2.2) hr⟩

theorem State.formSample_stageJoins (hsilence : ∀ r, r.active = false → silence r = r.silenceStart) :
    stageJoins s ((s.readied sched ps silence).formSample extra) ((s.readied sched ps silence).composedOf extra) := by
  obtain ⟨u, ps', m, -, -, -, -, hview⟩ := (s.readied sched ps silence).formSample_view extra
  rw [hview]
  refine ⟨fun h => ?_, fun r hr => ?_⟩
  · simp [State.switchedRun, State.readied, h]
  · have hrun : (s.readied sched ps silence).run = some (r.marked (silence r) r.sourceChanged) := by
      simp [State.readied, hr]
    obtain ⟨r', hr', hidle, hswitch, hstays, hrises⟩ := State.formSample_run (extra := extra) hrun fun ha => by
      rw [hsilence r ha]
      rfl
    have hsw : (s.readied sched ps silence).switchParks r ↔
        s.sel.current ≠ none ∧ s.sel.current ≠ some s.sampleChoice.1 ∧ r.desc.sourceSwitch = true := by
      rw [State.switchParks, ← and_assoc, ← Selector.switches_iff]
      rfl
    have hrise : (s.readied sched ps silence).risesAbove
        ((s.readied sched ps silence).evaluate ((s.readied sched ps silence).sampleOf extra)).warn.level ↔
        s.warn.level.rank < ((s.readied sched ps silence).evaluate
          ((s.readied sched ps silence).sampleOf extra)).warn.level.rank ∧ s.cfg.get .runLimit <
          (((s.readied sched ps silence).evaluate
            ((s.readied sched ps silence).sampleOf extra)).warn.level.rank : Int) := Iff.rfl
    refine ⟨r', hr', ?_⟩
    by_cases ha : r.active = true
    · by_cases hp : (s.readied sched ps silence).switchParks r
      · rw [hswitch ha hp]
        refine ⟨rfl, rfl, fun h => absurd ha (by simp [h]), fun _ => ⟨rfl, rfl, rfl, rfl⟩, fun _ => ⟨iff_of_true rfl (.inl
          (hsw.1 hp)), fun _ => ⟨⟨rfl, rfl, rfl, rfl⟩, rfl⟩, fun hn => absurd (hsw.1 hp) hn, fun _ _ hn => absurd (hsw.1 hp) hn⟩⟩
      · by_cases hup : (s.readied sched ps silence).risesAbove
          ((s.readied sched ps silence).evaluate ((s.readied sched ps silence).sampleOf extra)).warn.level
        · obtain ⟨changed, hcases, -⟩ := hrises ha hp hup
          obtain ⟨hid, htable, -⟩ := r.accumulate_frame (s.sampleOf extra).stage
          rcases hcases with rfl | rfl
          · refine ⟨hid, htable, fun h => absurd ha (by simp [h]), fun hnone => ?_, fun _ => ⟨iff_of_true rfl (.inr hup),
              fun hs => absurd (hsw.2 hs) hp, fun _ _ => rfl, fun h hst _ => ⟨fun hn => absurd hup hn, fun _ => .inr ?_⟩⟩⟩
            · have hnone' : ((s.readied sched ps silence).sampleOf extra).stage = none := hnone
              rw [hnone', Run.accumulate_none]
              exact ⟨rfl, rfl, rfl, rfl⟩
            · have hst' : ((s.readied sched ps silence).sampleOf extra).stage = some h := hst
              rw [hst']
              exact Run.accumulate_joins ha h
          · exact ⟨rfl, rfl, fun h => absurd ha (by simp [h]), fun _ => ⟨rfl, rfl, rfl, rfl⟩, fun _ => ⟨iff_of_true rfl
              (.inr hup), fun hs => absurd (hsw.2 hs) hp, fun _ _ => rfl,
              fun h hst _ => ⟨fun hn => absurd hup hn, fun _ => .inl ⟨rfl, rfl, rfl, rfl⟩⟩⟩⟩
        · obtain ⟨changed, rfl, -⟩ := hstays ha hp hup
          obtain ⟨hid, htable, -⟩ := r.accumulate_frame (s.sampleOf extra).stage
          have hactive : ((r.accumulate (s.sampleOf extra).stage).marked (silence r) changed).active = true :=
            (Run.accumulate_active ..).trans ha
          refine ⟨hid, htable, fun h => absurd ha (by simp [h]), fun hnone => ?_, fun _ => ⟨iff_of_false ?_ ?_,
            fun hs => absurd (hsw.2 hs) hp, fun _ hr => absurd hr hup, fun h hst _ => ⟨fun _ => ?_, fun hr => absurd hr hup⟩⟩⟩
          · have hnone' : ((s.readied sched ps silence).sampleOf extra).stage = none := hnone
            rw [hnone', Run.accumulate_none]
            exact ⟨rfl, rfl, rfl, rfl⟩
          · exact fun hf => Bool.false_ne_true (hf.symm.trans hactive)
          · exact fun hor => hor.elim (fun hs => hp (hsw.2 hs)) hup
          · have hst' : ((s.readied sched ps silence).sampleOf extra).stage = some h := hst
            have hjoin := Run.accumulate_joins ha h
            rw [← hst'] at hjoin
            exact hjoin
    · rw [hidle (eq_false_of_ne_true ha)]
      exact ⟨rfl, rfl, fun _ => rfl, fun _ => ⟨rfl, rfl, rfl, rfl⟩, fun h => absurd h ha⟩

theorem State.evaluate_warn_congr {u v : State} (hw : u.warn = v.warn) (hc : u.cfg = v.cfg) (x : StageSample) :
    (u.evaluate x).warn = (v.evaluate x).warn := by
  rw [State.evaluate_warn, State.evaluate_warn, hw, hc]

theorem State.formSample_warn (s : State) (extra : Bool) :
    (s.formSample extra).warn = (s.evaluate (s.sampleOf extra)).warn := by
  obtain ⟨u, ps', m, -, -, -, -, hview⟩ := s.formSample_view extra
  rw [hview]

theorem State.formSample_times (s : State) (extra : Bool) : (s.formSample extra).sched.lastSample = s.sched.lastSample ∧
    (s.formSample extra).sched.lastUptime = s.sched.lastUptime := by
  rcases s.formSample_sched extra with ⟨-, hs⟩ | ⟨-, hs⟩
  · rw [hs]
    exact ⟨rfl, rfl⟩
  · rw [hs]
    exact ⟨(Schedule.realigned_frame ..).1, (Schedule.realigned_frame ..).2.1⟩

/-- A sample that is formed reaches the warning unit (R44, R78). -/
theorem State.formSample_evaluated {s : State} (extra : Bool) (hready : s.phase = .ready) :
    sampleIsEvaluated s (s.formSample extra) (s.composedOf extra) := by
  have hw := s.formSample_warn extra
  refine ⟨hw, fun hne => ?_, fun hf ht => ?_⟩
  · refine State.formSample_pending_of hready extra fun v hvw hvc hvr => (State.evaluate_pending hvr _).1 ?_
    rw [State.evaluate_warn_congr hvw hvc, hvw, ← hw]
    exact hne
  · refine State.formSample_pending_of hready extra fun v hvw hvc hvr => (State.evaluate_pending hvr _).2 (hvw ▸ hf) ?_
    rw [State.evaluate_warn_congr hvw hvc, ← hw]
    exact ht

theorem sampleIsEvaluated_congr {s s0 t : State} {c : ComposedSample} (hw : s0.warn = s.warn) (hc : s0.cfg = s.cfg)
    (h : sampleIsEvaluated s0 t c) : sampleIsEvaluated s t c := by
  obtain ⟨hwarn, hraised, hlost⟩ := h
  refine ⟨hwarn.trans (State.evaluate_warn_congr hw hc _), ?_, ?_⟩
  · rwa [hw] at hraised
  · rwa [hw] at hlost

/-- What a sample leaves, of a state whose schedule has the sample's times. -/
theorem State.formSample_leaves (hready : s.phase = .ready) (hlast : sched.lastSample = some s.backup.clock)
    (huptime : sched.lastUptime = some s.uptime) (hsilence : ∀ r, r.active = false → silence r = r.silenceStart) :
    sampleLeaves s ((s.readied sched ps silence).formSample extra) ((s.readied sched ps silence).composedOf extra)
      extra := by
  have hcarries := State.formSample_carries (s := s) (sched := sched) (ps := ps) (silence := silence) (extra := extra)
  have hjoins := State.formSample_stageJoins (s := s) (sched := sched) (ps := ps) (extra := extra) hsilence
  obtain ⟨hls, hlu⟩ := (s.readied sched ps silence).formSample_times extra
  have hevaluated := sampleIsEvaluated_congr (s := s) (s0 := s.readied sched ps silence) rfl rfl
    (State.formSample_evaluated extra hready)
  obtain ⟨u, ps', m, -, -, -, -, hview⟩ := (s.readied sched ps silence).formSample_view extra
  obtain ⟨hroom, hfull, hring, hover⟩ := s.store.entered_cases (.sample ((s.readied sched ps silence).composedOf extra))
  have hls' := hls.trans hlast
  have hlu' := hlu.trans huptime
  unfold sampleLeaves
  generalize hc : (s.readied sched ps silence).composedOf extra = c at *
  have hsample : c.sample = (s.readied sched ps silence).sampleOf extra := by rw [← hc]; rfl
  refine ⟨?_, by rw [hsample]; rfl, by rw [hsample]; rfl, by rw [hsample]; rfl, by rw [hsample]; rfl, ?_, ?_, ?_, hcarries, ?_, hevaluated, hjoins, hls', hlu', ?_⟩
  · rw [hview]
  · rw [hview, ← hc]
    rfl
  · rw [hview, ← hc]
    rfl
  · rw [hview, hsample]
    rfl
  · rw [hview]
    rfl
  · rw [hview]
    exact ⟨hroom, hfull, hring, hover, Store.entered_flash .., rfl, rfl, rfl, rfl, rfl, rfl, rfl⟩

end

/-- What a sample leaves of the schedule (R26, R78). -/
theorem State.formSample_schedules (s : State) (sched : Schedule) (ps : Ports) (silence : Run → Option Nat) (extra : Bool) :
    sampleSchedules s ((s.readied sched ps silence).formSample extra) sched.nextSample := by
  rcases (s.readied sched ps silence).formSample_sched extra with ⟨hlevel, hs⟩ | ⟨hne, hs⟩
  · rw [sampleSchedules, hs]
    exact ⟨fun _ _ => rfl, fun hne => absurd hlevel hne⟩
  · refine ⟨fun hcfg hlevel => absurd hlevel (hne ?_), fun _ => ?_⟩
    · simp only [State.configHolds, Bool.and_eq_true] at hcfg
      exact hcfg.1.1
    · rw [hs]
      exact (Schedule.realigned_frame ..).2.2

/-! ### SCHEDULED_SAMPLE and REQUEST_SAMPLE -/

theorem State.sampleDue_iff (s : State) : s.sampleDue = true ↔ s.phase = .ready ∧ s.backup.clock = s.sched.nextSample := by
  simp [State.sampleDue, State.scheduleRuns]

theorem Run.marked_self (r : Run) : r.marked r.silenceStart r.sourceChanged = r := rfl

/-- A scheduled sample is formed on a schedule moved on. -/
theorem State.firing_eq (s : State) : s.firing = s.readied s.firing.sched s.ports Run.silenceStart := by
  have hrun : s.run = s.run.map fun r => r.marked r.silenceStart r.sourceChanged := by
    simp [Run.marked_self]
  unfold State.readied
  rw [← hrun]
  rfl

theorem State.sampleRecent_false {s : State} (h : ∀ u, s.sched.lastUptime = some u → u + 10 ≤ s.uptime) :
    s.sampleRecent = false := by
  unfold State.sampleRecent
  split
  · rfl
  · next u hu =>
    have := h u hu
    simp only [decide_eq_false_iff_not]
    omega

/-- A request whose block leaves the slots and answers. -/
theorem State.serve_of_slots {s w : State} {p : Port} {code : Byte} {payload : List Byte}
    {body : State → State × Option Answer} {a : Answer} (ht : s.takes p code payload = true)
    (hb : body ((s.arrived p payload).serving p code) = (w, some a))
    (hw : ((s.arrived p payload).serving p code).SlotsStay w) :
    s.serve p code payload body = w.answered p code a.status a.payload := by
  have hreq : (w.port p).request = some code := by
    rw [(hw p).1, State.serving_port]
  rw [State.serve_taken _ _ _ _ _ ht, hb, State.finish_answer _ _ code _ hreq]

/-- A reply leaves what a sample left. -/
theorem sampleLeaves_answered {s t : State} {c : ComposedSample} {extra : Bool} (p : Port) (code : Byte) (st : Status)
    (pl : List Byte) (h : sampleLeaves s t c extra) : sampleLeaves s (t.answered p code st pl) c extra := by
  have hpending (k : EventKind) (hk : t.pendingWhereEnabled k) : (t.answered p code st pl).pendingWhereEnabled k := by
    intro q hq
    rw [State.answered, State.port_setPort] at hq ⊢
    by_cases hqp : q = p
    · rw [if_pos hqp] at hq ⊢
      exact hk p hq
    · rw [if_neg hqp] at hq ⊢
      exact hk q hq
  obtain ⟨hnewest, htime, huptime, hextra, hunset, hlevel, hfault, hcurrent, hcarries, hphase, ⟨hwarn, hraised, hlost⟩, hrest⟩ := h
  exact ⟨hnewest, htime, huptime, hextra, hunset, hlevel, hfault, hcurrent, hcarries, hphase,
    ⟨hwarn, fun hne => hpending _ (hraised hne), fun hf hf' => hpending _ (hlost hf hf')⟩, hrest⟩

/-- A block finds the state with its ports and the silence timer of its run moved on. -/
theorem State.serving_readied (s : State) (p : Port) (payload : List Byte) (code : Byte) : ∃ ps silence,
    (s.arrived p payload).serving p code = s.readied s.sched ps silence ∧
      ∀ r, r.active = false → silence r = r.silenceStart := by
  obtain ⟨ps, h⟩ := s.serving_view p payload code
  refine ⟨ps, fun r => if p = .c then (r.heard s.uptime).silenceStart else r.silenceStart, ?_, fun r ha => ?_⟩
  · rw [h]
    have hrun : (if p = .c then s.run.map fun r => r.heard s.uptime else s.run) = s.run.map fun r =>
        r.marked (if p = .c then (r.heard s.uptime).silenceStart else r.silenceStart) r.sourceChanged := by
      split
      · refine congrArg (fun f => s.run.map f) (funext fun r => ?_)
        rw [Run.heard_eq]
        rfl
      · simp [Run.marked_self]
    rw [hrun]
    rfl
  · simp [Run.heard_eq, ha]

/-- The times a sample takes from the moment it is formed. -/
def State.takenSched (s : State) : Schedule :=
  { s.sched with lastSample := some s.backup.clock, lastUptime := some s.uptime }

theorem exec_requestSample {s : State} {p : Port} (ht : s.takes p 0x14#8 [] = true) (hrecent : s.sampleRecent = false) :
    ∃ ps silence, (∀ r, r.active = false → silence r = r.silenceStart) ∧
      exec (.requestSample p []) s = .next (((s.readied s.takenSched ps silence).formSample true).answered p 0x14#8 .ok
        (leWord s.backup.clock ++ le32 s.uptime)) := by
  obtain ⟨ps, silence, hview, hsilence⟩ := s.serving_readied p [] 0x14#8
  refine ⟨ps, silence, hsilence, congrArg _ (State.serve_of_slots (body := requestSample [])
    (w := (s.readied s.takenSched ps silence).formSample true)
    (a := ⟨.ok, leWord s.backup.clock ++ le32 s.uptime⟩) ht ?_ ?_)⟩
  · rw [hview]
    have hrecent' : (s.readied s.sched ps silence).sampleRecent = false := hrecent
    simp only [requestSample, parseEmpty, hrecent', Bool.false_eq_true, if_false]
    rfl
  · rw [hview]
    exact .trans (t := s.readied s.takenSched ps silence) .of_ports (State.formSample_slots _ _)

/-- Settles O33: a sample is formed on the schedule its event or request leaves, and leaves what R35's steps change. -/
theorem sampleIsComposedAndLogged : Obligations.SampleIsComposedAndLogged := by
  refine ⟨fun s hready hdue => ?_, fun p s ht hrecent => ?_, fun p u s ht hu hlt => ?_⟩
  · have hdue' := s.sampleDue_iff.2 ⟨hready, hdue⟩
    have hfired : exec .scheduledSample s = .next (s.firing.formSample false) := by
      show Host.Outcome.next s.scheduledSample = _
      rw [State.scheduledSample_due hdue']
    refine ⟨_, s.firing.composedOf false, hfired, ?_⟩
    have hslots := State.formSample_slots s.firing false
    rw [State.firing_eq] at hslots ⊢
    exact ⟨State.formSample_leaves hready rfl rfl fun _ _ => rfl, (hslots .l).1, State.formSample_schedules s s.firing.sched ..⟩
  · obtain ⟨ps, silence, hsilence, hexec⟩ := exec_requestSample ht (State.sampleRecent_false hrecent)
    refine ⟨_, _, hexec, sampleLeaves_answered _ _ _ _ (State.formSample_leaves ?_ rfl rfl hsilence), ?_, ?_,
      State.formSample_schedules s s.takenSched ps silence true⟩
    · obtain ⟨-, -, -, hadmit⟩ := (s.takes_iff p 0x14#8 []).1 ht
      simpa using State.phase_of_admission hadmit
    · rw [State.answered_port]
    · rw [State.answered_port]
  · refine congrArg _ (State.serve_of_read (body := requestSample []) (a := ⟨.busy, []⟩) ht fun ps => ?_)
    have hrecent : s.sampleRecent = true := by
      simp [State.sampleRecent, hu, hlt]
    exact if_pos hrecent

end Sys2Proof.Machine

end

section
/-! PROOFS. SET_TIME (O31): the clock's step and what it leaves. -/

namespace Sys2Proof.Machine

-- one theorem at a time: many elaborated side by side would take a thread and its stack each
set_option Elab.async false

/-! ### The parts of a step -/

/-- The backup domain once the clock is loaded (R27). -/
def BackupDomain.loaded (b : BackupDomain) (new : Word32) : BackupDomain :=
  { b with clock := new, subSecond := 0, unset := false }

/-- The backup domain after a large step (R29). -/
def BackupDomain.stepped (b : BackupDomain) (new : Word32) (now : Nat) : BackupDomain :=
  { b.loaded new with lastStep := some ⟨b.clock, new, now⟩ }

/-- The mark of a large step (R21, R29). -/
def State.stepMark (s : State) (new : Word32) : LogBody := .mark s.backup.clock new s.backup.unset s.warn.level

section
variable (s : State) (new : Word32)

theorem smallStep_iff (d : Int) : smallStep d = true ↔ d.natAbs ≤ 60 := by simp [smallStep]

/-- The schedule realigned after a small step (R28). -/
def State.realignedSmall : Schedule := { s.sched with
  nextSample := nextSampleAfter s.interval (max new.toNat ((s.sched.lastSample.map BitVec.toNat).getD 0)) }

/-- The schedule realigned after a large step (R29). -/
def State.realignedLarge : Schedule := { s.sched with
  nextSample := nextSampleAfter s.interval new.toNat, lastSample := none }

theorem State.stepClock_small (h : (s.timeStep new).natAbs ≤ 60) : s.stepClock new = { s with
    backup := s.backup.loaded new, sched := s.realignedSmall new } := by
  have hbase : (s.loadClock new).realignBase = max new.toNat ((s.sched.lastSample.map BitVec.toNat).getD 0) := by
    have hsched : (s.loadClock new).sched = s.sched := rfl
    unfold State.realignBase
    rw [hsched]
    cases s.sched.lastSample with
    | none => exact (Nat.max_zero _).symm
    | some t => rfl
  rw [State.stepClock, if_pos ((smallStep_iff _).2 h), State.afterSmallStep, hbase]
  rfl

theorem State.raiseAll_setSched (u : State) (k : EventKind) (sched : Schedule) :
    ({ u.raiseAll k with sched := sched } : State) = State.raiseAll { u with sched := sched } k := by
  by_cases h : u.phase = .ready
  · rw [State.raiseAll_eq u k h, State.raiseAll_eq { u with sched := sched } k h]
  · rw [State.raiseAll_before_ready u k h, State.raiseAll_before_ready { u with sched := sched } k h]

/-- A large step's mark, its record and its realignment, in R29's order. -/
theorem State.afterLargeStep_eq (u : State) (old : Word32) (unset : Bool) (e : State)
    (he : u.enterBuffer (.mark old u.backup.clock unset u.warn.level) = e) : u.afterLargeStep old unset =
    State.raiseAll { e with
      backup := { e.backup with lastStep := some ⟨old, u.backup.clock, e.uptime⟩ }
      sched := { e.sched with nextSample := nextSampleAfter e.interval u.backup.clock.toNat, lastSample := none } }
      .clockStepped := by
  obtain ⟨ps, hraise⟩ := State.raiseAll_view
    { e with backup := { e.backup with lastStep := some ⟨old, u.backup.clock, e.uptime⟩ } } .clockStepped
  rw [State.afterLargeStep]
  dsimp only
  rw [he, State.raiseAll_setSched, hraise]
  rfl

/-- A large step, in R29's order. -/
theorem State.stepClock_large (h : 60 < (s.timeStep new).natAbs) : s.stepClock new = State.raiseAll { s with
    backup := s.backup.stepped new s.uptime
    store := s.store.entered (s.stepMark new)
    sched := s.realignedLarge new
    ports := ((s.loadClock new).enterBuffer (s.stepMark new)).ports } .clockStepped := by
  obtain ⟨ps, henter⟩ := (s.loadClock new).enterBuffer_view (s.stepMark new)
  have hlarge : ¬smallStep (s.timeStep new) = true := fun hs => Nat.not_le.2 h ((smallStep_iff _).1 hs)
  rw [State.stepClock, if_neg hlarge, State.afterLargeStep_eq _ _ _ _ henter, henter]
  rfl

end

/-! ### A raising and the slots of a port -/

/-- A raising leaves the slots, so that it may come before the request enters them. -/
theorem State.raiseOn_serving (s : State) (p q : Port) (code : Byte) (k : EventKind) :
    (s.serving p code).raiseOn q k = (s.raiseOn q k).serving p code := by
  unfold State.raiseOn State.serving
  by_cases h : s.phase = .ready
  · have h' : (s.setPort p { s.port p with request := some code, reply := none }).phase = .ready := h
    rw [if_pos h, if_pos h']
    by_cases hqp : q = p
    · subst hqp
      simp only [State.setPort_port_same, State.setPort_setPort, State.setPort_backup, PortState.record_eq]
    · rw [State.setPort_port_other _ _ _ _ hqp, State.setPort_port_other _ _ _ _ (Ne.symm hqp)]
      revert hqp
      cases p <;> cases q <;> simp [State.setPort, Ports.set, State.port, Ports.get]
  · have h' : ¬(s.setPort p { s.port p with request := some code, reply := none }).phase = .ready := h
    rw [if_neg h, if_neg h']

theorem State.raiseAll_serving (s : State) (p : Port) (code : Byte) (k : EventKind) :
    (s.serving p code).raiseAll k = (s.raiseAll k).serving p code := by
  simp only [State.raiseAll, State.raiseOn_serving]

/-! ### A full ring's cursors (R145, R151) -/

/-- A port whose cursor is dragged, LOG_LOST noted (R145). -/
def PortState.dragged (x : PortState) (now old new : Word32) : PortState :=
  if behind old new x.cursor then
    { x with cursor := new, lost := saturate 4294967295 (x.lost + distance x.cursor new) }.record now .logLost
  else x

theorem State.dragPort_port {s : State} (hready : s.phase = .ready) (old new : Word32) (p q : Port) :
    (s.dragPort old new p).port q = if q = p then (s.port p).dragged s.backup.clock old new else s.port q := by
  unfold State.dragPort PortState.dragged
  by_cases hb : behind old new (s.port p).cursor = true
  · rw [if_pos hb, if_pos hb, State.raiseOn_eq, State.setPort_phase, if_pos hready, State.port_setPort]
    split
    · simp
    · next h => rw [State.port_setPort, if_neg h]
  · rw [if_neg hb, if_neg hb]
    split
    · next h => rw [h]
    · rfl

theorem State.advanceFirst_port {s : State} (hready : s.phase = .ready) (new : Word32) (q : Port) :
    (s.advanceFirst new).port q = (s.port q).dragged s.backup.clock s.store.firstSeq new := by
  let u := s.setStore { s.store with firstSeq := new }
  have hl (q : Port) := State.dragPort_port (s := u) hready s.store.firstSeq new .l q
  have ht (q : Port) := State.dragPort_port (s := u.dragPort s.store.firstSeq new .l) (by simpa [u] using hready)
    s.store.firstSeq new .t q
  have hc (q : Port) := State.dragPort_port (s := (u.dragPort s.store.firstSeq new .l).dragPort s.store.firstSeq new .t)
    (by simpa [u] using hready) s.store.firstSeq new .c q
  have hadv : s.advanceFirst new =
    ((u.dragPort s.store.firstSeq new .l).dragPort s.store.firstSeq new .t).dragPort s.store.firstSeq new .c := rfl
  rw [hadv, hc]
  cases q <;> simp only [ht, hl, reduceCtorEq, if_false, if_true, State.dragPort_backup] <;> rfl

/-- A record that joins a full ring drags the cursors behind the new first_seq (R151). -/
theorem State.enterBuffer_full_ring {s : State} {r : LogRecord} {rest : List LogRecord} (body : LogBody)
    (hready : s.phase = .ready) (hd : s.store.degraded = true) (hb : s.store.buffer = r :: rest)
    (hl : bufferLimit ≤ s.store.buffer.length) (q : Port) :
    (s.enterBuffer body).port q = (s.port q).dragged s.backup.clock s.store.firstSeq (r.seq + 1) := by
  rw [State.enterBuffer, if_pos hd, State.overwriteRing_full hb hl]
  exact State.advanceFirst_port (s := s.setStore { s.store with buffer := rest }) hready _ q

/-- A record that overwrites none leaves the ports. -/
theorem State.enterBuffer_plain {s : State} (body : LogBody)
    (h : s.store.degraded = false ∨ s.store.buffer.length < bufferLimit) : (s.enterBuffer body).ports = s.ports := by
  by_cases hl : s.store.buffer.length < bufferLimit
  · by_cases hd : s.store.degraded = true
    · rw [State.enterBuffer_ring _ hd hl]
      rfl
    · rw [State.enterBuffer_room _ _ (by simpa using hd) hl]
      rfl
  · rw [State.enterBuffer_full _ _ (h.resolve_right hl) (Nat.not_lt.1 hl)]
    rfl

/-! ### The request -/

section
variable {s : State} {p : Port} {a b c d : Byte}

theorem setTime_eq (a b c d : Byte) (s : State) : setTime [a, b, c, d] s =
    (s.setTime (word32 a b c d), some ⟨.ok, timePayload (s.timeStep (word32 a b c d))⟩) := rfl

theorem timePayload_small {x : Int} (h : x.natAbs ≤ 60) : timePayload x = le8 0 ++ sle32 x := by
  rw [timePayload, if_pos ((smallStep_iff _).2 h), clampInt_eq_max_min _ (by decide),
    show max (-2147483648) (min 2147483647 x) = x by omega]

theorem timePayload_large {x : Int} (h : 60 < x.natAbs) :
    timePayload x = le8 1 ++ sle32 (max (-2147483648) (min 2147483647 x)) := by
  rw [timePayload, if_neg fun hs => Nat.not_le.2 h ((smallStep_iff _).1 hs), clampInt_eq_max_min _ (by decide)]

theorem State.stepClock_slots (s : State) (new : Word32) : s.SlotsStay (s.stepClock new) := by
  by_cases h : 60 < (s.timeStep new).natAbs
  · rw [State.stepClock_large s new h]
    refine .trans (.trans (t := (s.loadClock new).enterBuffer (s.stepMark new))
      (.trans (t := s.loadClock new) .of_ports (State.enterBuffer_slots _ _)) .of_ports) (State.raiseAll_slots _ _)
  · rw [State.stepClock_small s new (Nat.not_lt.1 h)]
    exact .of_ports

theorem State.scheduledSample_slots (s : State) : s.SlotsStay s.scheduledSample := by
  unfold State.scheduledSample
  exact .ite (.trans (t := s.firing) .of_ports (State.formSample_slots _ _)) .of_ports

/-- What a SET_TIME leaves: the sample due, the clock's step, the reply. -/
theorem exec_setTime (ht : s.takes p 0x03#8 [a, b, c, d] = true) : exec (.setTime p [a, b, c, d]) s =
    .next ((((s.arrived p [a, b, c, d]).serving p 0x03#8).setTime (word32 a b c d)).answered p 0x03#8 .ok
      (timePayload (s.timeStep (word32 a b c d)))) := by
  have hstep : ((s.arrived p [a, b, c, d]).serving p 0x03#8).timeStep (word32 a b c d) = s.timeStep (word32 a b c d) := by
    obtain ⟨ps, h⟩ := s.serving_view p [a, b, c, d] 0x03#8
    rw [h]
    rfl
  refine congrArg _ (State.serve_of_slots (body := setTime [a, b, c, d])
    (a := ⟨.ok, timePayload (s.timeStep (word32 a b c d))⟩) ht ?_ ?_)
  · rw [setTime_eq, hstep]
  · exact (State.scheduledSample_slots _).trans (State.stepClock_slots _ _)

end

/-- A frame's arrival changes the ports and the run alone. -/
theorem State.arrived_view (s : State) (p : Port) (payload : List Byte) :
    ∃ ps run, s.arrived p payload = { s with ports := ps, run := run } := by
  rw [State.arrived_eq, State.clocked_eq]
  exact ⟨_, _, rfl⟩

/-- A store that gives no record up, by what enters it (R142, R151). -/
theorem Store.entered_plain {st : Store} (body : LogBody) (h : st.degraded = false ∨ st.buffer.length < bufferLimit) :
    st.entered body =
      if st.degraded then
        { st with buffer := st.buffer ++ [⟨st.nextSeq, 0, body⟩], nextSeq := st.nextSeq + 1 }
      else if st.buffer.length < 32 then
        { st with
          buffer := st.buffer ++ [⟨st.nextSeq, st.dropped, body⟩], dropped := 0, nextSeq := st.nextSeq + 1 }
      else { st with dropped := min 255 (st.dropped + 1) } := by
  obtain ⟨hroom, hfull, hring, -⟩ := st.entered_cases body
  by_cases hd : st.degraded = true
  · rw [if_pos hd, hring hd (h.resolve_left (by simp [hd]))]
  · have hd' : st.degraded = false := by simpa using hd
    rw [if_neg hd]
    by_cases hl : st.buffer.length < 32
    · rw [if_pos hl, hroom hd' hl]
    · rw [if_neg hl, hfull hd' (Nat.not_lt.1 hl), saturate_eq_min]

section
variable {s : State} {p : Port} {a b c d : Byte} (ht : s.takes p 0x03#8 [a, b, c, d] = true)
include ht

theorem exec_setTime_small (hdue : s.sampleDue = false) (hsmall : (s.timeStep (word32 a b c d)).natAbs ≤ 60) :
    exec (.setTime p [a, b, c, d]) s = .next ({ s.arrived p [a, b, c, d] with
      backup := s.backup.loaded (word32 a b c d), sched := s.realignedSmall (word32 a b c d) }.answered p 0x03#8 .ok
        (le8 0 ++ sle32 (s.timeStep (word32 a b c d)))) := by
  obtain ⟨ps, run, hx⟩ := s.arrived_view p [a, b, c, d]
  have hstep : (State.serving { s with ports := ps, run := run } p 0x03#8).setTime (word32 a b c d) = State.serving { s with
      ports := ps, run := run, backup := s.backup.loaded (word32 a b c d)
      sched := s.realignedSmall (word32 a b c d) } p 0x03#8 := by
    let v := State.serving { s with ports := ps, run := run } p 0x03#8
    rw [State.setTime, State.scheduledSample_idle (s := v) hdue, State.stepClock_small v _ hsmall]
    rfl
  rw [exec_setTime ht, hx, hstep, timePayload_small hsmall, State.serving_answered]

/-- A large step of a store that gives no record up. -/
theorem exec_setTime_large (hdue : s.sampleDue = false) (hlarge : 60 < (s.timeStep (word32 a b c d)).natAbs)
    (hplain : s.store.degraded = false ∨ s.store.buffer.length < bufferLimit) :
    exec (.setTime p [a, b, c, d]) s = .next ((State.raiseAll { s.arrived p [a, b, c, d] with
      backup := s.backup.stepped (word32 a b c d) s.uptime
      store := s.store.entered (s.stepMark (word32 a b c d))
      sched := s.realignedLarge (word32 a b c d) } .clockStepped).answered p 0x03#8 .ok
        (le8 1 ++ sle32 (max (-2147483648) (min 2147483647 (s.timeStep (word32 a b c d)))))) := by
  obtain ⟨ps, run, hx⟩ := s.arrived_view p [a, b, c, d]
  have hstep : (State.serving { s with ports := ps, run := run } p 0x03#8).setTime (word32 a b c d) =
      (State.raiseAll { s with
        ports := ps, run := run
        backup := s.backup.stepped (word32 a b c d) s.uptime
        store := s.store.entered (s.stepMark (word32 a b c d))
        sched := s.realignedLarge (word32 a b c d) } .clockStepped).serving p 0x03#8 := by
    let v := State.serving { s with ports := ps, run := run } p 0x03#8
    rw [State.setTime, State.scheduledSample_idle (s := v) hdue, State.stepClock_large v _ hlarge,
      State.enterBuffer_plain (s := v.loadClock (word32 a b c d)) _ hplain, ← State.raiseAll_serving]
    rfl
  rw [exec_setTime ht, hx, hstep, timePayload_large hlarge, State.serving_answered]

/-- A large step of a full ring in DEGRADED. -/
theorem exec_setTime_ring {r : LogRecord} {rest : List LogRecord} (hready : s.phase = .ready) (hdue : s.sampleDue = false)
    (hlarge : 60 < (s.timeStep (word32 a b c d)).natAbs) (hd : s.store.degraded = true)
    (hb : s.store.buffer = r :: rest) (hl : bufferLimit ≤ s.store.buffer.length) : ∃ t : State,
    exec (.setTime p [a, b, c, d]) s = .next t ∧
      t = { s.arrived p [a, b, c, d] with
        backup := s.backup.stepped (word32 a b c d) s.uptime
        store := s.store.entered (s.stepMark (word32 a b c d))
        sched := s.realignedLarge (word32 a b c d)
        ports := t.ports } ∧
      ∀ q, t.port q =
        let x := (((s.arrived p [a, b, c, d]).port q).dragged (word32 a b c d) s.store.firstSeq (r.seq + 1)).record
          (word32 a b c d) .clockStepped
        if q = p then { x with request := none, reply := some ⟨.ok, 0x03#8,
          le8 1 ++ sle32 (max (-2147483648) (min 2147483647 (s.timeStep (word32 a b c d)))), false⟩ } else x := by
  obtain ⟨ps, run, hx⟩ := s.arrived_view p [a, b, c, d]
  let v := State.serving { s with ports := ps, run := run } p 0x03#8
  let w : State := { v with
    backup := v.backup.stepped (word32 a b c d) v.uptime, store := v.store.entered (v.stepMark (word32 a b c d))
    sched := v.realignedLarge (word32 a b c d)
    ports := ((v.loadClock (word32 a b c d)).enterBuffer (v.stepMark (word32 a b c d))).ports }
  have hexec := exec_setTime ht
  rw [hx, State.setTime, State.scheduledSample_idle (s := v) hdue, State.stepClock_large v _ hlarge,
    timePayload_large hlarge] at hexec
  have hraised (q : Port) : (w.raiseAll .clockStepped).port q =
      ((v.port q).dragged (word32 a b c d) s.store.firstSeq (r.seq + 1)).record (word32 a b c d) .clockStepped := by
    have hport := State.enterBuffer_full_ring (s := v.loadClock (word32 a b c d)) (v.stepMark (word32 a b c d)) hready
      hd hb hl q
    rw [State.raiseAll_port w _ _ hready]
    exact congrArg (fun x : PortState => x.record (word32 a b c d) .clockStepped) hport
  refine ⟨_, hexec, ?_, fun q => ?_⟩
  · obtain ⟨ps', hview⟩ := w.raiseAll_view .clockStepped
    rw [hx, show State.raiseAll _ .clockStepped = w.raiseAll .clockStepped from rfl, hview]
    rfl
  · have hanswered (u : State) (pl : List Byte) : (u.answered p 0x03#8 .ok pl).port q = if q = p then
        { u.port p with request := none, reply := some ⟨.ok, 0x03#8, pl, false⟩ } else u.port q := State.port_setPort ..
    refine (hanswered (w.raiseAll .clockStepped) _).trans ?_
    have hv (q : Port) : v.port q = if q = p then { ps.get p with request := some 0x03#8, reply := none } else ps.get q :=
      State.port_setPort ..
    have hps (q : Port) : State.port { s with ports := ps, run := run } q = ps.get q := rfl
    simp only [hraised, hv, hps, hx]
    split
    · next h =>
      subst h
      simp only [if_true, PortState.dragged, PortState.record_eq]
      split <;> rfl
    · rfl

end

/-- A port whose cursor a full ring may drag, before CLOCK_STEPPED is noted. -/
theorem PortState.dragged_record (x : PortState) (now old new : Word32) :
    (x.dragged now old new).record now .clockStepped = { x with
      cursor := if behind old new x.cursor then new else x.cursor
      lost := if behind old new x.cursor then min 4294967295 (x.lost + (new - x.cursor).toNat) else x.lost
      events := if x.enables.getLsbD EventKind.clockStepped.group.bit = true
        then addEvent now .clockStepped (if behind old new x.cursor then
          if x.enables.getLsbD EventKind.logLost.group.bit = true then addEvent now .logLost x.events else x.events
          else x.events)
        else if behind old new x.cursor then
          if x.enables.getLsbD EventKind.logLost.group.bit = true then addEvent now .logLost x.events else x.events
          else x.events } := by
  unfold PortState.dragged
  split
  · simp only [PortState.record_eq, saturate_eq_min, distance]
  · simp only [PortState.record_eq]

/-- A sample's record and a mark enter a buffer in turn (R142). -/
theorem Store.entered_entered {st : Store} (x y : LogBody) (hd : st.degraded = false) (hl : st.buffer.length ≤ 32) :
    ((st.entered x).entered y).buffer =
      (st.buffer ++ [(⟨st.nextSeq, st.dropped, x⟩ : LogRecord), ⟨st.nextSeq + 1, 0, y⟩]).take 32 := by
  obtain ⟨hroom, hfull, -, -⟩ := st.entered_cases x
  obtain ⟨hroom', hfull', -, -⟩ := (st.entered x).entered_cases y
  rcases Nat.lt_trichotomy st.buffer.length 31 with h | h | h
  · have hx := hroom hd (Nat.lt_trans h (by decide))
    have hlen : (st.entered x).buffer.length < bufferLimit := by
      rw [hx]
      simp only [List.length_append, List.length_singleton, bufferLimit]
      omega
    rw [hroom' (by rw [hx]; exact hd) hlen, hx, List.take_of_length_le (by simp; omega)]
    simp
  · have hx := hroom hd (by rw [h]; decide)
    have hlen : bufferLimit ≤ (st.entered x).buffer.length := by
      rw [hx]
      simp [bufferLimit, h]
    rw [hfull' (by rw [hx]; exact hd) hlen, hx, List.take_append, List.take_of_length_le hl, h]
    rfl
  · have h32 : st.buffer.length = 32 := by omega
    have hx := hfull hd (by rw [h32]; decide)
    rw [hfull' (by rw [hx]; exact hd) (by rw [hx, h32]; decide), hx, List.take_append_of_le_length (by omega),
      List.take_of_length_le hl]

/-- Settles O31: the clock's step, small or large, and before it the sample that is due. -/
theorem setTimeStepsTheClock : Obligations.SetTimeStepsTheClock := by
  intro p a b c d s ht
  have hready : s.phase = .ready := by
    obtain ⟨-, -, -, hadmit⟩ := (s.takes_iff _ _ _).1 ht
    simpa using State.phase_of_admission hadmit
  refine ⟨fun hdue hsmall => ?_, fun hdue hlarge hplain => ?_, fun r rest hdue hlarge hd hb hl => ?_, fun hdue => ?_⟩
  · exact exec_setTime_small ht hdue hsmall
  · rw [exec_setTime_large ht hdue hlarge hplain, Store.entered_plain _ hplain]
    rfl
  · obtain ⟨t, hexec, ht', hports⟩ := exec_setTime_ring ht hready hdue hlarge hd hb hl
    rw [(s.store.entered_cases _).2.2.2 r rest hd hb hl] at ht'
    refine ⟨t, hexec, ht', fun q => (hports q).trans ?_⟩
    rw [PortState.dragged_record]
    rfl
  · obtain ⟨ps, silence, hview, hsilence⟩ := s.serving_readied p [a, b, c, d] 0x03#8
    have hfiring : (s.readied s.sched ps silence).firing = s.readied s.firing.sched ps silence := rfl
    have hset : ((s.arrived p [a, b, c, d]).serving p 0x03#8).setTime (word32 a b c d) =
        ((s.readied s.firing.sched ps silence).formSample false).stepClock (word32 a b c d) := by
      rw [hview, State.setTime, State.scheduledSample_due (s := s.readied s.sched ps silence) hdue, hfiring]
    have hleaves := State.formSample_leaves (sched := s.firing.sched) (ps := ps) (extra := false) hready rfl rfl hsilence
    generalize (s.readied s.firing.sched ps silence).formSample false = w at hset hleaves
    generalize (s.readied s.firing.sched ps silence).composedOf false = x at hleaves
    obtain ⟨hnewest, htime, huptime, hextra, -, -, -, -, -, -, -, -, hlast, -, hroom, hfull, -, -, -, -, -, hbackup, -, hup, -⟩ := hleaves
    have hstep : w.timeStep (word32 a b c d) = s.timeStep (word32 a b c d) := by rw [State.timeStep, hbackup]; rfl
    refine ⟨_, x, exec_setTime ht, ?_⟩
    rw [hset]
    by_cases hlarge : 60 < (s.timeStep (word32 a b c d)).natAbs
    · have hbuffer (hd : s.store.degraded = false) (hl : s.store.buffer.length ≤ 32) :
          w.store = s.store.entered (.sample x) := by
        obtain ⟨hroom', hfull', -, -⟩ := s.store.entered_cases (.sample x)
        by_cases h : s.store.buffer.length < bufferLimit
        · rw [hroom hd h, hroom' hd h]
        · rw [hfull hd (Nat.not_lt.1 h), hfull' hd (Nat.not_lt.1 h)]
      rw [State.stepClock_large w _ (hstep ▸ hlarge), timePayload_large hlarge]
      obtain ⟨ps', hraise⟩ := State.raiseAll_view { w with
        backup := w.backup.stepped (word32 a b c d) w.uptime, store := w.store.entered (w.stepMark (word32 a b c d))
        sched := w.realignedLarge (word32 a b c d)
        ports := ((w.loadClock (word32 a b c d)).enterBuffer (w.stepMark (word32 a b c d))).ports } .clockStepped
      rw [hraise]
      refine ⟨hnewest, htime, huptime, hextra, rfl, rfl, rfl, fun h => absurd hlarge (Nat.not_lt.2 h), fun _ => ⟨?_, rfl,
        rfl, ?_, fun hd hl => ?_⟩⟩
      · show some (LastStep.mk w.backup.clock _ w.uptime) = _
        rw [hbackup, hup]
      · rw [State.answered_port]
        rfl
      · show (w.store.entered (.mark w.backup.clock (word32 a b c d) w.backup.unset w.warn.level)).buffer = _
        rw [hbuffer hd hl, Store.entered_entered _ _ hd hl, hbackup]
        rfl
    · have hsmall := Nat.not_lt.1 hlarge
      rw [State.stepClock_small w _ (hstep ▸ hsmall), timePayload_small hsmall]
      refine ⟨hnewest, htime, huptime, hextra, rfl, rfl, rfl, fun _ => ⟨?_, hlast, ?_, ?_⟩, fun h => absurd h hlarge⟩
      · show w.backup.lastStep = _
        rw [hbackup]
      · show nextSampleAfter w.interval _ = nextSampleAfter w.interval _
        rw [hlast]
        rfl
      · rw [State.answered_port]
        rfl

end Sys2Proof.Machine

end

section
/-! PROOFS. How a sample chooses the governing source, judges stall and disagreement, switches, and offers its stage to the
rise window (O14). -/

namespace Sys2Proof.Machine

-- one theorem at a time: many elaborated side by side would take a thread and its stack each
set_option Elab.async false

/-! ### The stall judgement (R36) -/

/-- A motionless stretch holds the count of any of its entries. -/
theorem motionless_iff {l : List StallEntry} {x : StallEntry} (hx : x ∈ l) :
    motionless l = true ↔ ∀ e ∈ l, e.good = true ∧ e.count = x.count := by
  cases l with
  | nil => cases hx
  | cons a l =>
    simp only [motionless, Bool.and_eq_true, List.all_eq_true, decide_eq_true_eq]
    constructor
    · rintro ⟨hgood, hall⟩ e he
      have hcount (y : StallEntry) (hy : y ∈ a :: l) : y.good = true ∧ y.count = a.count := by
        rcases List.mem_cons.1 hy with rfl | hy
        · exact ⟨hgood, rfl⟩
        · exact hall y hy
      exact ⟨(hcount e he).1, (hcount e he).2.trans (hcount x hx).2.symm⟩
    · intro h
      have ha := h a List.mem_cons_self
      exact ⟨ha.1, fun e he => ⟨(h e (List.mem_cons_of_mem _ he)).1, (h e (List.mem_cons_of_mem _ he)).2.trans ha.2.symm⟩⟩

theorem joinHistory_eq (h : List StallEntry) (e : StallEntry) :
    joinHistory h e = (if h.length < 20 then h else h.drop 1) ++ [e] := by
  unfold joinHistory stallLimitEntries
  by_cases hl : h.length < 20
  · rw [if_neg (Nat.not_le.2 hl), if_pos hl]
  · rw [if_pos (Nat.not_lt.1 hl), if_neg hl]

/-- The newest entry is among those that are judged. -/
theorem mem_drop_concat {l : List StallEntry} {e : StallEntry} {n : Nat} (hn : 1 ≤ n) :
    e ∈ (l ++ [e]).drop ((l ++ [e]).length - n) := by
  rw [List.length_append, List.length_singleton, List.drop_append_of_le_length (by omega)]
  simp

/-- When the newest entries show a stall: enough of them, motionless float, moving pressure (R36). -/
theorem stalled_iff {l : List StallEntry} {e : StallEntry} {samples limit : Int} (hs : 1 ≤ samples) :
    stalled (l ++ [e]) samples.toNat limit = true ↔ samples ≤ ((l ++ [e]).length : Int) ∧
      (∀ x ∈ (l ++ [e]).drop ((l ++ [e]).length - samples.toNat), x.good = true ∧ x.count = e.count) ∧
      ∃ a ∈ (l ++ [e]).drop ((l ++ [e]).length - samples.toNat),
        ∃ b ∈ (l ++ [e]).drop ((l ++ [e]).length - samples.toNat), limit < a.stage - b.stage := by
  have hmem : e ∈ (l ++ [e]).drop ((l ++ [e]).length - samples.toNat) := mem_drop_concat (by omega)
  simp only [stalled, Bool.and_eq_true, decide_eq_true_eq, motionless_iff hmem, movedMore, List.any_eq_true, and_assoc]
  refine and_congr (by omega) Iff.rfl

/-! ### The choice of the source (R37 to R39) -/

theorem Quality.fit_iff (q : Quality) : q.fit = true ↔ q = .good ∨ q = .restored := by
  simp [Quality.fit]

section
variable {x : Selector} {h : Handed}

theorem Selector.choice_float (hm : x.mode = .float) :
    x.choice h = (if h.floatQuality.fit then .float else .none, false) := by
  rw [Selector.choice, hm]

theorem Selector.choice_pressure (hm : x.mode = .pressure) :
    x.choice h = (if h.pressQuality = .good then .pressure else .none, false) := by
  rw [Selector.choice, hm]

theorem Selector.choice_first (hm : x.mode = .auto) (hf : h.floatQuality.fit = true) (hb : x.heldBack = false) :
    x.choice h = (.float, true) := by
  rw [Selector.choice, hm]
  exact if_pos (by rw [hf, hb]; rfl)

theorem Selector.choice_later (hm : x.mode = .auto) (hn : h.floatQuality.fit = false ∨ x.heldBack = true) :
    x.choice h = (if h.pressQuality = .good then .pressure
      else if h.floatQuality = .suspect ∨ h.floatQuality.fit = true then .float else .none, false) := by
  have hnot : ¬(h.floatQuality.fit && !x.heldBack) = true := by
    rcases hn with hn | hn <;> simp [hn]
  rw [Selector.choice, hm]
  show x.autoChoice h = _
  rw [Selector.autoChoice, if_neg hnot, apply_ite (fun s : Source => (s, false))]
  refine ite_congr_iff Iff.rfl rfl ?_
  rw [apply_ite (fun s : Source => (s, false))]

/-- Outside AUTO, and at preference 1, the away flag and the return count are cleared. -/
theorem Selector.chosen_clears {c : Source × Bool} (hc : x.mode ≠ .auto ∨ c.2 = true) :
    (x.chosen c).away = false ∧ (x.chosen c).returnCount = 0 := by
  unfold Selector.chosen
  by_cases hm : x.mode = .auto
  · rw [if_neg (not_not_intro hm), if_pos (hc.resolve_left (not_not_intro hm))]
    exact ⟨rfl, rfl⟩
  · rw [if_pos hm]
    exact ⟨rfl, rfl⟩

/-- In AUTO, below preference 1, the away flag is set as the float is left (R39). -/
theorem Selector.chosen_leaves {c : Source} (hm : x.mode = .auto) :
    ((x.chosen (c, false)).away = true ↔ x.away = true ∨ (x.current = some .float ∧ c ≠ .float)) ∧
      (x.chosen (c, false)).returnCount = x.returnCount := by
  unfold Selector.chosen
  rw [if_neg (not_not_intro hm), if_neg Bool.false_ne_true]
  split
  · next hl => exact ⟨iff_of_true rfl (.inr hl), rfl⟩
  · next hl => exact ⟨(or_iff_left hl).symm, rfl⟩

end

/-! ### Disagreement (R40) -/

section
variable {x : Selector} {h : Handed}

theorem Handed.bothValid_iff : h.bothValid = true ↔
    ((h.floatQuality = .good ∨ h.floatQuality = .restored) ∨ h.floatQuality = .suspect) ∧ h.pressQuality = .good := by
  simp only [Handed.bothValid, Bool.and_eq_true, Bool.or_eq_true, Quality.fit_iff, decide_eq_true_eq]

theorem Selector.judged_unjudged (hb : h.bothValid = false) : x.judged h = x := if_pos hb

theorem Selector.judged_close (hb : h.bothValid = true) (ha : h.apart x.disagreeLimit = false) :
    (x.judged h).disagreeCount = 0 ∧ (x.judged h).disagree = false := by
  rw [Selector.judged, if_neg (by simp [hb]), if_neg (by simp [ha])]
  exact ⟨rfl, rfl⟩

theorem Selector.judged_apart (hb : h.bothValid = true) (ha : h.apart x.disagreeLimit = true) :
    (x.judged h).disagreeCount = min 3 (x.disagreeCount + 1) ∧
      ((x.judged h).disagree = true ↔ x.disagree = true ∨ 2 ≤ x.disagreeCount) := by
  rw [Selector.judged, if_neg (by simp [hb]), if_pos ha]
  simp only [saturate_eq_min, Bool.or_eq_true, decide_eq_true_eq]
  refine ⟨trivial, or_congr Iff.rfl (by omega)⟩

end

/-! ### The rise window (R46, R48) -/

theorem offerRank_old {w : List Rank} {now : Nat} {stage : Int}
    (h : ∀ n, w.getLast? = some n → n.uptime + 60 ≤ now) :
    offerRank w now stage = (if w.length < 12 then w else w.drop 1) ++ [⟨now, stage⟩] := by
  have hfits : (match newestRank w with
      | none => true
      | some n => decide (n.uptime + rankStep ≤ now)) = true := by
    unfold newestRank
    cases hn : w.getLast? with
    | none => rfl
    | some n => exact decide_eq_true (h n hn)
  rw [offerRank]
  refine (if_pos hfits).trans (congrArg (· ++ _) ?_)
  unfold rankLimit
  by_cases hl : w.length < 12
  · rw [if_pos hl, if_neg (Nat.not_le.2 hl)]
  · rw [if_neg hl, if_pos (Nat.not_lt.1 hl)]

theorem offerRank_recent {w : List Rank} {now : Nat} {stage : Int} {n : Rank} (hn : w.getLast? = some n)
    (h : now < n.uptime + 60) : offerRank w now stage = w := by
  have hnot : ¬(match newestRank w with
      | none => true
      | some n => decide (n.uptime + rankStep ≤ now)) = true := by
    unfold newestRank rankStep
    rw [hn]
    simpa using h
  rw [offerRank]
  exact if_neg hnot

/-- The rate the window gives, once its span is long enough (R48). -/
theorem windowRate_eq {w : List Rank} {rateWindow minSpan : Int} {n o : Rank} (hm : 1 ≤ minSpan)
    (hn : w.getLast? = some n)
    (ho : w.find? (fun r => decide ((n.uptime : Int) - rateWindow ≤ r.uptime)) = some o) :
    windowRate w rateWindow minSpan = if minSpan ≤ ((n.uptime - o.uptime : Nat) : Int)
      then some (max (-32767) (min 32767 (roundHalfAway ((n.stage - o.stage) * 3600) (n.uptime - o.uptime)))) else none := by
  have ho' : oldestSince w ((n.uptime : Int) - rateWindow) = some o := ho
  unfold windowRate newestRank
  rw [hn]
  dsimp only
  rw [ho']
  dsimp only
  by_cases hs : minSpan ≤ ((n.uptime - o.uptime : Nat) : Int)
  · rw [if_pos hs, if_neg (by omega), clampInt_eq_max_min _ (by decide)]
  · rw [if_neg hs, if_pos (.inr (Int.not_le.1 hs))]

/-! ### What a sample raises on its way (R36, R40, R41) -/

/-- A sample up to its judgement of disagreement. -/
theorem State.formSample_judged (s : State) (extra : Bool) : ∃ u : State,
    u.sel = (s.stallSel.counted s.stallFloat.quality).chosen s.sampleChoice ∧ u.phase = s.phase ∧
      s.formSample extra = (((u.sampleJudge s.sampleHanded).sampleSwitch s.sampleChoice.1).sampleOffer
        (s.sampleHanded.stageOf s.sampleChoice.1)).deliver (s.sampleOf extra) := by
  obtain ⟨ps, hstall⟩ := s.sampleStall_view
  obtain ⟨ps', hhand⟩ := State.sampleHand_view s.sampleLoad.sampleStall
  refine ⟨_, ?_, ?_, State.formSample_eq s extra⟩
  · rw [hhand, hstall]
    rfl
  · rw [hhand, hstall]
    rfl

/-- Counting the float's return and taking the choice leave the state of disagreement. -/
theorem Selector.chosen_disagree (x : Selector) (q : Quality) (c : Source × Bool) :
    ((x.counted q).chosen c).disagree = x.disagree ∧ ((x.counted q).chosen c).disagreeCount = x.disagreeCount ∧
      ((x.counted q).chosen c).disagreeLimit = x.disagreeLimit := by
  have hcounted : (x.counted q).disagree = x.disagree ∧ (x.counted q).disagreeCount = x.disagreeCount ∧
      (x.counted q).disagreeLimit = x.disagreeLimit := by
    unfold Selector.counted
    split <;> exact ⟨rfl, rfl, rfl⟩
  rw [← hcounted.1, ← hcounted.2.1, ← hcounted.2.2]
  unfold Selector.chosen
  split
  · exact ⟨rfl, rfl, rfl⟩
  · split
    · exact ⟨rfl, rfl, rfl⟩
    · split <;> exact ⟨rfl, rfl, rfl⟩

section
variable {s : State} {extra : Bool} (hready : s.phase = .ready)
include hready

theorem State.formSample_stalled_pending (hm : s.floatCh.stallMark = false) (hf : s.stallFound = true) :
    (s.formSample extra).pendingWhereEnabled .floatStalled := by
  have hstall : s.sampleLoad.sampleStall = State.raiseAll { s with
      sel := s.stallSel, floatCh := { s.loadChannels.floatCh with stallMark := true }
      pressCh := s.loadChannels.pressCh } .floatStalled := if_pos ⟨hm, hf⟩
  have hraised : s.sampleLoad.sampleStall.pendingWhereEnabled .floatStalled := by
    rw [hstall]
    exact State.raiseAll_pendingWhere hready
  have hphase : s.sampleLoad.sampleStall.sampleHand.phase = .ready := by
    rw [(State.sampleHand_keeps (but := []) _).phase_eq, (State.sampleStall_keeps (but := []) _).phase_eq]
    exact hready
  exact ((State.sampleHand_keeps _).trans (State.sampleGovern_keeps _ extra hphase)).pending hraised

theorem State.formSample_disagree_pending (hd : s.sel.disagree = false) (hj : s.sampleSel.disagree = true) :
    (s.formSample extra).pendingWhereEnabled .sourcesDisagree := by
  obtain ⟨u, hsel, hphase, hform⟩ := State.formSample_judged s extra
  have hready' : u.phase = .ready := hphase.trans hready
  have hraised : (u.sampleJudge s.sampleHanded).pendingWhereEnabled .sourcesDisagree := by
    have hsw : (!u.sel.disagree && (u.sel.judged s.sampleHanded).disagree) = true := by
      have hu : u.sel.disagree = false := by
        rw [hsel, (Selector.chosen_disagree ..).1]
        exact hd
      have hj' : (u.sel.judged s.sampleHanded).disagree = true := by
        rw [hsel]
        exact hj
      rw [hu, hj']
      rfl
    rw [State.sampleJudge]
    rw [if_pos hsw]
    exact State.raiseAll_pendingWhere hready'
  rw [hform]
  refine (((State.sampleSwitch_keeps _ _).trans (State.sampleOffer_keeps _ _)).trans (State.deliver_keeps _ ?_)).pending hraised
  rw [(State.sampleOffer_keeps (but := []) _ _).phase_eq, (State.sampleSwitch_keeps (but := []) _ _).phase_eq,
    (State.sampleJudge_keeps (but := []) _ _).phase_eq]
  exact hready'

theorem State.formSample_switch_pending (hs : s.sampleSwitches = true) :
    (s.formSample extra).pendingWhereEnabled .sourceSwitched := by
  obtain ⟨u, hsel, hphase, hform⟩ := State.formSample_judged s extra
  have hready' : (u.sampleJudge s.sampleHanded).phase = .ready := by
    rw [(State.sampleJudge_keeps (but := []) _ _).phase_eq]
    exact hphase.trans hready
  obtain ⟨ps, hjudge⟩ := u.sampleJudge_view s.sampleHanded
  have hsw : (u.sampleJudge s.sampleHanded).sel.switches s.sampleChoice.1 = true := by
    rw [hjudge, ← hs, hsel]
    exact Selector.switches_congr s.judgedSel_current _
  have hraised : ((u.sampleJudge s.sampleHanded).sampleSwitch s.sampleChoice.1).pendingWhereEnabled .sourceSwitched := by
    rw [State.sampleSwitch]
    rw [if_pos hsw]
    refine ((State.markSource_keeps _).trans (State.park_keeps _ _)).pending ?_
    exact State.raiseAll_pendingWhere (s := (u.sampleJudge s.sampleHanded).mapSel fun x =>
      { x with current := some s.sampleChoice.1 }) hready'
  rw [hform]
  refine ((State.sampleOffer_keeps _ _).trans (State.deliver_keeps _ ?_)).pending hraised
  rw [(State.sampleOffer_keeps (but := []) _ _).phase_eq, (State.sampleSwitch_keeps (but := []) _ _).phase_eq]
  exact hready'

end

/-! ### What a sample's selector is -/

section
variable (s : State)

/-- The selector as the choice is made (R39). -/
def State.countedSel : Selector := s.stallSel.counted s.stallFloat.quality

/-- Whether the mode in force changes at this sample (R34). -/
def State.modeChanges : Prop := s.sel.current ≠ none ∧ sourceModeOf (s.cfg.get .sourceMode) ≠ s.sel.mode

theorem State.countedSel_mode : s.countedSel.mode = sourceModeOf (s.cfg.get .sourceMode) :=
  (Selector.counted_frame ..).2.2.1

theorem State.loaded_cases : (s.modeChanges → s.stallSel.away = false ∧ s.stallSel.returnCount = 0) ∧
    (¬s.modeChanges → s.stallSel.away = s.sel.away ∧ s.stallSel.returnCount = s.sel.returnCount) := by
  have hiff : (s.sel.current.isSome && decide (sourceModeOf (s.cfg.get .sourceMode) ≠ s.sel.mode)) = true ↔
      s.modeChanges := by
    rw [State.modeChanges, Bool.and_eq_true, decide_eq_true_eq, Option.isSome_iff_ne_none]
  refine ⟨fun h => ⟨if_pos (hiff.2 h), if_pos (hiff.2 h)⟩, fun h => ?_⟩
  have hn := fun hc => h (hiff.1 hc)
  exact ⟨if_neg hn, if_neg hn⟩

theorem State.countedSel_away : s.countedSel.away = true ↔ ¬s.modeChanges ∧ s.sel.away = true := by
  obtain ⟨hc, hn⟩ := s.loaded_cases
  rw [State.countedSel, (Selector.counted_frame ..).2.2.2]
  by_cases h : s.modeChanges
  · simp [(hc h).1, h]
  · simp [(hn h).1, h]

/-- The return count as the choice is made (R34, R39). -/
theorem State.countedSel_returnCount {away : Prop} [Decidable away] (hA : away ↔ ¬s.modeChanges ∧ s.sel.away = true)
    {before : Nat} (hc : s.modeChanges → before = 0) (hn : ¬s.modeChanges → before = s.sel.returnCount) :
    s.countedSel.returnCount = if sourceModeOf (s.cfg.get .sourceMode) = .auto ∧ away
      then (if s.stallFloat.quality = .good then min 3 (before + 1) else 0) else before := by
  obtain ⟨hcleared, hkept⟩ := s.loaded_cases
  have hbefore : s.stallSel.returnCount = before := by
    by_cases h : s.modeChanges
    · rw [(hcleared h).2, hc h]
    · rw [(hkept h).2, hn h]
  have haway : s.stallSel.away = true ↔ away := by
    rw [hA, ← s.countedSel_away, State.countedSel, (Selector.counted_frame ..).2.2.2]
  unfold State.countedSel Selector.counted
  by_cases h : sourceModeOf (s.cfg.get .sourceMode) = .auto ∧ away
  · rw [if_pos h, if_pos ⟨h.1, haway.2 h.2⟩, ← hbefore, saturate_eq_min]
  · rw [if_neg h, if_neg fun ⟨hm, ha⟩ => h ⟨hm, haway.1 ha⟩, hbefore]

theorem State.sampleSel_chosen : s.sampleSel.away = (s.countedSel.chosen s.sampleChoice).away ∧
    s.sampleSel.returnCount = (s.countedSel.chosen s.sampleChoice).returnCount := by
  obtain ⟨-, haway, hcount, -⟩ := Selector.judged_frame (s.countedSel.chosen s.sampleChoice) s.sampleHanded
  exact ⟨haway, hcount⟩

theorem State.countedSel_current : s.countedSel.current = s.sel.current := (Selector.counted_frame ..).1

theorem State.sampleSel_history : s.sampleSel.history =
    (if s.sel.history.length < 20 then s.sel.history else s.sel.history.drop 1) ++ [s.loadChannels.stallEntry] := by
  obtain ⟨-, -, -, hj⟩ := Selector.judged_frame (s.countedSel.chosen s.sampleChoice) s.sampleHanded
  rw [← joinHistory_eq]
  exact hj.trans ((Selector.chosen_frame ..).2.trans (Selector.counted_frame ..).2.1)

/-- The judgement of disagreement starts from the count and the state before (R40). -/
theorem State.sampleSel_judged : let x := s.countedSel.chosen s.sampleChoice
    s.sampleSel.disagree = (x.judged s.sampleHanded).disagree ∧
      s.sampleSel.disagreeCount = (x.judged s.sampleHanded).disagreeCount ∧
      x.disagree = s.sel.disagree ∧ x.disagreeCount = s.sel.disagreeCount ∧
      x.disagreeLimit = s.cfg.get .disagreeLimit := by
  obtain ⟨hd, hc, hl⟩ := Selector.chosen_disagree s.stallSel s.stallFloat.quality s.sampleChoice
  exact ⟨rfl, rfl, hd, hc, hl⟩

end

/-! ### The schedule of a sample is no part of what it forms -/

section
variable (s : State)

@[simp] theorem State.firing_stallSel : s.firing.stallSel = s.stallSel := rfl

@[simp] theorem State.firing_stallFloat : s.firing.stallFloat = s.stallFloat := rfl

@[simp] theorem State.firing_sampleHanded : s.firing.sampleHanded = s.sampleHanded := rfl

@[simp] theorem State.firing_sampleChoice : s.firing.sampleChoice = s.sampleChoice := by
  rw [State.sampleChoice, State.firing_stallSel, State.firing_stallFloat, State.firing_sampleHanded, State.sampleChoice]

@[simp] theorem State.firing_sampleSel : s.firing.sampleSel = s.sampleSel := by
  rw [State.sampleSel, State.firing_stallSel, State.firing_stallFloat, State.firing_sampleHanded, State.firing_sampleChoice,
    State.sampleSel]

@[simp] theorem State.firing_sampleSwitches : s.firing.sampleSwitches = s.sampleSwitches := by
  rw [State.sampleSwitches, State.firing_sampleChoice, State.sampleSwitches]
  rfl

@[simp] theorem State.firing_sampleWindow : s.firing.sampleWindow = s.sampleWindow := by
  unfold State.sampleWindow
  rw [State.firing_sampleHanded, State.firing_sampleChoice, State.firing_sampleSwitches]
  rfl

@[simp] theorem State.firing_sampleOf (extra : Bool) : s.firing.sampleOf extra = s.sampleOf extra := by
  unfold State.sampleOf
  rw [State.firing_sampleHanded, State.firing_sampleChoice, State.firing_sampleWindow, State.firing_sampleSel]
  rfl

end

theorem State.sampleWindow_absent (s : State) (h : s.sampleHanded.stageOf s.sampleChoice.1 = none) :
    s.sampleWindow = if s.sampleSwitches then [] else s.window := by
  rw [State.sampleWindow, h]

theorem State.sampleWindow_present (s : State) {stage : Int} (h : s.sampleHanded.stageOf s.sampleChoice.1 = some stage) :
    s.sampleWindow = offerRank (if s.sampleSwitches then [] else s.window) s.uptime stage := by
  rw [State.sampleWindow, h]

/-- A switch of source marks an active run, and parks it if its mask says so (R42, R104). -/
theorem State.formSample_switched {s : State} {r : Run} {extra : Bool} (hr : s.run = some r) (ha : r.active = true)
    (hs : s.sampleSwitches = true) : ∃ r', (s.formSample extra).run = some r' ∧ r'.sourceChanged = true ∧
      (r.desc.sourceSwitch = true → r'.state = .parked ∧ r'.parkReason = some .sourceSwitch) := by
  obtain ⟨u, ps, m, -, -, -, -, hview⟩ := s.formSample_view extra
  obtain ⟨r', hr', -, hparks, hstays, hrises⟩ := State.formSample_run (extra := extra)
    (silence := r.silenceStart) hr fun _ => r.marked_self
  refine ⟨r', by rw [hview]; exact hr', ?_⟩
  by_cases hp : s.switchParks r
  · rw [hparks ha hp]
    exact ⟨rfl, fun _ => ⟨rfl, rfl⟩⟩
  · have hmask : r.desc.sourceSwitch = true → False := fun h => hp ⟨hs, h⟩
    refine ⟨?_, fun h => (hmask h).elim⟩
    by_cases hrise : s.risesAbove (s.evaluate (s.sampleOf extra)).warn.level
    · obtain ⟨changed, h | h, hc⟩ := hrises ha hp hrise
      · rw [h]
        exact hc hs
      · rw [h]
        exact hc hs
    · obtain ⟨changed, h, hc⟩ := hstays ha hp hrise
      rw [h]
      exact hc hs

/-- Settles O14: the steps of R35 by the selector they leave, and what they raise. -/
theorem governingSourceIsChosenAndSwitched : Obligations.GoverningSourceIsChosenAndSwitched := by
  intro s hready hdue hcfg mode entry history judged found changed
  have hexec : exec .scheduledSample s = .next (s.firing.formSample false) := by
    show Host.Outcome.next s.scheduledSample = _
    rw [State.scheduledSample_due (s.sampleDue_iff.2 ⟨hready, hdue⟩)]
  obtain ⟨u, ps, m, -, -, -, -, hview⟩ := s.firing.formSample_view false
  have hstallpend := State.formSample_stalled_pending (s := s.firing) (extra := false) hready
  have hdispend := State.formSample_disagree_pending (s := s.firing) (extra := false) hready
  have hswpend := State.formSample_switch_pending (s := s.firing) (extra := false) hready
  have hsample : (s.firing.composedOf false).sample = s.sampleOf false := s.firing_sampleOf false
  have hsel : (s.firing.formSample false).sel = { s.sampleSel with newest := some (s.firing.composedOf false) } := by
    rw [hview, State.firing_sampleSel]
  refine ⟨_, s.firing.composedOf false, hexec, by rw [hsel], ?_⟩
  have hmark : (s.firing.formSample false).floatCh.stallMark = (s.floatCh.stallMark || s.stallFound) := by
    rw [hview]
    rfl
  have hwindow : (s.firing.formSample false).window = s.sampleWindow := by rw [hview, State.firing_sampleWindow]
  have hfound : s.stallFound = true ↔ found := by
    have hbounds := LiveConfig.get_bounds_of_inRange hcfg .stallSamples
    have hlow : 1 ≤ s.cfg.get .stallSamples := Int.le_trans (by decide) hbounds.1
    have hhist : s.stallSel.history = history := joinHistory_eq ..
    show stalled s.stallSel.history _ _ = true ↔ _
    rw [hhist]
    exact stalled_iff hlow
  have hspan : 1 ≤ s.cfg.get .minSpan :=
    Int.le_trans (by decide) (LiveConfig.get_bounds_of_inRange hcfg .minSpan).1
  rw [hsample, hsel, hmark, hwindow]
  intro x fit away before count heldBack both apart switch window
  have hmode : s.countedSel.mode = mode := s.countedSel_mode
  have hfit : s.sampleHanded.floatQuality.fit = true ↔ fit := Quality.fit_iff _
  have hcount : s.countedSel.returnCount = count :=
    s.countedSel_returnCount (away := away) (before := before) Iff.rfl (fun h => if_pos h) fun h => if_neg h
  have hheld : s.countedSel.heldBack = true ↔ heldBack := by
    rw [Selector.heldBack, Bool.and_eq_true, decide_eq_true_eq, hcount]
    exact and_congr s.countedSel_away Iff.rfl
  have hchosen := s.sampleSel_chosen
  have hsource : x.source = s.sampleChoice.1 := rfl
  have hchoice : s.sampleChoice = s.countedSel.choice s.sampleHanded := rfl
  have hsw : s.sampleSwitches = true ↔ switch := Selector.switches_iff ..
  have hbase : (if s.sampleSwitches then [] else s.window) = window := ite_congr_iff hsw rfl rfl
  refine ⟨s.sampleSel_history, ?_, ?_, fun hm => ?_, fun hm => ?_, fun hm => ?_, fun hm hf hb => ?_, fun hm hn => ?_, ?_, ?_, ?_,
    ?_, rfl, ?_, ?_, ?_⟩
  · rw [Bool.or_eq_true, hfound]
  · exact fun hm hf => hstallpend hm (hfound.2 hf)
  · rw [hsource, hchoice, Selector.choice_float (hmode.trans hm)]
    exact ⟨fun hf => if_pos (hfit.2 hf), fun hf => if_neg fun h => hf (hfit.1 h)⟩
  · rw [hsource, hchoice, Selector.choice_pressure (hmode.trans hm)]
    exact ⟨fun hq => if_pos hq, fun hq => if_neg hq⟩
  · obtain ⟨haway, hrc⟩ := Selector.chosen_clears (x := s.countedSel) (c := s.sampleChoice) (.inl (hmode.symm ▸ hm))
    exact ⟨hchosen.1.trans haway, hchosen.2.trans hrc⟩
  · have hfirst := Selector.choice_first (h := s.sampleHanded) (hmode.trans hm) (hfit.2 hf) (eq_false_of_ne_true fun h => hb (hheld.1 h))
    obtain ⟨haway, hrc⟩ := Selector.chosen_clears (x := s.countedSel) (c := s.sampleChoice) (.inr (by rw [hchoice, hfirst]))
    exact ⟨by rw [hsource, hchoice, hfirst], hchosen.1.trans haway, hchosen.2.trans hrc⟩
  · have hlater := Selector.choice_later (h := s.sampleHanded) (hmode.trans hm)
      (hn.imp (fun hf => eq_false_of_ne_true fun h => hf (hfit.1 h)) hheld.2)
    have hpair : s.sampleChoice = (s.sampleChoice.1, false) := by rw [hchoice, hlater]
    obtain ⟨haway, hrc⟩ := Selector.chosen_leaves (x := s.countedSel) (c := s.sampleChoice.1) (hmode.trans hm)
    rw [← hpair] at haway hrc
    refine ⟨fun hq => ?_, fun hq hf => ?_, fun hq hf hs => ?_, ?_, ?_⟩
    · rw [hsource, hchoice, hlater]
      exact if_pos hq
    · rw [hsource, hchoice, hlater]
      exact (if_neg hq).trans (if_pos (hf.symm.imp_right hfit.2))
    · rw [hsource, hchoice, hlater]
      exact (if_neg hq).trans (if_neg fun h => h.elim hs fun h => hf (hfit.1 h))
    · rw [hsource, ← s.countedSel_current]
      show s.sampleSel.away = true ↔ _
      rw [hchosen.1, haway, s.countedSel_away]
      rfl
    · exact hchosen.2.trans (hrc.trans hcount)
  · intro hb
    have hb' : s.sampleHanded.bothValid = false := eq_false_of_ne_true fun h => hb (Handed.bothValid_iff.1 h)
    obtain ⟨hjd, hjc, hd, hc, -⟩ := s.sampleSel_judged
    rw [Selector.judged_unjudged hb'] at hjd hjc
    refine ⟨hjc.trans hc, hjd.trans hd, ?_⟩
    show (s.sampleHanded.bothValid && s.sampleSel.disagree) = false
    rw [hb']
    rfl
  · intro hb ha
    have hb' : s.sampleHanded.bothValid = true := Handed.bothValid_iff.2 hb
    obtain ⟨hjd, hjc, -, -, hl⟩ := s.sampleSel_judged
    obtain ⟨hcount0, hdis⟩ := Selector.judged_close (x := s.countedSel.chosen s.sampleChoice) hb'
      (by rw [hl]; exact decide_eq_false ha)
    refine ⟨hjc.trans hcount0, hjd.trans hdis, ?_⟩
    show (s.sampleHanded.bothValid && s.sampleSel.disagree) = false
    rw [hjd, hdis, Bool.and_false]
  · intro hb ha
    have hb' : s.sampleHanded.bothValid = true := Handed.bothValid_iff.2 hb
    obtain ⟨hjd, hjc, hd, hc, hl⟩ := s.sampleSel_judged
    obtain ⟨hcount1, hdis⟩ := Selector.judged_apart (x := s.countedSel.chosen s.sampleChoice) hb'
      (by rw [hl]; exact decide_eq_true ha)
    refine ⟨?_, ?_, ?_⟩
    · rw [← hc]
      exact hjc.trans hcount1
    · rw [← hd, ← hc]
      exact (Bool.eq_iff_iff.1 hjd).trans hdis
    · show (s.sampleHanded.bothValid && s.sampleSel.disagree) = s.sampleSel.disagree
      rw [hb', Bool.true_and]
  · exact fun hd hj => hdispend hd (by rw [State.firing_sampleSel]; exact hj)
  · intro hs
    have hs' : s.firing.sampleSwitches = true := s.firing_sampleSwitches.trans (hsw.2 hs)
    exact ⟨hswpend hs', fun r hr ha => State.formSample_switched hr ha hs'⟩
  · intro hnone
    have hnone' : s.sampleHanded.stageOf s.sampleChoice.1 = none := hnone
    refine ⟨(s.sampleWindow_absent hnone').trans hbase, ?_⟩
    show (match s.sampleHanded.stageOf s.sampleChoice.1 with
      | none => none
      | some _ => windowRate s.sampleWindow (s.cfg.get .rateWindow) (s.cfg.get .minSpan)) = none
    rw [hnone']
  · intro h hstage
    have hstage' : s.sampleHanded.stageOf s.sampleChoice.1 = some h := hstage
    have hoffer : s.sampleWindow = offerRank window s.uptime h :=
      (s.sampleWindow_present hstage').trans (by rw [hbase])
    refine ⟨fun hold => hoffer.trans (offerRank_old hold), fun n hn hlt => hoffer.trans (offerRank_recent hn hlt),
      fun n o hn ho => ?_⟩
    rw [← windowRate_eq hspan hn ho]
    show (match s.sampleHanded.stageOf s.sampleChoice.1 with
      | none => none
      | some _ => windowRate s.sampleWindow (s.cfg.get .rateWindow) (s.cfg.get .minSpan)) = _
    rw [hstage']

end Sys2Proof.Machine

end

section
/-! PROOFS. What the DRAFT slot refuses and DRAFT_ACTIVATE (O34, O39). -/

namespace Sys2Proof.Machine

-- one theorem at a time: many elaborated side by side would take a thread and its stack each
set_option Elab.async false

/-! ### Payloads of the right length are read -/

theorem parseEmpty_some {pl : List Byte} (h : pl.length = 0) : parseEmpty pl = some () := by
  cases List.eq_nil_of_length_eq_zero h
  rfl

theorem parseByte_some {pl : List Byte} (h : pl.length = 1) : ∃ n, parseByte pl = some n := by
  obtain ⟨a, rfl⟩ := List.length_eq_one_iff.1 h
  exact ⟨_, rfl⟩

theorem parseSigned_some {pl : List Byte} (h : pl.length = 2) : ∃ x, parseSigned pl = some x := by
  match pl, h with
  | [_, _], _ => exact ⟨_, rfl⟩

theorem parseShift_some {pl : List Byte} (h : pl.length = 7) : ∃ x, parseShift pl = some x := by
  match pl, h with
  | [_, _, _, _, _, _, _], _ => exact ⟨_, rfl⟩

theorem parsePoints_some {bs : List Byte} (h : bs.length % 6 = 0) : ∃ ps, parsePoints bs = some ps := by
  induction bs using parsePoints.induct with
  | case1 => exact ⟨[], rfl⟩
  | case2 a b q0 q1 q2 q3 rest ih =>
    obtain ⟨ps, hps⟩ := ih (by simp only [List.length_cons] at h; omega)
    exact ⟨_, by rw [parsePoints, hps]; rfl⟩
  | case3 bs hnil hshort =>
    match bs, h with
    | [], _ => exact absurd rfl hnil
    | a :: b :: q0 :: q1 :: q2 :: q3 :: rest, _ => exact absurd rfl (hshort a b q0 q1 q2 q3 rest)

theorem parsePutPoints_some {pl : List Byte} (hmod : pl.length % 6 = 1) (hlo : 7 ≤ pl.length) (hhi : pl.length ≤ 121) :
    ∃ x, parsePutPoints pl = some x := by
  match pl with
  | i :: rest =>
    rw [List.length_cons] at hmod hlo hhi
    obtain ⟨ps, hps⟩ := parsePoints_some (bs := rest) (by omega)
    have hlen := length_of_parsePoints hps
    have hcount : 1 ≤ ps.length ∧ ps.length ≤ 20 := by omega
    exact ⟨(i.toNat, ps), by simp only [parsePutPoints, hps, if_pos hcount]⟩

/-! ### What the table refuses (R52) -/

/-- What R52's table calls the command of a code. -/
def draftCommandOf (code : Byte) : DraftCommand :=
  if code = 0x22#8 then .begin else if code = 0x27#8 then .activate else if code = 0x28#8 then .discard else .edit

theorem editDraft_held {s : State} {p : Port} {st : Status} (h : s.rating.draftCheck p .edit = some st)
    (edit : RatingSet → Option (RatingSet × Answer)) : editDraft p s edit = (s, some ⟨st, []⟩) := by
  simp only [editDraft, h, refuse]

/-- A draft command of the right length that the table refuses changes nothing. -/
theorem requestBlock_draft_refused {i : Instr} {r : Request} (hi : requestOf i = some r) (hlo : 0x22 ≤ r.code.toNat)
    (hhi : r.code.toNat ≤ 0x28) (hlen : payloadLengthFits r.code r.payload.length = true) {s : State} {st : Status}
    (h : s.rating.draftCheck r.port (draftCommandOf r.code) = some st) :
    requestBlock i s = (s, some ⟨st, []⟩) := by
  cases i <;> cases hi <;> simp at hlo hhi
  case draftBegin p pl =>
    obtain ⟨n, hn⟩ := parseByte_some (pl := pl) (eq_of_beq hlen)
    have hd : s.rating.draftCheck p .begin = some st := h
    simp only [requestBlock, draftBegin, hn, hd, refuse]
  case draftPutPoints p pl =>
    have hfits : (pl.length % 6 == 1 && decide (7 ≤ pl.length) && decide (pl.length ≤ 121)) = true := hlen
    simp only [Bool.and_eq_true, beq_iff_eq, decide_eq_true_eq] at hfits
    obtain ⟨⟨first, new⟩, hx⟩ := parsePutPoints_some hfits.1.1 hfits.1.2 hfits.2
    simp only [requestBlock, draftPutPoints, hx]
    exact editDraft_held h _
  case draftTruncate p pl =>
    obtain ⟨n, hn⟩ := parseByte_some (pl := pl) (eq_of_beq hlen)
    simp only [requestBlock, draftTruncate, hn]
    exact editDraft_held h _
  case draftPutShift p pl =>
    obtain ⟨⟨index, e⟩, hx⟩ := parseShift_some (pl := pl) (eq_of_beq hlen)
    simp only [requestBlock, draftPutShift, hx]
    exact editDraft_held h _
  case draftSetExtension p pl =>
    obtain ⟨n, hn⟩ := parseSigned_some (pl := pl) (eq_of_beq hlen)
    simp only [requestBlock, draftSetExtension, hn]
    exact editDraft_held h _
  case draftActivate p pl =>
    have hd : s.rating.draftCheck p .activate = some st := h
    simp only [requestBlock, draftActivate, parseEmpty_some (pl := pl) (eq_of_beq hlen), hd, refuse]
  case draftDiscard p pl =>
    have hd : s.rating.draftCheck p .discard = some st := h
    simp only [requestBlock, draftDiscard, parseEmpty_some (pl := pl) (eq_of_beq hlen), hd, refuse]

section
variable {u : RatingUnit} {p : Port} {c : DraftCommand}

theorem RatingUnit.draftCheck_other {owner : Port} {d : RatingSet} (h : u.draft = .editing owner d) (ho : owner ≠ p) :
    u.draftCheck p c = some .held := by
  simp [RatingUnit.draftCheck, h, ho]

theorem RatingUnit.draftCheck_activating {owner : Port} (h : u.draft = .activating owner) :
    u.draftCheck p c = some .held := by
  simp [RatingUnit.draftCheck, h]

theorem RatingUnit.draftCheck_empty (h : u.draft = .empty) (hc : c ≠ .begin) : u.draftCheck p c = some .wrongState := by
  simp [RatingUnit.draftCheck, h, hc]

theorem RatingUnit.draftCheck_previous_edit {d : RatingSet} (h : u.draft = .previous d) :
    u.draftCheck p .edit = some .wrongState := by
  simp [RatingUnit.draftCheck, h]

/-- A slot from which DRAFT_ACTIVATE is taken: the port's own draft, or the PREVIOUS set. -/
def RatingUnit.activatable (u : RatingUnit) (p : Port) : Prop :=
  (∃ d, u.draft = .editing p d) ∨ ∃ d, u.draft = .previous d

theorem RatingUnit.draftCheck_activate (h : u.activatable p) :
    u.draftCheck p .activate = if u.releasedInFlight then some .busy else none := by
  rcases h with ⟨d, h⟩ | ⟨d, h⟩ <;> simp [RatingUnit.draftCheck, h]

end

/-- Settles O34: each line of the table is one refusal of `draftCheck`, which every draft command asks first. -/
theorem draftCommandsFollowTheSlot : Obligations.DraftCommandsFollowTheSlot := by
  intro i r s hi ht hlo hhi hlen refused
  have hmaint : sampledMaint i s = s := by
    cases i
    case setPermissions | writeIdent =>
      cases hi
      simp at hhi
    all_goals rfl
  have key {st : Status} (h : s.rating.draftCheck r.port (draftCommandOf r.code) = some st) : refused st := by
    show exec i s = _
    rw [exec_request hi, hmaint, State.serve_of_answer (a := ⟨st, []⟩) ht
      (requestBlock_draft_refused hi hlo hhi hlen (by simpa using h))]
  refine ⟨fun owner d hd ho => key (RatingUnit.draftCheck_other hd ho),
    fun owner hd => key (RatingUnit.draftCheck_activating hd),
    fun hd hcode => key (RatingUnit.draftCheck_empty hd ?_), fun d hd h23 h26 => key ?_, fun f hf hown hcode hd => key ?_⟩
  · rw [draftCommandOf, if_neg hcode]
    split
    · simp
    · split <;> simp
  · have hedit : draftCommandOf r.code = .edit := by
      have hne (n : Nat) (hn : n < 0x23 ∨ 0x26 < n ∧ n < 256) : r.code ≠ BitVec.ofNat 8 n := by
        rintro h
        rw [h, BitVec.toNat_ofNat] at h23 h26
        omega
      rw [draftCommandOf, if_neg (hne _ (by omega)), if_neg (hne _ (by omega)), if_neg (hne _ (by omega))]
    rw [hedit]
    exact RatingUnit.draftCheck_previous_edit hd
  · have hact : draftCommandOf r.code = .activate := by
      rw [hcode]
      rfl
    have hrel : s.rating.releasedInFlight = true := by
      simp [RatingUnit.releasedInFlight, hf, hown]
    rw [hact, RatingUnit.draftCheck_activate hd, if_pos hrel]

/-! ### DRAFT_ACTIVATE (R59, R60, R62, R63) -/

theorem State.activate_begun {s : State} (h : s.store.degraded = false) (p : Port) (set : RatingSet)
    (old : Option Nat) : s.activate p set old = (s.beginActivation p set old, none) := by
  rw [State.activate, h]
  rfl

theorem State.activate_refused {s : State} (h : s.store.degraded = true) (p : Port) (set : RatingSet)
    (old : Option Nat) : s.activate p set old = (s, some ⟨.storeFault, []⟩) := by
  rw [State.activate, h]
  rfl

section
variable {s : State} {p : Port} (hrel : s.rating.releasedInFlight = false)
include hrel

theorem draftActivate_fault {d : RatingSet} (hd : s.rating.draft = .editing p d) {kind index : Nat}
    (hf : d.activationFault = some (kind, index)) :
    draftActivate p [] s = (s, some ⟨.checkFailed, le8 kind ++ le8 index⟩) := by
  simp [draftActivate, parseEmpty, RatingUnit.draftCheck_activate (.inl ⟨d, hd⟩), hrel, hd, hf]

theorem draftActivate_edited {d : RatingSet} (hd : s.rating.draft = .editing p d) (hf : d.activationFault = none) :
    draftActivate p [] s = s.activate p d none := by
  simp [draftActivate, parseEmpty, RatingUnit.draftCheck_activate (.inl ⟨d, hd⟩), hrel, hd, hf]

theorem draftActivate_previous {d : RatingSet} (hd : s.rating.draft = .previous d) :
    draftActivate p [] s = s.activate p d (some d.id) := by
  simp [draftActivate, parseEmpty, RatingUnit.draftCheck_activate (.inr ⟨d, hd⟩), hrel, hd]

end

/-- Settles O39: the slot's set goes into `activate` once the table and the checks pass. -/
theorem draftActivateStartsTheActivation : Obligations.DraftActivateStartsTheActivation := by
  intro p s ht hrel begun
  have hx : ((s.arrived p []).serving p 0x27#8).rating = s.rating := by simp
  have hst : ((s.arrived p []).serving p 0x27#8).store = s.store := by simp
  have hrel' : ((s.arrived p []).serving p 0x27#8).rating.releasedInFlight = false := by rw [hx, hrel]
  have hbegun {d : RatingSet} {old : Option Nat} (hdeg : s.store.degraded = false)
      (hb : draftActivate p [] ((s.arrived p []).serving p 0x27#8) =
        ((s.arrived p []).serving p 0x27#8).activate p d old) :
      exec (.draftActivate p []) s = .next (begun d old) := by
    rw [State.activate_begun (hst ▸ hdeg)] at hb
    have heq : (s.arrived p []).beginActivation p d old = { s.arrived p [] with
        rating := { s.rating with
          draft := .activating p
          inFlight := some ⟨{ d with id := nextId s.rating.activeId }, old, some p, some p⟩ }
        store := { s.store with class4 := s.store.class4 ++
          [.image { d with id := nextId s.rating.activeId } s.store.flash.nextImage 0 false] } } := by
      rw [State.beginActivation, State.arrived_rating, State.arrived_store]
      simp only [State.addWork, State.setStore]
    refine congrArg _ ((State.serve_of_hold (fun u => u.beginActivation p d old) ht hb rfl).trans ?_)
    show ((s.arrived p []).beginActivation p d old).serving p 0x27#8 = _
    rw [heq]
    rfl
  have hfault {d : RatingSet} {old : Option Nat} (hdeg : s.store.degraded = true)
      (hb : draftActivate p [] ((s.arrived p []).serving p 0x27#8) =
        ((s.arrived p []).serving p 0x27#8).activate p d old) :
      exec (.draftActivate p []) s = .next ((s.arrived p []).answered p 0x27#8 .storeFault []) :=
    congrArg _ (State.serve_of_answer (a := ⟨.storeFault, []⟩) ht (hb.trans (State.activate_refused (hst ▸ hdeg) ..)))
  refine ⟨fun d kind index hd hf => ?_, fun d hd hf hdeg => hbegun hdeg (draftActivate_edited hrel' (hx ▸ hd) hf),
    fun d hd hdeg => hbegun hdeg (draftActivate_previous hrel' (hx ▸ hd)),
    fun d hd hf hdeg => hfault hdeg (draftActivate_edited hrel' (hx ▸ hd) hf),
    fun d hd hdeg => hfault hdeg (draftActivate_previous hrel' (hx ▸ hd))⟩
  exact congrArg _ (State.serve_of_answer (a := ⟨.checkFailed, le8 kind ++ le8 index⟩) ht
    (draftActivate_fault hrel' (hx ▸ hd) hf))

end Sys2Proof.Machine

end

section
/-! PROOFS. The siren's requests, timers and outputs (O44), and the point velocity (O50). -/

namespace Sys2Proof.Machine

-- one theorem at a time: many elaborated side by side would take a thread and its stack each
set_option Elab.async false

/-! ### The siren (R81, R82, R84, R86) -/

/-- A timer that runs has reached its limit as the second found it and as it stands now. -/
theorem State.limitReached_running {s : State} {start : Option Nat} {from_ : Nat} (h : start = some from_) (found : Int)
    (i : Item) : s.limitReached start found i = true ↔
      found ≤ (s.uptime : Int) - from_ ∧ s.cfg.get i ≤ (s.uptime : Int) - from_ := by
  simp [State.limitReached, timerDue, h]

theorem State.mapWarn_serving (s : State) (p : Port) (code : Byte) (f : WarningUnit → WarningUnit) :
    (s.serving p code).mapWarn f = (s.mapWarn f).serving p code := rfl

section
variable {s : State}

theorem ackSiren_sounding (h : s.warn.siren = .sounding) : ackSiren [] s =
    ((s.mapWarn fun w => { w with siren := .silenced, sirenStart := none }).raiseAll .sirenAcked,
      some ⟨.ok, [2#8]⟩) := by
  simp [ackSiren, parseEmpty, h, ok, le8, Siren.code]

theorem ackSiren_refused (h : s.warn.siren ≠ .sounding) :
    ackSiren [] s = (s, some ⟨.wrongState, le8 s.warn.siren.code⟩) := by
  simp [ackSiren, parseEmpty, h]

theorem testSiren_started (hlevel : s.warn.level = .normal) (hsiren : s.warn.siren = .off) : testSiren [] s =
    (s.mapWarn fun w => { w with siren := .test, testStart := some s.uptime }, some ⟨.ok, []⟩) := by
  simp [testSiren, parseEmpty, hlevel, hsiren, ok]

theorem testSiren_refused (h : s.warn.level ≠ .normal ∨ s.warn.siren ≠ .off) :
    testSiren [] s = (s, some ⟨.wrongState, []⟩) := by
  have hnot : ¬(s.warn.level = .normal ∧ s.warn.siren = .off) := by
    rintro ⟨hlevel, hsiren⟩
    simp [hlevel, hsiren] at h
  simp only [testSiren, parseEmpty, if_neg hnot, refuse]

variable {start : Nat}

theorem State.sirenDue_iff (hsiren : s.warn.siren = .sounding) (hstart : s.warn.sirenStart = some start) :
    s.sirenDue = true ↔
      s.limits.sirenMax ≤ (s.uptime : Int) - start ∧ s.cfg.get .sirenMax ≤ (s.uptime : Int) - start := by
  simp [State.sirenDue, hsiren, State.limitReached_running hstart]

theorem State.testDue_iff (hsiren : s.warn.siren = .test) (hstart : s.warn.testStart = some start) :
    s.testDue = true ↔ start + 5 ≤ s.uptime := by
  simp only [State.testDue, hsiren, timerDue, hstart, decide_true, Bool.true_and, decide_eq_true_eq]
  omega

end

/-- A tick of a powered part takes the limits of the live configuration at a new uptime second (log 35). -/
theorem State.onTick_limits (s : State) : s.onTick.limits = if s.uptimeSub + 1 < 100000 then s.limits
    else ⟨s.cfg.get .sirenMax, s.cfg.get .silenceLimit, s.cfg.get .parkLifetime⟩ := by
  rw [State.onTick, State.lineTicked_frame]
  rfl

section
variable (s : State)

theorem State.beacon_iff (h : s.phase = .ready) :
    s.beacon = true ↔ s.warn.level = .warning ∨ s.warn.level = .danger ∨ s.warn.siren = .test := by
  simp [State.beacon, h, or_assoc]

theorem State.sirenOut_iff (h : s.phase = .ready) :
    s.sirenOut = true ↔ s.warn.siren = .sounding ∨ s.warn.siren = .test := by
  simp [State.sirenOut, h]

theorem State.warnOut_iff (h : s.phase = .ready) :
    s.warnOut = true ↔ s.warn.level = .warning ∨ s.warn.level = .danger := by
  simp [State.warnOut, h]

theorem State.outputs_off (h : s.phase ≠ .ready) : s.beacon = false ∧ s.sirenOut = false ∧ s.warnOut = false := by
  simp [State.beacon, State.sirenOut, State.warnOut, h]

end

/-- Settles O44: the requests by the siren's state, the timers by their start, and the outputs by their definition. -/
theorem sirenIsSilencedTestedAndTimed : Obligations.SirenIsSilencedTestedAndTimed := by
  refine ⟨fun p s ht h => ?_, fun p s ht h => ?_, fun p s ht hlevel hsiren => ?_, fun p s ht h => ?_,
    fun start s hsiren hstart => ⟨fun hnow hfound => ?_, fun h => ?_⟩, fun s hempty hnone hfree hon => ?_,
    fun start s hsiren hstart => ⟨fun h => ?_, fun h => ?_⟩,
    fun s h => ⟨s.beacon_iff h, s.sirenOut_iff h, s.warnOut_iff h, fun hholds hout => ?_⟩, fun s h => s.outputs_off h⟩
  · have hwarn : (s.arrived p []).mapWarn (fun w => { w with siren := .silenced, sirenStart := none }) =
        { s.arrived p [] with warn := { s.warn with siren := .silenced, sirenStart := none } } := by
      simp only [State.mapWarn, State.arrived_warn]
    refine congrArg _ ((State.serve_of_change (body := ackSiren [])
      (fun u => (u.mapWarn fun w => { w with siren := .silenced, sirenStart := none }).raiseAll .sirenAcked)
      (a := ⟨.ok, [2#8]⟩) ht (ackSiren_sounding (by simpa using h))
      (by simp only [State.mapWarn_serving, State.raiseAll_serving])).trans ?_)
    simp only [hwarn]
  · refine congrArg _ ((State.serve_of_answer (body := ackSiren []) (a := ⟨.wrongState, le8 s.warn.siren.code⟩) ht
      ((ackSiren_refused (by simpa using h)).trans (by simp))))
  · have hwarn : (s.arrived p []).mapWarn (fun w => { w with siren := .test, testStart := some s.uptime }) =
        { s.arrived p [] with warn := { s.warn with siren := .test, testStart := some s.uptime } } := by
      simp only [State.mapWarn, State.arrived_warn]
    refine congrArg _ ((State.serve_of_change (body := testSiren [])
      (fun u => u.mapWarn fun w => { w with siren := .test, testStart := some s.uptime }) (a := ⟨.ok, []⟩) ht
      ((testSiren_started (by simpa using hlevel) (by simpa using hsiren)).trans (by simp)) rfl).trans ?_)
    simp only [hwarn]
  · exact congrArg _ (State.serve_of_answer (body := testSiren []) (a := ⟨.wrongState, []⟩) ht
      (testSiren_refused (by simpa using h)))
  · show Host.Outcome.next s.sirenExpiry = _
    rw [State.sirenExpiry, if_pos ((State.sirenDue_iff hsiren hstart).2 ⟨hfound, hnow⟩)]
    rfl
  · show Host.Outcome.next s.sirenExpiry = _
    rw [State.sirenExpiry, if_neg fun hdue => ?_]
    have := (State.sirenDue_iff hsiren hstart).1 hdue
    omega
  · exact ⟨s.onTick, step_tick hempty hnone hfree hon, s.onTick_limits⟩
  · show Host.Outcome.next s.testExpiry = _
    rw [State.testExpiry, if_pos ((State.testDue_iff hsiren hstart).2 h)]
    rfl
  · show Host.Outcome.next s.testExpiry = _
    rw [State.testExpiry, if_neg fun hdue => absurd ((State.testDue_iff hsiren hstart).1 hdue) (by omega)]
  · obtain ⟨hdanger, htest, -⟩ := s.sirenHolds_iff.1 hholds
    rcases (s.sirenOut_iff h).1 hout with hs | hs
    · exact .inl ⟨by simpa [hs] using hdanger, hs⟩
    · exact .inr ⟨htest hs, hs⟩

/-! ### The point velocity (R117, R118) -/

/-- A velocity is clamped exactly when its raw value leaves the range. -/
theorem RunDescription.velocity_cast (d : RunDescription) {n : Nat} (h : n ≠ 0) :
    (d.velocity n : Int) = max 0 (min 8000 (d.rawVelocity n)) := by
  rw [RunDescription.velocity, if_neg h, clampInt_eq_max_min _ (by omega)]
  omega

/-- The raw velocity by the segment of the meter rating. -/
theorem RunDescription.rawVelocity_eq (d : RunDescription) (n : Nat) : d.rawVelocity n =
    ((2 * ((if d.nBreak ≠ 0 ∧ d.nBreak ≤ n then d.a2 else d.a1) * n) + 1000000) / (2 * 1000000) : Nat) +
      (if d.nBreak ≠ 0 ∧ d.nBreak ≤ n then d.b2 else d.b1) := by
  rw [RunDescription.rawVelocity]
  by_cases h : d.nBreak ≠ 0 ∧ d.nBreak ≤ n
  · rw [if_pos h, if_pos h, if_pos (by simpa [RunDescription.segment2] using h)]
    rfl
  · rw [if_neg h, if_neg h, if_neg (by simpa [RunDescription.segment2] using h)]
    rfl

/-- Settles O50: the rate by the contacts, the velocity by the rate. -/
theorem pointVelocityFollowsTheMeterRating : Obligations.PointVelocityFollowsTheMeterRating := by
  intro d f m r quotient second a b sum
  have hsum : sum = d.rawVelocity r.n := (d.rawVelocity_eq r.n).symm
  refine ⟨rfl, rfl, rfl, fun hk => ?_, fun hk => ?_, fun hn => ?_, fun hn => ?_⟩
  · have hn : rotorRate d.cpr m.k m.delta = 0 := by rw [rotorRate, rateQuotient, if_pos hk]; rfl
    refine ⟨hn, decide_eq_true hk, ?_⟩
    show (decide (65535 < rateQuotient d.cpr m.k m.delta) || d.velocityClamped (rotorRate d.cpr m.k m.delta)) = false
    rw [hn, rateQuotient, if_pos hk]
    rfl
  · have hq : rateQuotient d.cpr m.k m.delta = quotient := if_neg (by omega)
    have hn : r.n = min 65535 quotient := by
      show saturate 65535 (rateQuotient d.cpr m.k m.delta) = _
      rw [hq, saturate_eq_min]
    refine ⟨hn, decide_eq_false (by omega), ?_⟩
    show (decide (65535 < rateQuotient d.cpr m.k m.delta) || d.velocityClamped r.n) = true ↔ _
    rw [hq, hsum]
    simp [RunDescription.velocityClamped, inRange]
  · show d.velocity r.n = 0
    rw [hn]
    rfl
  · rw [hsum]
    exact d.velocity_cast hn

end Sys2Proof.Machine

end

section
/-! PROOFS. The configuration's own requests (O57). -/

namespace Sys2Proof.Machine

-- one theorem at a time: many elaborated side by side would take a thread and its stack each
set_option Elab.async false

/-! ### SET_CONFIG is read as it was written (R187) -/

/-- A 4-byte signed field in range is read as it was written. -/
theorem s32_sle32 {x : Int} (hlo : -2147483648 ≤ x) (hhi : x ≤ 2147483647) :
    s32 (BitVec.ofNat 8 (BitVec.ofInt 32 x).toNat) (BitVec.ofNat 8 ((BitVec.ofInt 32 x).toNat / 256))
      (BitVec.ofNat 8 ((BitVec.ofInt 32 x).toNat / 65536))
      (BitVec.ofNat 8 ((BitVec.ofInt 32 x).toNat / 65536 / 256)) = x := by
  rw [s32, u32_le32, Nat.mod_eq_of_lt (BitVec.isLt _), BitVec.ofNat_toNat, BitVec.setWidth_eq, BitVec.toInt_ofInt]
  exact Int.bmod_eq_of_le (by omega) (by omega)

theorem Item.code_lt (i : Item) : i.row.code < 256 := by
  have h : ∀ j ∈ allItems, j.row.code < 256 := by decide
  exact h i (mem_allItems i)

theorem Item.code_inj {i j : Item} (h : i.row.code = j.row.code) : i = j := by
  have hall : ∀ a ∈ allItems, ∀ b ∈ allItems, a.row.code = b.row.code → a = b := by decide
  exact hall i (mem_allItems i) j (mem_allItems j) h

/-- The code of an item names that item. -/
theorem itemOfCode_row (i : Item) : itemOfCode i.row.code = some i := by
  cases hf : itemOfCode i.row.code with
  | none =>
    have := List.find?_eq_none.1 hf i (mem_allItems i)
    simp at this
  | some j =>
    have hcode := List.find?_some hf
    simp only [beq_iff_eq] at hcode
    rw [Item.code_inj hcode]

theorem itemOfCode_none {code : Nat} (h : ∀ i : Item, i.row.code ≠ code) : itemOfCode code = none :=
  List.find?_eq_none.2 fun i _ => by simpa using h i

theorem parseConfig_written (i : Item) {v : Int} (hlo : -2147483648 ≤ v) (hhi : v ≤ 2147483647) :
    parseConfig (le8 i.row.code ++ sle32 v) = some (i.row.code, v) := by
  show some (_, s32 _ _ _ _) = _
  rw [s32_sle32 hlo hhi, BitVec.toNat_ofNat, Nat.mod_eq_of_lt i.code_lt]

/-! ### The run as a frame's arrival leaves it (R105) -/

/-- A run as a frame on a port leaves it: one on port C restarts its silence timer. -/
def Run.heardOn (r : Run) (p : Port) (now : Nat) : Run := if p = .c then r.heard now else r

/-- A frame's arrival restarts the run's silence timer alone, if it runs. -/
theorem Run.heardOn_eq (r : Run) (p : Port) (now : Nat) :
    ∃ since, r.heardOn p now = { r with silenceStart := since } := by
  unfold Run.heardOn
  split
  · exact ⟨_, r.heard_eq now⟩
  · exact ⟨r.silenceStart, rfl⟩

theorem Run.heardOn_active (r : Run) (p : Port) (now : Nat) : (r.heardOn p now).active = r.active := by
  obtain ⟨since, h⟩ := r.heardOn_eq p now
  rw [h]
  rfl

theorem State.arrived_run (s : State) (p : Port) (payload : List Byte) :
    (s.arrived p payload).run = s.run.map fun r => r.heardOn p s.uptime := by
  rw [State.arrived_eq]
  unfold Run.heardOn
  split
  · rfl
  · simp

/-! ### What SET_CONFIG stores (R24, R79, R187) -/

/-- Where an item may be written with a value (R187). -/
def Item.takesValue (i : Item) (v : Int) : Prop :=
  (∀ q, i ≠ .perm q) ∧ (i = .sourceMode ∨ i = .runLimit → i.row.least ≤ v ∧ v ≤ i.row.greatest)

theorem Item.coded_iff (i : Item) : i.coded = true ↔ i = .sourceMode ∨ i = .runLimit := by
  cases i <;> simp [Item.coded]

theorem Item.writable_iff (i : Item) : i.writable = true ↔ ∀ q, i ≠ .perm q := by
  cases i <;> simp [Item.writable]

theorem settable_row {i : Item} {v : Int} (h : i.takesValue v) : settable i.row.code v = some i := by
  obtain ⟨hperm, hcoded⟩ := h
  have hin : ¬(i.coded = true ∧ inRange i.row.least i.row.greatest v = false) := by
    rintro ⟨hc, hout⟩
    rw [(inRange_iff ..).2 (hcoded (i.coded_iff.1 hc))] at hout
    cases hout
  simp only [settable, itemOfCode_row, i.writable_iff.2 hperm, if_neg hin]
  rfl

theorem settable_not_row {i : Item} {v : Int} (h : ¬i.takesValue v) : settable i.row.code v = none := by
  simp only [settable, itemOfCode_row]
  cases hw : i.writable with
  | false => rfl
  | true =>
    rw [if_neg (by simp), if_pos]
    rw [i.coded_iff, ← Bool.not_eq_true, inRange_iff]
    simpa only [Item.takesValue, i.writable_iff.1 hw, not_false_eq_true, implies_true, true_and, ne_eq, Classical.not_imp] using h

section
variable {s : State} {p : Port} {i : Item} {v : Int}

theorem setConfig_refused (hlo : -2147483648 ≤ v) (hhi : v ≤ 2147483647) (h : ¬i.takesValue v) :
    setConfig (le8 i.row.code ++ sle32 v) s = (s, some ⟨.badArgument, []⟩) := by
  simp only [setConfig, parseConfig_written i hlo hhi, settable_not_row h, refuse]

theorem setConfig_stored (hlo : -2147483648 ≤ v) (hhi : v ≤ 2147483647) (h : i.takesValue v) :
    setConfig (le8 i.row.code ++ sle32 v) s = (s.storeItem i v,
      some ⟨if i.stored v = v then .ok else .clamped, le8 i.row.code ++ sle32 (i.stored v)⟩) := by
  simp only [setConfig, parseConfig_written i hlo hhi, settable_row h]

variable (ht : s.takes p 0x61#8 (le8 i.row.code ++ sle32 v) = true) (hlo : -2147483648 ≤ v) (hhi : v ≤ 2147483647)
include ht hlo hhi

theorem exec_setConfig_refused (h : ¬i.takesValue v) : exec (.setConfig p (le8 i.row.code ++ sle32 v)) s =
    .next ((s.arrived p (le8 i.row.code ++ sle32 v)).answered p 0x61#8 .badArgument []) :=
  congrArg _ (State.serve_of_answer (body := setConfig _) (a := ⟨.badArgument, []⟩) ht (setConfig_refused hlo hhi h))

/-- A store that parks no run: its effect beside the item is on the schedule alone. -/
theorem exec_setConfig_stored (h : i.takesValue v) (sch : Schedule)
    (heff : ∀ u : State, u.cfg = s.cfg → u.warn = s.warn → u.sched = s.sched → u.backup = s.backup →
      u.storeItem i v = { u with cfg := s.cfg.set i (i.stored v), sched := sch }) :
    exec (.setConfig p (le8 i.row.code ++ sle32 v)) s =
      .next ({ s.arrived p (le8 i.row.code ++ sle32 v) with
        cfg := s.cfg.set i (i.stored v), sched := sch }.answered p 0x61#8
          (if i.stored v = v then .ok else .clamped) (le8 i.row.code ++ sle32 (i.stored v))) := by
  have hplain := heff (s.arrived p (le8 i.row.code ++ sle32 v)) (by simp) (by simp) (by simp) (by simp)
  refine congrArg _ ((State.serve_of_change (body := setConfig _) (fun u => u.storeItem i v)
    (a := ⟨if i.stored v = v then .ok else .clamped, le8 i.row.code ++ sle32 (i.stored v)⟩) ht
    (setConfig_stored hlo hhi h) ?_).trans ?_)
  · rw [hplain, heff _ (by simp) (by simp) (by simp) (by simp)]
    rfl
  · simp only [hplain]

/-- A store without an effect beside the item. -/
theorem exec_setConfig_plain (h : i.takesValue v) {x : Int} (hst : i.stored v = x)
    (heff : ∀ u : State, u.cfg = s.cfg → u.warn = s.warn → u.storeItem i v = { u with cfg := u.cfg.set i x }) :
    exec (.setConfig p (le8 i.row.code ++ sle32 v)) s =
      .next ({ s.arrived p (le8 i.row.code ++ sle32 v) with cfg := s.cfg.set i x }.answered p 0x61#8
          (if x = v then .ok else .clamped) (le8 i.row.code ++ sle32 x)) := by
  subst hst
  rw [exec_setConfig_stored ht hlo hhi h s.sched fun u hcfg hwarn hsched _ => by
    rw [heff u hcfg hwarn, ← hcfg, ← hsched]]
  rw [← State.arrived_sched s p]

end

/-! ### Intervals (R24) -/

/-- The stored interval is the largest member not above the value, or the least member. -/
theorem intervalStored_spec (v : Int) : intervalStored v ∈ intervalMembers ∧
    (intervalStored v ≤ v ∨ intervalStored v = 10) ∧ ∀ y ∈ intervalMembers, y ≤ v → y ≤ intervalStored v := by
  have hsorted : intervalMembers.Pairwise (fun a b => b < a) := by decide
  cases hf : intervalMembers.find? (fun m => decide (m ≤ v)) with
  | none =>
    have hstored : intervalStored v = 10 := by rw [intervalStored, hf]; rfl
    refine ⟨hstored ▸ by decide, .inr hstored, fun y hy hle => absurd hle ?_⟩
    simpa using List.find?_eq_none.1 hf y hy
  | some m =>
    have hstored : intervalStored v = m := by rw [intervalStored, hf]; rfl
    obtain ⟨hle, above, below, hsplit, habove⟩ := List.find?_eq_some_iff_append.1 hf
    rw [hstored]
    refine ⟨by simp [hsplit], .inl (by simpa using hle), fun y hy hyv => ?_⟩
    rw [hsplit, List.pairwise_append, List.pairwise_cons] at hsorted
    obtain ⟨-, ⟨hbelow, -⟩, -⟩ := hsorted
    rw [hsplit, List.mem_append, List.mem_cons] at hy
    rcases hy with hy | rfl | hy
    · have := habove y hy
      simp at this
      omega
    · exact Int.le_refl y
    · exact Int.le_of_lt (hbelow y hy)

theorem State.realign_sched_eq (s : State) : s.realign = { s with
    sched := if nextSampleAfter s.interval s.backup.clock.toNat < s.sched.nextSample
      then { s.sched with nextSample := nextSampleAfter s.interval s.backup.clock.toNat } else s.sched } := by
  unfold State.realign
  dsimp only
  split <;> rfl

/-- The interval in force once the interval of the level in force has been stored. -/
theorem State.interval_set (s : State) (x : Int) :
    { s with cfg := s.cfg.set (.interval s.warn.level) x }.interval = x.toNat := by
  simp [State.interval, LiveConfig.intervalOf, LiveConfig.get_set]

/-- Storing the interval of the level in force realigns the schedule when it changes it (R24). -/
theorem State.storeItem_interval_level (s : State) (v : Int) : s.storeItem (.interval s.warn.level) v = { s with
    cfg := s.cfg.set (.interval s.warn.level) (intervalStored v)
    sched := if (intervalStored v).toNat ≠ s.cfg.intervalOf s.warn.level ∧
        nextSampleAfter (intervalStored v).toNat s.backup.clock.toNat < s.sched.nextSample
      then { s.sched with nextSample := nextSampleAfter (intervalStored v).toNat s.backup.clock.toNat }
      else s.sched } := by
  have hint := s.interval_set (intervalStored v)
  simp only [State.storeItem, State.storeEffect, Item.stored]
  rw [hint]
  by_cases hne : (intervalStored v).toNat = s.cfg.intervalOf s.warn.level
  · rw [if_neg fun h => h.2 hne, if_neg fun h => h.1 hne]
  · rw [if_pos ⟨trivial, hne⟩, State.realign_sched_eq, hint]
    simp only [hne, ne_eq, not_false_eq_true, true_and]

theorem State.storeItem_interval_other {s : State} {l : Level} (h : l ≠ s.warn.level) (v : Int) :
    s.storeItem (.interval l) v = { s with cfg := s.cfg.set (.interval l) (intervalStored v) } := by
  simp only [State.storeItem, State.storeEffect, Item.stored, h, false_and, if_false]

/-- Storing an item that is no interval and no run_limit has no further effect. -/
theorem State.storeItem_plain {i : Item} (hint : ∀ l, i ≠ .interval l) (hrun : i ≠ .runLimit) (s : State) (v : Int) :
    s.storeItem i v = { s with cfg := s.cfg.set i (i.stored v) } := by
  cases i <;> first | rfl | exact absurd rfl (hint _) | exact absurd rfl hrun

theorem Item.stored_clamps {i : Item} (hint : ∀ l, i ≠ .interval l) (v : Int) :
    i.stored v = max i.row.least (min i.row.greatest v) := by
  have hbounds : i.row.least ≤ i.row.greatest := by
    have h : ∀ j ∈ allItems, j.row.least ≤ j.row.greatest := by decide
    exact h i (mem_allItems i)
  rw [← clampInt_eq_max_min v hbounds]
  cases i <;> first | rfl | exact absurd rfl (hint _)

/-- Storing a run_limit parks an active run when it lies below the level (R79). -/
theorem State.storeItem_runLimit (s : State) (v : Int) (h : 0 ≤ v ∧ v ≤ 3) : s.storeItem .runLimit v =
    if v < s.warn.level.rank then { s with cfg := s.cfg.set .runLimit v }.park .level
    else { s with cfg := s.cfg.set .runLimit v } := by
  have hst : Item.stored .runLimit v = v := by
    rw [Item.stored_clamps (i := .runLimit) nofun]
    show max 0 (min 3 v) = v
    omega
  have hrank : (s.cfg.set .runLimit v).runLimitRank = v.toNat := by
    simp [LiveConfig.runLimitRank, LiveConfig.get_set]
  simp only [State.storeItem, State.storeEffect, hst, hrank]
  by_cases hlt : v < s.warn.level.rank
  · rw [if_pos (by omega), if_pos hlt]
  · rw [if_neg (by omega), if_neg hlt]

/-! ### SELECT_SOURCE and SET_PERMISSIONS (R33, R179) -/

theorem portOf_number (p : Port) : portOf p.number = some p := by cases p <;> rfl

section
variable {s : State} {p q : Port} {families : Byte}

theorem parseTwo_permissions : parseTwo [BitVec.ofNat 8 q.number, families] = some (q.number, families.toNat) := by
  cases q <;> rfl

theorem setPermissions_open (h : s.maintClosed = false) :
    setPermissions p [BitVec.ofNat 8 q.number, families] s = (s, some ⟨.wrongState, []⟩) := by
  simp only [setPermissions, parseTwo_permissions, h, if_true, refuse]

theorem setPermissions_refused (h : s.maintClosed = true)
    (hbad : 128 ≤ families.toNat ∨ (q = p ∧ families.getLsbD 6 = false)) :
    setPermissions p [BitVec.ofNat 8 q.number, families] s = (s, some ⟨.badArgument, []⟩) := by
  simp only [setPermissions, parseTwo_permissions, h, portOf_number, refuse, Bool.true_eq_false, if_false]
  rcases hbad with hbig | hadmin
  · rw [if_pos hbig]
  · rw [if_pos (show q = p ∧ families.toNat.testBit Family.admin.bit = false from hadmin), ite_self]

theorem setPermissions_written (h : s.maintClosed = true) (hsmall : families.toNat < 128)
    (hadmin : q ≠ p ∨ families.getLsbD 6 = true) :
    setPermissions p [BitVec.ofNat 8 q.number, families] s =
      ({ s with cfg := s.cfg.set (.perm q) families.toNat },
        some ⟨.ok, (s.cfg.set (.perm q) families.toNat).permPayload⟩) := by
  have hkeeps : ¬(q = p ∧ families.toNat.testBit Family.admin.bit = false) := by
    rintro ⟨hqp, hbit⟩
    rcases hadmin with hne | hset
    · exact hne hqp
    · rw [show families.getLsbD 6 = false from hbit] at hset
      cases hset
  simp only [setPermissions, parseTwo_permissions, h, portOf_number, ok, Bool.true_eq_false, if_false,
    if_neg (Nat.not_le.2 hsmall), if_neg hkeeps]

end

/-- Settles O57: SET_CONFIG by the kind of its item, the two others by their checks in order. -/
theorem configurationIsWrittenWithinItsRules : Obligations.ConfigurationIsWrittenWithinItsRules := by
  refine ⟨fun p i v s => ?_, fun p c a b d e s ht hcode => ?_, fun p m s ht => ⟨fun hm => ?_, fun hm => ?_⟩,
    fun p q families closed s => ?_⟩
  · intro pl ht hlo hhi inside badly stored clampedTo
    have htakes (hperm : ∀ q, i ≠ .perm q) (hin : i = .sourceMode ∨ i = .runLimit → inside) : i.takesValue v :=
      ⟨hperm, hin⟩
    have hinside (h : inside) : stored = v := by
      show max _ (min _ v) = v
      omega
    refine ⟨fun q hq => exec_setConfig_refused ht hlo hhi fun h => h.1 q hq,
      fun hc hout => exec_setConfig_refused ht hlo hhi fun h => hout (h.2 hc), fun hperm hint hsm hrl => ?_,
      fun hsm hin => ?_, fun hrl hin hle => ?_, fun hrl hin hlt => ?_, fun l hl hne => ?_, fun l hl hlevel => ?_⟩
    · have hst : i.stored v = stored := Item.stored_clamps hint v
      exact exec_setConfig_plain ht hlo hhi (htakes hperm fun h => absurd h (by simp [hsm, hrl])) hst
        fun u _ _ => (State.storeItem_plain hint hrl u v).trans (by rw [hst])
    · subst hsm
      have hst : Item.stored .sourceMode v = v := (Item.stored_clamps (i := .sourceMode) nofun v).trans (hinside hin)
      refine (exec_setConfig_plain ht hlo hhi (htakes nofun fun _ => hin) hst
        fun u _ _ => (State.storeItem_plain (i := .sourceMode) nofun nofun u v).trans (by rw [hst])).trans ?_
      simp only [if_true]
      rfl
    · subst hrl
      have hst : Item.stored .runLimit v = v := (Item.stored_clamps (i := .runLimit) nofun v).trans (hinside hin)
      refine (exec_setConfig_plain ht hlo hhi (htakes nofun fun _ => hin) hst fun u _ hwarn => ?_).trans ?_
      · rw [u.storeItem_runLimit v hin, hwarn, if_neg (by omega)]
      · simp only [if_true]
        rfl
    · subst hrl
      have hst : Item.stored .runLimit v = v := (Item.stored_clamps (i := .runLimit) nofun v).trans (hinside hin)
      have hstore (u : State) (hcfg : u.cfg = s.cfg) (hwarn : u.warn = s.warn) :
          u.storeItem .runLimit v = { u with cfg := s.cfg.set .runLimit v }.park .level := by
        rw [u.storeItem_runLimit v hin, hwarn, if_pos hlt, hcfg]
      refine ⟨_, congrArg Host.Outcome.next (State.serve_of_slots (body := setConfig _) ht
        ((setConfig_stored hlo hhi (htakes nofun fun _ => hin)).trans (by rw [hstore _ (by simp) (by simp)]))
        (.trans (t := { (s.arrived p pl).serving p 0x61#8 with cfg := s.cfg.set .runLimit v }) (.of_ports rfl)
          (State.park_slots (s := { (s.arrived p pl).serving p 0x61#8 with cfg := s.cfg.set .runLimit v }) _))), ?_, ?_, fun r hr ha => ?_⟩
      · simp
      · simp only [State.answered_port, hst, if_true]
        rfl
      · have hactive : ((r.heardOn p s.uptime).parksOn .level) = true := by
          simp [Run.parksOn, Run.heardOn_active, ha]
        refine ⟨(r.heardOn p s.uptime).parked .level s.uptime, ?_, rfl, rfl⟩
        simp [State.park_run_eq, State.arrived_run, hr, hactive]
    · subst hl
      obtain ⟨hmem, hle, hgreatest⟩ := intervalStored_spec v
      exact ⟨intervalStored v, hmem, hle, hgreatest, exec_setConfig_plain ht hlo hhi (htakes nofun (by simp)) rfl
        fun u _ hwarn => State.storeItem_interval_other (hwarn ▸ hne) v⟩
    · subst hl
      obtain ⟨hmem, hle, hgreatest⟩ := intervalStored_spec v
      refine ⟨intervalStored v, hmem, hle, hgreatest, exec_setConfig_stored ht hlo hhi (htakes nofun (by simp)) _
        fun u hcfg hwarn hsched hbackup => ?_⟩
      subst hlevel
      rw [← hwarn, u.storeItem_interval_level, hcfg, hsched, hbackup]
      rfl
  · exact congrArg _ (State.serve_of_answer (body := setConfig _) (a := ⟨.badArgument, []⟩) ht
      (by simp only [setConfig, parseConfig, settable, itemOfCode_none hcode, refuse]))
  · refine congrArg _ ((State.serve_of_change (body := selectSource _)
      (fun u => { u with cfg := u.cfg.set .sourceMode m.toNat })
      (a := ⟨.ok, le8 m.toNat ++ le8 ((s.sel.current.map Source.code).getD 0xFF)⟩) ht ?_ rfl).trans ?_)
    · simp only [selectSource, parseByte, if_neg (Nat.not_lt.2 hm), ok]
      cases hsel : s.sel.current <;> simp [Selector.sourceByte, hsel]
    · simp only [State.arrived_cfg]
  · exact congrArg _ (State.serve_of_answer (body := selectSource _) (a := ⟨.badArgument, []⟩) ht
      (by simp only [selectSource, parseByte, if_pos hm, refuse]))
  · intro pl ht x refused cfg
    have hcfg : ((s.withMaint closed).arrived p pl).cfg = s.cfg := by simp [State.withMaint]
    have hmaint : (((s.withMaint closed).arrived p pl).serving p 0x63#8).maintClosed = closed := by
      simp [State.withMaint]
    refine ⟨fun hopen => ?_, fun hclosed hbad => ?_, fun hclosed hsmall hadmin => ?_⟩
    · exact congrArg _ (State.serve_of_answer (body := setPermissions p _) (a := ⟨.wrongState, []⟩) ht
        (setPermissions_open (hmaint.trans hopen)))
    · exact congrArg _ (State.serve_of_answer (body := setPermissions p _) (a := ⟨.badArgument, []⟩) ht
        (setPermissions_refused (hmaint.trans hclosed) hbad))
    · refine congrArg _ ((State.serve_of_change (body := setPermissions p _)
        (fun u => { u with cfg := u.cfg.set (.perm q) families.toNat }) (a := ⟨.ok, cfg.permPayload⟩) ht
        ((setPermissions_written (hmaint.trans hclosed) hsmall hadmin).trans ?_) rfl).trans ?_)
      · simp only [State.serving_cfg, hcfg]
        rfl
      · simp only [hcfg]
        rfl

end Sys2Proof.Machine

end

section
/-! PROOFS. What the record memory's work leaves apart, STATION_RESET, and the supply and the RESET pin (O58, O59). -/

namespace Sys2Proof.Machine

-- one theorem at a time: many elaborated side by side would take a thread and its stack each
set_option Elab.async false

/-! ### What no program and no erase touches -/

/-- The part but for its run, its rating sets, its record memory and its ports, with next_seq and the ports' groups. -/
def State.apart (s : State) : State × Word32 × (Port → BitVec 5) :=
  ({ s with run := none, newestRunId := 0, meter := .fresh, gaugings := [], rating := ⟨none, .empty, none⟩,
            store := .fresh [], ports := .fresh },
    s.store.nextSeq, fun p => (s.port p).enables)

/-- A field that stays apart. -/
theorem State.eq_of_apart {s t : State} (h : t.apart.1 = s.apart.1) {α : Type} (f : State → α)
    (hf : ∀ u : State, f u.apart.1 = f u) : f t = f s := by
  rw [← hf t, ← hf s, h]

section
variable {s t : State} (h : t.apart = s.apart)
include h

theorem State.apart_nextSeq : t.store.nextSeq = s.store.nextSeq := congrArg (fun x => x.2.1) h
theorem State.apart_enables (p : Port) : (t.port p).enables = (s.port p).enables := congrArg (fun x => x.2.2 p) h

end

section
variable (s : State)

theorem State.setPort_apart (p : Port) {x : PortState} (h : x.enables = (s.port p).enables) :
    (s.setPort p x).apart = s.apart := by
  have hen (q : Port) : ((s.setPort p x).port q).enables = (s.port q).enables := by
    rw [State.port_setPort]
    split
    · next hq => rw [hq, h]
    · rfl
  simp only [State.apart, funext hen]
  rfl

theorem State.setStore_apart {st : Store} (h : st.nextSeq = s.store.nextSeq) : (s.setStore st).apart = s.apart := by
  simp only [State.apart, State.setStore, h]
  rfl

@[simp] theorem State.mapRun_apart (f : Run → Run) : (s.mapRun f).apart = s.apart := rfl

@[simp] theorem State.setRun_apart (r : Option Run) : (s.setRun r).apart = s.apart := rfl

@[simp] theorem State.raiseOn_apart (p : Port) (k : EventKind) : (s.raiseOn p k).apart = s.apart := by
  unfold State.raiseOn
  split
  · exact s.setPort_apart p (by rw [PortState.record_eq])
  · rfl

@[simp] theorem State.raiseAll_apart (k : EventKind) : (s.raiseAll k).apart = s.apart := by
  simp only [State.raiseAll, State.raiseOn_apart]

@[simp] theorem State.reply_apart (p : Port) (a : Answer) : (s.reply p a).apart = s.apart := by
  unfold State.reply
  split
  · rfl
  · exact s.setPort_apart p rfl

@[simp] theorem State.replyHeld_apart (p : Option Port) (a : Answer) : (s.replyHeld p a).apart = s.apart := by
  unfold State.replyHeld
  split
  · rfl
  · exact s.reply_apart _ _

@[simp] theorem State.dragPort_apart (old new : Word32) (p : Port) : (s.dragPort old new p).apart = s.apart := by
  unfold State.dragPort
  split
  · exact (State.raiseOn_apart _ _ _).trans (s.setPort_apart p rfl)
  · rfl

@[simp] theorem State.advanceFirst_apart (new : Word32) : (s.advanceFirst new).apart = s.apart := by
  simp only [State.advanceFirst, State.dragPort_apart]
  exact s.setStore_apart rfl

/-! ### The journal queue and the run (R102, R110, R151) -/

@[simp] theorem State.queueEntry_apart (e : JournalEntry) : (s.queueEntry e).apart = s.apart := s.setStore_apart rfl

@[simp] theorem State.handEntry_apart (e : JournalEntry) : (s.handEntry e).apart = s.apart := by
  unfold State.handEntry
  split
  · simp
  · split <;> simp

@[simp] theorem State.openRun_apart (d : RunDescription) : (s.openRun d).apart = s.apart :=
  (State.handEntry_apart _ _).trans rfl

@[simp] theorem State.openAfter_apart (d : RunDescription) (c : CloseRecord) (p : Option Port) :
    (s.openAfter d c p).apart = s.apart := by
  unfold State.openAfter
  split
  · simp
  · split <;> simp

@[simp] theorem State.afterClosing_apart (e : Option Ending) (c : CloseRecord) (p : Option Port) :
    (s.afterClosing e c p).apart = s.apart := by
  unfold State.afterClosing
  split <;> simp

@[simp] theorem State.joinGaugings_apart (c : CloseRecord) : (s.joinGaugings c).apart = s.apart := by
  unfold State.joinGaugings
  split <;> rfl

@[simp] theorem State.endClosing_apart : s.endClosing.apart = s.apart := by
  unfold State.endClosing
  split
  · rfl
  · split <;> simp

@[simp] theorem State.notKept_apart (e : QueuedEntry) : (s.notKept e).apart = s.apart := by
  unfold State.notKept
  split <;> simp

theorem State.foldNotKept_apart (es : List QueuedEntry) : (es.foldl State.notKept s).apart = s.apart := by
  induction es generalizing s with
  | nil => rfl
  | cons e es ih => exact (ih _).trans (s.notKept_apart e)

@[simp] theorem State.discardJournal_apart : s.discardJournal.apart = s.apart := by
  have hdrop (u : State) : u.dropHeldTrailer.apart = u.apart := by
    unfold State.dropHeldTrailer
    split <;> simp
  exact (hdrop _).trans ((State.foldNotKept_apart _ _).trans (s.setStore_apart rfl))

/-! ### Class-4 work and the entry to DEGRADED (R150, R151) -/

@[simp] theorem State.abandonActivation_apart : s.abandonActivation.apart = s.apart := by
  unfold State.abandonActivation
  split
  · rfl
  · exact (State.replyHeld_apart _ _ _).trans rfl

@[simp] theorem State.exchange_apart : s.exchange.apart = s.apart := by
  unfold State.exchange
  split
  · rfl
  · exact (State.replyHeld_apart _ _ _).trans ((State.raiseAll_apart _ _).trans rfl)

theorem State.foldFailWork_apart (ws : List Class4) : (ws.foldl State.failWork s).apart = s.apart := by
  induction ws generalizing s with
  | nil => rfl
  | cons w ws ih =>
    have hfail : (s.failWork w).apart = s.apart := by
      unfold State.failWork
      split <;> simp
    exact (ih _).trans hfail

@[simp] theorem State.failAllWork_apart : s.failAllWork.apart = s.apart :=
  (State.foldFailWork_apart _ _).trans (s.setStore_apart rfl)

@[simp] theorem State.enterDegraded_apart : s.enterDegraded.apart = s.apart := by
  unfold State.enterDegraded
  split
  · rfl
  · have hring (u : State) : u.ringAlone.apart = u.apart := (State.advanceFirst_apart _ _).trans (u.setStore_apart rfl)
    simp only [State.failAllWork_apart, State.discardJournal_apart, hring, State.raiseAll_apart]
    exact s.setStore_apart rfl

@[simp] theorem State.markBad_apart (b : Nat) : (s.markBad b).apart = s.apart := by
  unfold State.markBad
  dsimp only
  split
  · exact (State.enterDegraded_apart _).trans (s.setStore_apart rfl)
  · exact s.setStore_apart rfl

@[simp] theorem State.markIfSecond_apart (b n : Nat) : (s.markIfSecond b n).apart = s.apart := by
  unfold State.markIfSecond
  split <;> simp

/-! ### Programs and erases (R138, R144, R148, R149) -/

@[simp] theorem State.startProgram_apart (r : Region) (pl : Place) (first : Word32) (u : FlashUnit)
    (p : ProgramPurpose) : (s.startProgram r pl first u p).apart = s.apart := s.setStore_apart rfl

@[simp] theorem State.requestErase_apart (q : EraseRequest) : (s.requestErase q).apart = s.apart := by
  unfold State.requestErase
  split
  · rfl
  · exact s.setStore_apart rfl

@[simp] theorem State.nameTarget_apart (r : Region) (b : Nat) (p : ErasePurpose) :
    (s.nameTarget r b p).apart = s.apart := by
  unfold State.nameTarget
  split
  · rfl
  · split <;> simp

@[simp] theorem State.targetIfNew_apart (pl : Place) (r : Region) (p : ErasePurpose) :
    (s.targetIfNew pl r p).apart = s.apart := by
  unfold State.targetIfNew
  split <;> simp

@[simp] theorem State.journalProgram_apart : s.journalProgram.apart = s.apart := by
  unfold State.journalProgram
  split
  · simp only [State.targetIfNew_apart]
    exact (State.setStore_apart _ rfl).trans (State.startProgram_apart ..)
  · rfl

@[simp] theorem State.startErase_apart (q : EraseRequest) (bs : List Nat) : (s.startErase q bs).apart = s.apart :=
  s.setStore_apart rfl

@[simp] theorem State.setHeadWork_apart (w : Class4) : (s.setHeadWork w).apart = s.apart := s.setStore_apart rfl

@[simp] theorem State.popWork_apart : s.popWork.apart = s.apart := s.setStore_apart rfl

@[simp] theorem State.recordDone_apart (r : LogRecord) : (s.recordDone r).apart = s.apart := by
  unfold State.recordDone
  split
  · split
    · exact s.setStore_apart rfl
    · rfl
  · rfl

@[simp] theorem State.entryDone_apart : s.entryDone.apart = s.apart := by
  have hreported (u : State) (e : JournalEntry) : (u.entryReported e).apart = u.apart := by
    unfold State.entryReported
    split <;> simp
  unfold State.entryDone
  split
  · rfl
  · split
    · exact s.setStore_apart rfl
    · exact (hreported _ _).trans (s.setStore_apart rfl)

@[simp] theorem State.workDone_apart : s.workDone.apart = s.apart := by
  unfold State.workDone
  split
  · split <;> simp
  · split <;> simp
  · simp
  · rfl

@[simp] theorem State.workFailed_apart : s.workFailed.apart = s.apart := by
  unfold State.workFailed
  split
  · simp
  · split <;> simp
  · rfl

theorem State.programmed_apart (p : ProgramPurpose) : (s.programmed p).apart = s.apart := by
  unfold State.programmed
  split <;> simp

theorem State.unitFailed_apart (p : ProgramPurpose) (b : Nat) : (s.unitFailed p b).apart = s.apart := by
  unfold State.unitFailed
  split
  case h_4 | h_5 => simp
  all_goals exact (State.markIfSecond_apart _ _ _).trans (s.setStore_apart rfl)

theorem State.programComplete_apart (h u : Bool) : (s.programComplete h u).apart = s.apart := by
  unfold State.programComplete
  split
  · next j _ _ =>
    dsimp only
    refine Eq.trans ?_ (s.setStore_apart (st := { s.store with flash := j.written s.store.flash h u, channel := .free }) rfl)
    split
    · simp
    · split
      · exact State.programmed_apart _ _
      · exact State.unitFailed_apart _ _ _
  · rfl

@[simp] theorem State.writeBadHeader_apart (b : Nat) (good : Bool) : (s.writeBadHeader b good).apart = s.apart :=
  s.setStore_apart rfl

theorem State.erased_apart (q : EraseRequest) (good : Bool) : (s.erased q good).apart = s.apart := by
  unfold State.erased
  split
  · simp
  · exact s.setStore_apart rfl
  · split <;> simp
  all_goals rfl

theorem State.aheadFailed_apart (q : EraseRequest) : (s.aheadFailed q).apart = s.apart := by
  have hnext (r : Region) (b : Nat) (p : ErasePurpose) : (s.nextTarget r b p).apart = s.apart := by
    unfold State.nextTarget
    split
    · rfl
    · split <;> simp
  unfold State.aheadFailed
  split
  · exact hnext _ _ _
  · split
    · split
      · exact s.setStore_apart rfl
      · exact hnext _ _ _
    · rfl

theorem State.eraseFailed_apart (q : EraseRequest) (good : Bool) : (s.eraseFailed q good).apart = s.apart := by
  unfold State.eraseFailed
  split
  · simp
  · rw [State.aheadFailed_apart]
    simp

theorem State.requestRetires_apart (bs : List Nat) : (s.requestRetires bs).apart = s.apart := by
  have hfold (u : State) : (bs.foldl (fun u b => u.requestErase ⟨b, .retire⟩) u).apart = u.apart := by
    induction bs generalizing u with
    | nil => rfl
    | cons b bs ih => exact (ih _).trans (u.requestErase_apart _)
  unfold State.requestRetires
  split
  · rfl
  · exact hfold s

theorem State.endEraseLog_apart : s.endEraseLog.apart = s.apart := by
  unfold State.endEraseLog
  split
  · exact s.setStore_apart rfl
  · rfl

theorem State.eraseComplete_apart (good header : Bool) : (s.eraseComplete good header).apart = s.apart := by
  unfold State.eraseComplete
  split
  · split
    · rfl
    · dsimp only
      rw [State.endEraseLog_apart, State.requestRetires_apart]
      refine Eq.trans ?_ (s.setStore_apart (st := { s.store with channel := .free }) rfl)
      split
      · exact State.erased_apart _ _ _
      · exact State.eraseFailed_apart _ _ _
  · rfl

/-! ### The scan's own programs and erases (R113, R162) -/

theorem State.scanStart_apart : s.scanStart.apart = s.apart := by
  unfold State.scanStart
  split
  · rfl
  · split
    · simp
    · split
      · rfl
      · exact (State.startErase_apart _ _ _).trans ((State.setStore_apart _ rfl).trans (s.setStore_apart rfl))

theorem State.scanEnd_apart (outs : List Bool) : (s.scanEnd outs).1.apart = s.apart := by
  unfold State.scanEnd
  split
  · rfl
  · rfl
  · exact State.programComplete_apart _ _ _
  · exact State.eraseComplete_apart _ _ _

theorem State.scanTrailers_apart (n : Nat) (outs : List Bool) : (State.scanTrailers n s outs).apart = s.apart := by
  induction n generalizing s outs with
  | zero => rfl
  | succ n ih =>
    unfold State.scanTrailers
    split
    · rfl
    · rw [ih, State.scanEnd_apart, State.scanStart_apart]

theorem State.scanSome_apart (n : Nat) (outs : List Bool) : (State.scanSome n s outs).apart = s.apart := by
  induction n generalizing s outs with
  | zero => rfl
  | succ n ih =>
    unfold State.scanSome
    split
    · rfl
    · rw [ih, State.scanEnd_apart, State.scanStart_apart]

theorem State.closeRuns_apart (outs : List Bool) : (s.closeRuns outs).apart = s.apart := by
  unfold State.closeRuns
  split
  · rfl
  · exact (State.setStore_apart _ rfl).trans ((State.scanTrailers_apart _ _ _).trans (s.setStore_apart rfl))

end

end Sys2Proof.Machine

end

section
/-! PROOFS. STATION_RESET, and the supply and the RESET pin (O58, O59). -/

namespace Sys2Proof.Machine

-- one theorem at a time: many elaborated side by side would take a thread and its stack each
set_option Elab.async false

/-! ### A scan broken off (R192) -/

section
variable (s : State)

theorem State.scanBroken_apart : s.scanBroken.apart.1 = s.apart.1 := by
  have hqueued : s.scanStore.queueTrailers.apart.1 = s.apart.1 := rfl
  have hsome (n : Nat) (outs : List Bool) : (State.scanSome n s.scanStore.queueTrailers outs).apart.1 = s.apart.1 := by
    rw [State.scanSome_apart, hqueued]
  unfold State.scanBroken State.scannedSoFar
  dsimp only
  split
  · rfl
  · split
    · rw [State.scanStart_apart, hsome]
    · exact hsome _ _

/-- A scan that finds no run unclosed programs nothing. -/
theorem State.scanBroken_untouched (hfree : s.store.channel.isFree = true)
    (hclosed : s.phase = .starting → s.unclosed = []) :
    s.scanBroken.store.flash = s.store.flash ∧ s.scanBroken.store.channel.isFree = true := by
  by_cases h : s.phase ≠ .starting ∨ s.scanStore.store.degraded = true
  · rw [State.scanBroken, if_pos h]
    exact ⟨rfl, hfree⟩
  · have hstarting : s.phase = .starting := by
      simp only [not_or, Classical.not_not] at h
      exact h.1
    have hempty : s.scanStore.queueTrailers.store.journalQueue = [] := by
      show s.unclosed.map scanTrailer = []
      rw [hclosed hstarting]
      rfl
    have hstart : s.scanStore.queueTrailers.scanStart = s.scanStore.queueTrailers := by
      rw [State.scanStart, hempty]
      rfl
    have hfree' : s.scanStore.queueTrailers.store.channel.isFree = true := hfree
    have hsome (n : Nat) (outs : List Bool) :
        State.scanSome n s.scanStore.queueTrailers outs = s.scanStore.queueTrailers := by
      cases n with
      | zero => rfl
      | succ n => rw [State.scanSome, hstart, if_pos (by rw [hfree', Bool.or_true])]
    rw [State.scanBroken, if_neg h, State.scannedSoFar]
    simp only [hsome, hstart, ite_self]
    exact ⟨rfl, hfree⟩

end

/-! ### What a reset loses and loads (R191, R192) -/

theorem Store.cutShort_free {st : Store} (h : st.channel.isFree = true) (n : Nat) : st.cutShort n = st.flash := by
  unfold Store.cutShort
  split
  · rfl
  · rfl
  · next hc =>
    rw [hc] at h
    cases h
  · next hc =>
    rw [hc] at h
    cases h

theorem State.cleared_ramLost (s : State) : ramLost s s.cleared := by
  refine ⟨rfl, rfl, rfl, rfl, rfl, rfl, rfl, rfl, rfl, rfl, rfl, rfl, rfl, rfl, rfl, rfl, rfl, rfl, rfl, rfl, rfl, rfl, rfl,
    rfl, rfl, rfl, rfl, rfl, rfl, rfl, rfl, rfl⟩

/-- A part that goes off or is held in reset, its scan broken off, has lost what RAM holds. -/
theorem State.broken_ramLost (s : State) (x : Phase) (low : Bool) :
    ramLost s { s.scanBroken.cleared with phase := x, resetLow := low } := by
  refine ⟨rfl, rfl, rfl, rfl, rfl, rfl, rfl, rfl, rfl, rfl, rfl, rfl, rfl, rfl, rfl, rfl, rfl, rfl, rfl, rfl, rfl, rfl, rfl,
    rfl, rfl, rfl, rfl, rfl, rfl, ?_, ?_, ?_⟩
  · exact State.eq_of_apart s.scanBroken_apart State.factorySerial fun _ => rfl
  · exact State.eq_of_apart s.scanBroken_apart State.factoryTrim fun _ => rfl
  · exact State.eq_of_apart s.scanBroken_apart State.pending fun _ => rfl

/-- The flash array of a part whose reset found nothing of it under way. -/
theorem State.broken_flash {s : State} (h : s.store.channel.isFree = true ∧ (s.phase = .starting → s.unclosed = [])) :
    s.scanBroken.cleared.store.flash = s.store.flash := by
  obtain ⟨hflash, hfree⟩ := s.scanBroken_untouched h.1 h.2
  exact (Store.cutShort_free hfree _).trans hflash

theorem State.enterStarting_afterReset (s : State) : afterReset s s.cleared.enterStarting := by
  refine ⟨⟨rfl, rfl, rfl, rfl, rfl, rfl, rfl, rfl, rfl, rfl, rfl, rfl, rfl, rfl, rfl, rfl, rfl, rfl, rfl, rfl, rfl, rfl,
    rfl, rfl, rfl, rfl, rfl, rfl, rfl, rfl, rfl, rfl⟩, fun hfree => Store.cutShort_free hfree _, rfl, rfl, rfl⟩

theorem State.resetDue_iff {s : State} {r : ResetRequest} (h : s.resetReq = some r) :
    s.resetDue = true ↔ s.running = true ∧ (r.due = true ∨ 10000 ≤ r.age) := by
  have hdue : s.resetDue = (s.running && (r.due || decide (10000 ≤ r.age))) := by
    rw [State.resetDue, h]
    rfl
  simp [hdue]

/-! ### STATION_RESET and GET_IDENT (R189, R191) -/

/-- A STATION_RESET's reply and the reset it arranges, whatever the request slot holds. -/
theorem State.arranged_serving (s : State) (p : Port) (code : Byte) :
    ((s.serving p code).replyReset p).arrangeReset p = { s.setPort p { s.port p with
        request := none, reply := some ⟨.ok, 0x05#8, [], s.resetReq.isNone⟩ } with
      resetReq := if s.resetReq = none then some ⟨p, 0, false⟩ else s.resetReq } := by
  have hreply : (s.serving p code).replyReset p = s.setPort p { s.port p with
      request := none, reply := some ⟨.ok, 0x05#8, [], s.resetReq.isNone⟩ } := by
    simp only [State.replyReset, State.serving, State.setPort_setPort, State.port_setPort, if_true]
    rfl
  rw [hreply]
  unfold State.arrangeReset
  cases hr : s.resetReq <;> simp [State.setPort, hr]

/-- Settles O58: the reset arranged and taken, GET_IDENT deferred. -/
theorem resetIsArrangedAndIdentDeferred : Obligations.ResetIsArrangedAndIdentDeferred := by
  refine ⟨fun p s ht => ?_, fun r s hrun hr hdue => ?_, fun r s hr hdue hage => ?_, fun p s hphase hreq => ?_,
    fun p s hphase hread ht => ?_⟩
  · show Host.Outcome.next (s.serve p _ [] _) = _
    rw [State.serve_taken _ _ _ _ _ ht]
    show Host.Outcome.next ((((s.arrived p []).serving p 0x05#8).replyReset p).arrangeReset p) = _
    rw [State.arranged_serving, State.arrived_resetReq]
  · refine ⟨s.cleared.enterStarting, ?_, s.enterStarting_afterReset, rfl, rfl, rfl⟩
    show Host.Outcome.next s.stationResetEffect = _
    rw [State.stationResetEffect, if_pos ((State.resetDue_iff hr).2 ⟨hrun, hdue⟩)]
  · show Host.Outcome.next s.stationResetEffect = _
    rw [State.stationResetEffect, if_neg fun h => ?_]
    rcases ((State.resetDue_iff hr).1 h).2 with hd | ha
    · simp [hdue] at hd
    · omega
  · show Host.Outcome.next (s.identDeferred p) = _
    rw [State.identDeferred, if_pos (by simp [State.identWaits, hphase, hreq])]
    exact congrArg _ (State.reply_some { s with identRead := true } p ⟨.ok, s.identPayload⟩ 0x01#8 hreq)
  · exact congrArg _ (State.serve_of_hold (body := getIdent []) id ht
      (by simp [getIdent, parseEmpty, hphase, hread, hold]) rfl)

/-! ### The supply and the RESET pin (R191) -/

/-- The part as power-on finds it, before RESET is looked at (R20, R22, R23). -/
def State.repowered (s : State) : State :=
  { s with uptime := 0, uptimeSub := 0, ticks := 0, backup := s.backup.powered }

/-- Settles O59: what each of the four leaves. -/
theorem supplyAndResetPinStartThePart : Obligations.SupplyAndResetPinStartThePart := by
  refine ⟨fun s hoff => ?_, fun s hon => congrArg Host.Outcome.next (if_neg hon), fun s => ?_, fun s hheld => ?_,
    fun s hheld => congrArg Host.Outcome.next (if_neg hheld)⟩
  · have hkept (h : s.backup.valid = true) : s.backup.powered = s.backup := if_pos h
    have hlost (h : s.backup.valid = false) : s.backup.powered =
        { s.backup with clock := 0, subSecond := 0, unset := true, lastStep := none, held := true } := if_neg (by simp [h])
    have hmark : (s.backup.valid = true → s.backup.powered.clock = s.backup.clock ∧
        s.backup.powered.unset = s.backup.unset ∧ s.backup.powered.lastStep = s.backup.lastStep ∧
        s.backup.powered.held = s.backup.held) ∧
        (s.backup.valid = false → s.backup.powered.clock = 0 ∧ s.backup.powered.unset = true ∧
          s.backup.powered.lastStep = none ∧ s.backup.powered.held = true) :=
      ⟨fun h => by simp [hkept h], fun h => by simp [hlost h]⟩
    refine ⟨s.repowered.leaveReset, congrArg Host.Outcome.next (if_pos hoff), ?_⟩
    cases hlow : s.resetLow with
    | false =>
      rw [show s.repowered.leaveReset = s.repowered.enterStarting from if_neg (by simp [State.repowered, hlow])]
      exact ⟨rfl, rfl, rfl, rfl, rfl, hmark.1, hmark.2, fun _ => ⟨rfl, rfl⟩⟩
    | true =>
      rw [show s.repowered.leaveReset = { s.repowered with phase := .held } from if_pos (by simp [State.repowered, hlow])]
      exact ⟨rfl, rfl, rfl, rfl, rfl, hmark.1, hmark.2, nofun⟩
  · have hbackup := State.eq_of_apart s.scanBroken_apart State.backup fun _ => rfl
    refine ⟨fun hon => ?_, fun hoff => congrArg Host.Outcome.next (if_pos hoff), fun hlow hon => ?_,
      fun hlow hoff => ?_, fun hlow => congrArg Host.Outcome.next (if_pos hlow)⟩
    · exact ⟨_, congrArg Host.Outcome.next (if_neg hon), s.broken_ramLost _ _, rfl, hbackup,
        State.eq_of_apart s.scanBroken_apart State.resetLow fun _ => rfl, State.broken_flash⟩
    · refine ⟨_, congrArg Host.Outcome.next ((if_neg (by simp [hlow])).trans (if_neg hon)), s.broken_ramLost _ _, rfl, rfl,
        hbackup, State.eq_of_apart s.scanBroken_apart State.uptime fun _ => rfl,
        State.eq_of_apart s.scanBroken_apart State.ticks fun _ => rfl, State.broken_flash⟩
    · exact congrArg Host.Outcome.next ((if_neg (by simp [hlow])).trans (if_pos hoff))
  · refine ⟨{ s with resetLow := false }.enterStarting, ?_, rfl, rfl, rfl, rfl, rfl, rfl, rfl⟩
    exact congrArg Host.Outcome.next (if_pos hheld : s.resetRelease = _)

end Sys2Proof.Machine

end

section
/-! PROOFS. The entry to READY (O60). -/

namespace Sys2Proof.Machine

-- one theorem at a time: many elaborated side by side would take a thread and its stack each
set_option Elab.async false

/-! ### Erases asked for (R144, R156) -/

/-- The part with other erases waiting. -/
def State.withErases (s : State) (es : List EraseRequest) : State := { s with store := { s.store with erases := es } }

section
variable (s : State)

theorem State.requestErase_view (q : EraseRequest) : ∃ es, s.requestErase q = s.withErases es :=
  ⟨_, s.requestErase_eq q⟩

theorem State.nameTarget_view (r : Region) (b : Nat) (p : ErasePurpose) :
    ∃ es, s.nameTarget r b p = s.withErases es := by
  unfold State.nameTarget
  split
  · exact ⟨s.store.erases, rfl⟩
  · split
    · exact ⟨s.store.erases, rfl⟩
    · exact s.requestErase_view _

theorem State.askAhead_view (r : Region) (cur : Option CurrentBlock) (p : ErasePurpose) :
    ∃ es, s.askAhead r cur p = s.withErases es := by
  unfold State.askAhead
  split
  · exact s.nameTarget_view _ _ _
  · split
    · exact ⟨s.store.erases, rfl⟩
    · split
      · exact ⟨s.store.erases, rfl⟩
      · exact s.requestErase_view _

theorem State.askDue_view : ∃ es, s.askDue = s.withErases es := by
  unfold State.askDue
  split
  · exact ⟨s.store.erases, rfl⟩
  · obtain ⟨es, hlog⟩ := s.askAhead_view .log s.store.logCur .logAhead
    obtain ⟨es', hjournal⟩ := (s.withErases es).askAhead_view .journal s.store.journalCur .journalAhead
    exact ⟨es', by rw [hlog, hjournal]; rfl⟩

/-! ### The scan (R162) and the entry (R193) -/

theorem State.identDeferred_view (p : Port) :
    ∃ ps b, s.identDeferred p = { s with ports := ps, identRead := b } := by
  unfold State.identDeferred
  split
  · unfold State.reply
    split
    · exact ⟨s.ports, true, rfl⟩
    · exact ⟨_, true, rfl⟩
  · exact ⟨s.ports, s.identRead, rfl⟩

theorem State.replyIdents_view : ∃ ps b, s.replyIdents = { s with ports := ps, identRead := b } := by
  obtain ⟨ps, b, hl⟩ := s.identDeferred_view .l
  obtain ⟨ps', b', ht⟩ := { s with ports := ps, identRead := b }.identDeferred_view .t
  obtain ⟨ps'', b'', hc⟩ := { s with ports := ps', identRead := b' }.identDeferred_view .c
  exact ⟨ps'', b'', by rw [State.replyIdents, hl, ht, hc]⟩

/-- The part as the scan has found the array and closed the runs it found open. -/
def State.closedAtScan (outs : List Bool) : State := s.replyIdents.scanStore.closeRuns outs

/-- The scan reads the array as STARTING found it. -/
theorem State.scan_eq (outs : List Bool) : s.replyIdents.scan outs = (s.closedAtScan outs).handOver
    s.store.flash.scanLog (newestHeaderId (s.store.flash.entries s.store.givenUp)) := by
  obtain ⟨ps, b, h⟩ := s.replyIdents_view
  have hstore : s.replyIdents.store = s.store := by rw [h]
  rw [State.scan, State.foundRunId, hstore]
  rfl

theorem State.closedAtScan_field (outs : List Bool) {α : Type} (f : State → α) (hf : ∀ u : State, f u.apart.1 = f u)
    (hports : ∀ ps b, f { s with ports := ps, identRead := b } = f s) : f (s.closedAtScan outs) = f s := by
  obtain ⟨ps, b, h⟩ := s.replyIdents_view
  have hscan : (s.closedAtScan outs).apart.1 = s.replyIdents.apart.1 :=
    (congrArg Prod.fst (State.closeRuns_apart _ outs)).trans rfl
  rw [State.eq_of_apart hscan f hf, h, hports]

theorem State.closedAtScan_nextSeq (outs : List Bool) :
    (s.closedAtScan outs).store.nextSeq = s.store.flash.scanLog.nextSeq := by
  obtain ⟨ps, b, h⟩ := s.replyIdents_view
  rw [State.closedAtScan, State.apart_nextSeq (State.closeRuns_apart _ outs), h]
  rfl

/-- The part as it enters READY, before the erases left due are asked for (R163, R193). -/
def State.enteringReady : State :=
  { s.setCursors with phase := .ready, warn := s.warn.atReady s.uptime, identRead := true, startTicks := 0 }.alignSchedule

/-- Raising an event leaves every cursor and lost count. -/
theorem State.raiseAll_cursor (k : EventKind) (p : Port) :
    ((s.raiseAll k).port p).cursor = (s.port p).cursor ∧ ((s.raiseAll k).port p).lost = (s.port p).lost := by
  by_cases h : s.phase = .ready
  · rw [State.raiseAll_port _ _ _ h, PortState.record_eq]
    exact ⟨rfl, rfl⟩
  · rw [State.raiseAll_before_ready _ _ h]
    exact ⟨rfl, rfl⟩

/-- The entry to READY asks for erases and raises events, and changes nothing further. -/
theorem State.enterReady_view : ∃ es ps, s.enterReady = { s.enteringReady.withErases es with ports := ps } := by
  obtain ⟨es, hask⟩ := s.enteringReady.askDue_view
  have heq : s.enterReady = ((s.enteringReady.withErases es).raiseAll .stationRestarted).raiseFault :=
    congrArg (fun u => (u.raiseAll .stationRestarted).raiseFault) hask
  obtain ⟨ps, hps⟩ := State.raiseAll_view (s.enteringReady.withErases es) .stationRestarted
  rw [hps, State.raiseFault] at heq
  split at heq
  · obtain ⟨qs, hqs⟩ := State.raiseAll_view { s.enteringReady.withErases es with ports := ps } .storeFault
    exact ⟨es, qs, heq.trans hqs⟩
  · exact ⟨es, ps, heq⟩

/-- The entry to READY leaves every cursor at next_seq, and STATION_RESTARTED pending (R163, R184). -/
theorem State.enterReady_ports : (∀ p, (s.enterReady.port p).cursor = s.store.nextSeq ∧ (s.enterReady.port p).lost = 0) ∧
    s.enterReady.pendingWhereEnabled .stationRestarted := by
  obtain ⟨es, hask⟩ := s.enteringReady.askDue_view
  have heq : s.enterReady = ((s.enteringReady.withErases es).raiseAll .stationRestarted).raiseFault :=
    congrArg (fun u => (u.raiseAll .stationRestarted).raiseFault) hask
  have hset (p : Port) : ((s.enteringReady.withErases es).port p).cursor = s.store.nextSeq ∧
      ((s.enteringReady.withErases es).port p).lost = 0 := by cases p <;> exact ⟨rfl, rfl⟩
  refine ⟨fun p => ?_, ?_⟩
  · rw [heq, State.raiseFault]
    split
    · rw [(State.raiseAll_cursor _ _ p).1, (State.raiseAll_cursor _ _ p).2, (State.raiseAll_cursor _ _ p).1,
        (State.raiseAll_cursor _ _ p).2]
      exact hset p
    · rw [(State.raiseAll_cursor _ _ p).1, (State.raiseAll_cursor _ _ p).2]
      exact hset p
  · rw [heq]
    exact (State.raiseFault_keeps _).pending (State.raiseAll_pendingWhere rfl)

end

/-- What the entry to READY leaves of a part the scan has handed over (R5, R21, R25, R50, R88, R113). -/
theorem State.handOver_enterReady (c : State) (log : LogScan) (id : Nat) :
    let t := (c.handOver log id).enterReady
    t.phase = .ready ∧ t.store.nextSeq = c.store.nextSeq ∧ t.backup = c.backup.restored log.newest ∧
      t.warn = { c.warn with level := restoredLevel log.newest }.atReady c.uptime ∧
      t.floatCh = c.floatCh.restored log.newestSample ∧ t.rating.active = t.store.flash.newestImage ∧
      t.newestRunId = id ∧
      t.sched = ⟨nextSampleAfter (c.cfg.intervalOf t.warn.level) t.backup.clock.toNat, none, none⟩ ∧
      t.cfg = c.cfg ∧ t.uptime = c.uptime ∧ t.ticks = c.ticks := by
  obtain ⟨es, ps, heq⟩ := (c.handOver log id).enterReady_view
  intro t
  have ht : t = { (c.handOver log id).enteringReady.withErases es with ports := ps } := heq
  rw [ht]
  exact ⟨rfl, rfl, rfl, rfl, rfl, rfl, rfl, rfl, rfl, rfl, rfl⟩

/-- The clock loaded from the newest record (R21). -/
theorem BackupDomain.restored_held {b : BackupDomain} (h : b.held = true) (newest : Option LogRecord) :
    (b.restored newest).held = false ∧ (b.restored newest).valid = true ∧ (b.restored newest).unset = b.unset ∧
      (b.restored newest).clock = (match newest with
        | none => 0
        | some r => r.time + 1) := by
  rw [show b.restored newest = _ from if_pos h]
  cases newest <;> exact ⟨rfl, rfl, rfl, rfl⟩

/-- Settles O60: what the entry leaves of a part handed over, and the scan's frame. -/
theorem readyEntryRestoresFromTheLog : Obligations.ReadyEntryRestoresFromTheLog := by
  intro outs s hphase log
  have hnext : (s.closedAtScan outs).store.nextSeq = log.nextSeq := s.closedAtScan_nextSeq outs
  have hbackup := s.closedAtScan_field outs State.backup (fun _ => rfl) fun _ _ => rfl
  have hwarn := s.closedAtScan_field outs State.warn (fun _ => rfl) fun _ _ => rfl
  have hfloat := s.closedAtScan_field outs State.floatCh (fun _ => rfl) fun _ _ => rfl
  have hcfg := s.closedAtScan_field outs State.cfg (fun _ => rfl) fun _ _ => rfl
  have huptime := s.closedAtScan_field outs State.uptime (fun _ => rfl) fun _ _ => rfl
  have hticks := s.closedAtScan_field outs State.ticks (fun _ => rfl) fun _ _ => rfl
  have hexec : exec (.readyEntry outs) s = .next ((s.closedAtScan outs).handOver log
      (newestHeaderId (s.store.flash.entries s.store.givenUp))).enterReady := by
    show Host.Outcome.next (s.readyEntry outs) = _
    rw [State.readyEntry, if_pos hphase, State.scan_eq]
  refine ⟨_, hexec, ?_⟩
  generalize s.closedAtScan outs = c at *
  obtain ⟨tphase, tnext, tbackup, twarn, tfloat, tactive, tid, tsched, tcfg, tuptime, tticks⟩ :=
    c.handOver_enterReady log (newestHeaderId (s.store.flash.entries s.store.givenUp))
  obtain ⟨hcursor, hpending⟩ :=
    (c.handOver log (newestHeaderId (s.store.flash.entries s.store.givenUp))).enterReady_ports
  rw [hbackup] at tbackup
  rw [hwarn, huptime] at twarn
  rw [hfloat] at tfloat
  rw [hcfg] at tsched
  have hlevel : ({ s.warn with level := restoredLevel log.newest }.atReady s.uptime).level = restoredLevel log.newest :=
    WarningUnit.atReady_level _ _
  refine ⟨tphase, tnext.trans hnext, fun hheld => ?_, fun hheld => ?_, ?_, fun hdanger => ?_, fun hdanger => ?_, ?_, ?_, ?_,
    ?_, tactive, tid, ?_, ?_, ?_, tcfg.trans hcfg, tuptime.trans huptime, tticks.trans hticks,
    fun p => ⟨(hcursor p).1.trans hnext, (hcursor p).2, hpending p⟩⟩
  · rw [tbackup]
    exact BackupDomain.restored_held hheld _
  · exact tbackup.trans (if_neg (by simp [hheld]))
  · rw [twarn, hlevel]
    rfl
  · rw [twarn, hlevel] at hdanger
    rw [twarn, WarningUnit.atReady, if_pos hdanger]
    exact ⟨rfl, rfl⟩
  · rw [twarn, hlevel] at hdanger
    rw [twarn, WarningUnit.atReady, if_neg hdanger]
    exact ⟨rfl, id⟩
  · rw [tfloat]
    rfl
  · rw [tfloat]
    rfl
  · rw [tfloat]
    rfl
  · rw [tfloat]
    rfl
  · rw [tsched]
  · rw [tsched]
  · rw [tsched]

end Sys2Proof.Machine

end

section
/-! PROOFS. A port reset (O23). -/

namespace Sys2Proof.Machine

-- one theorem at a time: many elaborated side by side would take a thread and its stack each
set_option Elab.async false

/-! ### A port that no longer waits, twice over (R177) -/

theorem Run.leave_leave (p : Port) (r : Run) : (r.leave p).leave p = r.leave p := by
  unfold Run.leave
  split <;> simp_all

theorem InFlight.leave_leave (p : Port) (f : InFlight) : (f.leave p).leave p = f.leave p := by
  unfold InFlight.leave
  split <;> simp_all

theorem WaitingRead.leave_leave (p : Port) (r : WaitingRead) : (r.leave p).leave p = r.leave p := by
  unfold WaitingRead.leave
  split <;> simp_all

theorem Class4.leave_leave (p : Port) (w : Class4) : (w.leave p).leave p = w.leave p := by
  cases w with
  | ident chars fails toPort =>
    simp only [Class4.leave]
    split <;> simp_all
  | _ => rfl

/-! ### Port C's line as a reset leaves it (R175, R177) -/

/-- What port C has sent once its transmission is broken off. -/
def State.sentLeft (s : State) : List Byte :=
  if s.lineC.tx = none then s.ports.c.sent else s.ports.c.sent.take s.lineC.charsBegun

/-- Port C's line once its transmission is broken off. -/
def State.lineLeft (s : State) : LineC :=
  match s.lineC.tx with
  | none => s.lineC
  | some r => { s.lineC.stopped with charLeft := s.lineC.charRest r }

theorem State.lineStopped_eq (s : State) : s.lineStopped =
    { s.setPort .c { s.port .c with sent := s.sentLeft } with lineC := s.lineLeft } := by
  cases h : s.lineC.tx with
  | none =>
    rw [State.lineStopped, State.lineLeft, State.sentLeft, h]
    rfl
  | some r =>
    rw [State.lineStopped, State.lineLeft, State.sentLeft, h]
    rfl

/-- The line stands as R177 has it. -/
theorem State.lineLeft_eq (s : State) : s.lineLeft.tx = none ∧ s.lineLeft.div = s.lineC.div ∧
    s.lineLeft.frac = s.lineC.frac ∧ s.lineLeft.low = s.lineC.low ∧ s.lineLeft.charLeft = (match s.lineC.tx with
      | none => s.lineC.charLeft
      | some r => s.lineC.charTicks (min s.lineC.charsBegun (r.payload.length + 7)) - s.lineC.txTicks) := by
  cases h : s.lineC.tx with
  | none =>
    rw [State.lineLeft, h]
    exact ⟨h, rfl, rfl, rfl, rfl⟩
  | some r =>
    rw [State.lineLeft, h]
    exact ⟨rfl, rfl, rfl, rfl, rfl⟩

/-! ### The rating slots (R64) -/

/-- The rating slots once a port has left what it had in service and has been reset. -/
theorem RatingUnit.portReset_eq (u : RatingUnit) (p : Port) : u.portReset p = { u with
    draft := match u.draft with
      | .editing q d => if q = p then .empty else .editing q d
      | .activating q => if q = p then .empty else .activating q
      | d => d
    inFlight := u.inFlight.map fun f => { f with owner := if u.draft = .activating p then none else f.owner } } := by
  cases u with
  | mk active draft inFlight =>
    have hid : inFlight.map (fun f => { f with owner := f.owner }) = inFlight := Option.map_id'
    cases draft with
    | empty | previous d => simp [RatingUnit.portReset, hid]
    | editing q d | activating q => by_cases hq : q = p <;> simp [RatingUnit.portReset, hq, hid]

/-- The rating slots once a port has left what it had in service and has been reset (R64). -/
theorem RatingUnit.portReset_leave (u : RatingUnit) (p : Port) :
    { u with inFlight := u.inFlight.map (InFlight.leave p) }.portReset p = { u with
      draft := match u.draft with
        | .editing q d => if q = p then .empty else .editing q d
        | .activating q => if q = p then .empty else .activating q
        | d => d
      inFlight := u.inFlight.map fun f => { f with
        owner := if u.draft = .activating p then none else f.owner
        replyTo := if f.replyTo = some p then none else f.replyTo } } := by
  have hflight : (u.inFlight.map (InFlight.leave p)).map (fun f : InFlight => { f with
        owner := if u.draft = Draft.activating p then none else f.owner }) = u.inFlight.map fun f => { f with
        owner := if u.draft = Draft.activating p then none else f.owner
        replyTo := if f.replyTo = some p then none else f.replyTo } := by
    rw [Option.map_map]
    exact congrArg (fun g => u.inFlight.map g) (funext fun f => by rw [Function.comp, InFlight.leave_eq])
  rw [RatingUnit.portReset_eq]
  exact congrArg (fun x => RatingUnit.mk _ _ x) hflight

/-! ### A part on its way to the reset -/

/-- A part a request of the port has arrived at: its run's silence timer may run anew, and what the port had in service
may already run on without it. -/
structure State.Reached (p : Port) (y z : State) (since : Run → Option Nat) : Prop where
  frame : z = { y with
    run := z.run, ports := z.ports
    rating := { y.rating with inFlight := z.rating.inFlight }
    store := { y.store with reads := z.store.reads, class4 := z.store.class4 } }
  run : z.run.map (Run.leave p) = y.run.map fun r => { r.leave p with silenceStart := since r }
  quiet : ∀ r, (decide (p = .c) && r.active) = false → since r = r.silenceStart
  flight : z.rating.inFlight.map (InFlight.leave p) = y.rating.inFlight.map (InFlight.leave p)
  reads : z.store.reads.map (WaitingRead.leave p) = y.store.reads.map (WaitingRead.leave p)
  class4 : z.store.class4.map (Class4.leave p) = y.store.class4.map (Class4.leave p)
  others : ∀ q, q ≠ p → z.port q = y.port q
  own : (z.port p).cursor = (y.port p).cursor ∧ (z.port p).lost = (y.port p).lost ∧
    (p = .c → (z.port p).sent = (y.port p).sent)

theorem State.Reached.refl (p : Port) (y : State) : State.Reached p y y Run.silenceStart where
  frame := rfl
  run := congrArg (fun f => y.run.map f) (funext fun r => by rw [Run.leave_eq])
  quiet _ _ := rfl
  flight := rfl
  reads := rfl
  class4 := rfl
  others _ _ := rfl
  own := ⟨rfl, rfl, fun _ => rfl⟩

/-- The run's silence timer as a frame on a port leaves it. -/
def State.silenceOn (s : State) (p : Port) (r : Run) : Option Nat := (r.heardOn p s.uptime).silenceStart

theorem Run.heardOn_leave (r : Run) (p : Port) (now : Nat) :
    (r.heardOn p now).leave p = { r.leave p with silenceStart := (r.heardOn p now).silenceStart } := by
  obtain ⟨since, h⟩ := r.heardOn_eq p now
  rw [h, Run.leave_eq, Run.leave_eq]

/-- A request that enters a port's slot has reached the part. -/
theorem State.Reached.accept (p : Port) (y : State) (payload : List Byte) (code : Byte) :
    State.Reached p y ((y.arrived p payload).accept p code) (y.silenceOn p) := by
  have hquiet (r : Run) (h : (decide (p = .c) && r.active) = false) : y.silenceOn p r = r.silenceStart := by
    simp only [Bool.and_eq_false_iff, decide_eq_false_iff_not] at h
    unfold State.silenceOn Run.heardOn
    split
    · next hp => rw [Run.heard_eq, h.resolve_left (by simp [hp])]; rfl
    · rfl
  have hrun : (y.arrived p payload).run.map (Run.leave p) =
      y.run.map fun r => { r.leave p with silenceStart := y.silenceOn p r } := by
    rw [State.arrived_run, Option.map_map]
    exact congrArg (fun f => y.run.map f) (funext fun r => r.heardOn_leave p y.uptime)
  have hown : ((y.arrived p payload).port p).cursor = (y.port p).cursor ∧
      ((y.arrived p payload).port p).lost = (y.port p).lost ∧
      (p = .c → ((y.arrived p payload).port p).sent = (y.port p).sent) := by
    rw [State.arrived_port_same]
    cases p with
    | c => exact ⟨rfl, rfl, fun _ => rfl⟩
    | l | t => exact ⟨rfl, rfl, nofun⟩
  obtain ⟨ps, run, harr⟩ := y.arrived_view p payload
  have hothers (q : Port) (hq : q ≠ p) : (y.arrived p payload).port q = y.port q :=
    State.arrived_port_other _ _ _ _ hq
  rw [harr] at hrun hown hothers ⊢
  unfold State.accept
  dsimp only
  split
  · refine ⟨rfl, ?_, hquiet, ?_, ?_, ?_, fun q hq => ?_, ?_⟩
    · show (run.map (Run.leave p)).map (Run.leave p) = _
      rw [Option.map_map, show Run.leave p ∘ Run.leave p = Run.leave p from funext (Run.leave_leave p)]
      exact hrun
    · show (y.rating.inFlight.map (InFlight.leave p)).map (InFlight.leave p) = _
      rw [Option.map_map, show InFlight.leave p ∘ InFlight.leave p = InFlight.leave p from funext (InFlight.leave_leave p)]
    · show (y.store.reads.map (WaitingRead.leave p)).map (WaitingRead.leave p) = _
      rw [List.map_map, show WaitingRead.leave p ∘ WaitingRead.leave p = WaitingRead.leave p from
        funext (WaitingRead.leave_leave p)]
    · show (y.store.class4.map (Class4.leave p)).map (Class4.leave p) = _
      rw [List.map_map, show Class4.leave p ∘ Class4.leave p = Class4.leave p from funext (Class4.leave_leave p)]
    · rw [State.setPort_port_other _ _ _ _ hq]
      exact hothers q hq
    · rw [State.setPort_port_same]
      exact hown
  · refine ⟨rfl, hrun, hquiet, rfl, rfl, rfl, fun q hq => ?_, ?_⟩
    · rw [State.setPort_port_other _ _ _ _ hq]
      exact hothers q hq
    · rw [State.setPort_port_same]
      exact hown

/-- A port replaced hides what it was before. -/
theorem Ports.set_congr {a b : Ports} {p : Port} (h : ∀ q, q ≠ p → a.get q = b.get q) (x : PortState) :
    a.set p x = b.set p x := by
  have hl := h .l
  have ht := h .t
  have hc := h .c
  cases p <;> simp_all [Ports.set, Ports.get]

/-- The part once the port is cleared, its run and what it has sent given (R64, R177). -/
def State.clearedAt (y : State) (p : Port) (run : Option Run) (sent : List Byte) : State := { y with
  ports := y.ports.set p { (y.port p).cleared with sent := sent }
  run := run
  lineC := if p = .c then y.lineLeft else y.lineC
  rating := { y.rating with inFlight := y.rating.inFlight.map (InFlight.leave p) }.portReset p
  store := { y.store with
    reads := y.store.reads.map (WaitingRead.leave p), class4 := y.store.class4.map (Class4.leave p) }
  resetReq := y.resetReq.map fun r => r.ifPort p }

theorem State.portCleared_eq (z : State) (p : Port) : z.portCleared p =
    z.clearedAt p (z.run.map (Run.leave p)) (if p = .c then z.sentLeft else (z.port p).sent) := by
  by_cases hp : p = .c
  · subst hp
    rw [State.portCleared, if_pos rfl, if_pos rfl, State.lineStopped_eq]
    rfl
  · rw [State.portCleared, if_neg hp, if_neg hp, State.clearedAt, if_neg hp]
    rfl

section
variable {y : State} {p : Port} {ports : Ports} {flight : Option InFlight} {reads : List WaitingRead}
  {class4 : List Class4} (hothers : ∀ q, q ≠ p → ports.get q = y.port q) (hcursor : (ports.get p).cursor = (y.port p).cursor)
  (hlost : (ports.get p).lost = (y.port p).lost)
  (hflight : flight.map (InFlight.leave p) = y.rating.inFlight.map (InFlight.leave p))
  (hreads : reads.map (WaitingRead.leave p) = y.store.reads.map (WaitingRead.leave p))
  (hclass4 : class4.map (Class4.leave p) = y.store.class4.map (Class4.leave p))
include hothers hcursor hlost hflight hreads hclass4

/-- A port's reset hides what the port held and what it had in service. -/
theorem State.clearedAt_congr (run run' : Option Run) (sent : List Byte) :
    State.clearedAt { y with run := run', ports := ports
                             rating := { y.rating with inFlight := flight }
                             store := { y.store with reads := reads, class4 := class4 } } p run sent =
      y.clearedAt p run sent := by
  have hx : { (ports.get p).cleared with sent := sent } = { (y.port p).cleared with sent := sent } := by
    simp only [PortState.cleared, hcursor, hlost]
  have hports : ports.set p { (ports.get p).cleared with sent := sent } =
      y.ports.set p { (y.port p).cleared with sent := sent } := by
    rw [hx]
    exact Ports.set_congr hothers _
  simp only [State.clearedAt, State.port, hports, hflight, hreads, hclass4]
  rfl

end

theorem State.Reached.portCleared {p : Port} {y z : State} {since : Run → Option Nat} (h : State.Reached p y z since) :
    z.portCleared p = y.clearedAt p (y.run.map fun r => { r.leave p with silenceStart := since r })
      (if p = .c then y.sentLeft else (z.port p).sent) := by
  obtain ⟨frame, hrun, -, hflight, hreads, hclass4, hothers, hcursor, hlost, hsent⟩ := h
  have hleft : (if p = .c then z.sentLeft else (z.port p).sent) = if p = .c then y.sentLeft else (z.port p).sent := by
    split
    · next hp =>
      have hline : z.lineC = y.lineC := by rw [frame]
      rw [hp] at hsent
      have hc : z.ports.c.sent = y.ports.c.sent := hsent rfl
      rw [State.sentLeft, State.sentLeft, hline, hc]
    · rfl
  rw [State.portCleared_eq, hrun, hleft]
  conv => lhs; rw [frame]
  exact State.clearedAt_congr hothers hcursor hlost hflight hreads hclass4 _ _ _

/-! ### What the reset leaves (R107, R177) -/

/-- The port reset's park, where the port is port C. -/
def State.resetPark (c : State) (p : Port) : State := if p = .c then c.park .linkReset else c

theorem State.portReset_eq (z : State) (p : Port) : z.portReset p = (z.portCleared p).resetPark p := by
  unfold State.portReset State.resetPark
  split <;> rfl

section
variable {y : State} {p : Port} {run : Option Run} {sent : List Byte}

/-- A reset that finds no run to park. -/
theorem State.resetPark_idle (h : ∀ r, run = some r → (decide (p = .c) && r.active) = false) :
    (y.clearedAt p run sent).resetPark p = y.clearedAt p run sent := by
  unfold State.resetPark
  split
  · next hp =>
    refine State.park_idle _ _ fun r hr => ?_
    have := h r hr
    simp_all [Run.parksOn]
  · rfl

/-- RUN_PARKED on all ports, and RECALL behind it on port C (R104). -/
theorem State.raiseParked_view (w : State) : ∃ ps : Ports,
    (w.raiseAll .runParked).raiseOn .c .recall = { w with ports := ps } ∧
    ps.c = (if w.phase = .ready
      then (w.ports.c.record w.backup.clock .runParked).record w.backup.clock .recall else w.ports.c) ∧
    ∀ q, q ≠ .c → ps.get q = if w.phase = .ready ∧ (w.port q).enables.getLsbD Group.run.bit = true
      then { w.port q with events := addEvent w.backup.clock .runParked (w.port q).events } else w.port q := by
  by_cases hready : w.phase = .ready
  · rw [State.raiseAll_eq w _ hready, State.raiseOn_eq, if_pos hready, if_pos hready]
    refine ⟨_, rfl, rfl, fun q hq => ?_⟩
    have hrecord (x : PortState) : x.record w.backup.clock .runParked =
        if w.phase = .ready ∧ x.enables.getLsbD Group.run.bit = true
        then { x with events := addEvent w.backup.clock .runParked x.events } else x := by
      simp only [hready, true_and]
      rfl
    cases q with
    | c => exact absurd rfl hq
    | l => exact hrecord w.ports.l
    | t => exact hrecord w.ports.t
  · rw [State.raiseAll_before_ready w _ hready, State.raiseOn_eq, if_neg hready, if_neg hready]
    refine ⟨_, rfl, rfl, fun q hq => ?_⟩
    rw [if_neg fun h => hready h.1]
    cases q with
    | c => exact absurd rfl hq
    | l => rfl
    | t => rfl

/-- RUN_PARKED and RECALL stand alone in a pending set just cleared. -/
theorem PortState.cleared_parked (x : PortState) (l : List Byte) (now : Word32) :
    ({ x.cleared with sent := l }.record now .runParked).record now .recall =
      { x.cleared with sent := l, events := [⟨.runParked, now, 1⟩, ⟨.recall, now, 1⟩] } := by
  simp [PortState.record_eq, PortState.cleared, addEvent, EventKind.group, Group.bit]

/-- A reset that parks its run. -/
theorem State.resetPark_parks {r : Run} (ha : r.active = true) : ∃ ps : Ports,
    (y.clearedAt .c (some r) sent).resetPark .c = { y.clearedAt .c (some r) sent with
      run := some (r.parked .linkReset y.uptime), meter := y.meter.stopped, ports := ps } ∧
    ps.c = { y.ports.c.cleared with
      sent := sent
      events := if y.phase = .ready then [⟨.runParked, y.backup.clock, 1⟩, ⟨.recall, y.backup.clock, 1⟩] else [] } ∧
    ∀ q, q ≠ .c → ps.get q = if y.phase = .ready ∧ (y.port q).enables.getLsbD Group.run.bit = true
      then { y.port q with events := addEvent y.backup.clock .runParked (y.port q).events } else y.port q := by
  have hpark : (y.clearedAt .c (some r) sent).resetPark .c =
      ({ y.clearedAt .c (some r) sent with
        run := some (r.parked .linkReset y.uptime), meter := y.meter.stopped }.raiseAll .runParked).raiseOn .c .recall :=
    State.park_run (y.clearedAt .c (some r) sent) .linkReset r rfl (by simp [Run.parksOn, ha])
  obtain ⟨ps, hview, hc, hothers⟩ := State.raiseParked_view { y.clearedAt .c (some r) sent with
    run := some (r.parked .linkReset y.uptime), meter := y.meter.stopped }
  refine ⟨ps, hpark.trans hview, hc.trans ?_, fun q hq => (hothers q hq).trans ?_⟩
  · show (if y.phase = .ready then ({ y.ports.c.cleared with sent := sent }.record y.backup.clock .runParked).record
      y.backup.clock .recall else { y.ports.c.cleared with sent := sent }) = _
    rw [PortState.cleared_parked]
    split <;> rfl
  · cases q with
    | c => exact absurd rfl hq
    | l => rfl
    | t => rfl

end

section
variable {p : Port} {y t : State} {run : Option Run} {meter : MeterCapture} {ps : Ports} {sent : List Byte}

/-- What a port reset leaves, by its run, its meter and its ports. -/
theorem portResetLeaves_of (ht : t = { y.clearedAt p run sent with meter := meter, ports := ps })
    (hport : ps.get p = { (y.port p).cleared with
      sent := sent
      events := if y.parksAtReset p ∧ y.phase = .ready
        then [⟨.runParked, y.backup.clock, 1⟩, ⟨.recall, y.backup.clock, 1⟩] else [] })
    (hothers : ∀ q, q ≠ p → ps.get q =
      if y.parksAtReset p ∧ y.phase = .ready ∧ (y.port q).enables.getLsbD Group.run.bit = true
      then { y.port q with events := addEvent y.backup.clock .runParked (y.port q).events } else y.port q)
    (hsent : p = .c → sent = y.sentLeft)
    (hparked : ∀ r, y.run = some r → y.parksAtReset p = true → run = some { r.leave p with
      state := .parked, obs := none, parkReason := some .linkReset, parkUptime := some y.uptime, silenceStart := none })
    (hleft : y.parksAtReset p = false → run = y.run.map (Run.leave p))
    (hmeter : meter = if y.parksAtReset p then { y.meter with counting := false } else y.meter) :
    portResetLeaves p y t ∧ (t.port p).request = none ∧ (t.port p).reply = none ∧ t.lineC.low = y.lineC.low ∧
      (t.port p).sent = sent := by
  obtain ⟨htx, hdiv, hfrac, hlow, hchar⟩ := y.lineLeft_eq
  subst ht
  have hp : { y.clearedAt p run sent with meter := meter, ports := ps }.port p = _ := hport
  refine ⟨⟨rfl, congrArg PortState.frameError hp, congrArg PortState.overrun hp, congrArg PortState.frameAgain hp,
    congrArg PortState.overrunAgain hp, congrArg PortState.rx hp, congrArg PortState.enables hp,
    (congrArg PortState.cursor hp).trans rfl, (congrArg PortState.lost hp).trans rfl, congrArg PortState.events hp, hothers, fun hc => ?_,
    fun hc => if_neg hc, hparked, hleft, hmeter, RatingUnit.portReset_leave y.rating p, rfl, rfl⟩,
    congrArg PortState.request hp, congrArg PortState.reply hp, ?_, congrArg PortState.sent hp⟩
  · subst hc
    exact ⟨htx, hdiv, hfrac, (congrArg PortState.sent hp).trans (hsent rfl), hchar⟩
  · show (if p = .c then y.lineLeft else y.lineC).low = _
    split
    · exact hlow
    · rfl

end

/-- What a port reset leaves, its own slots emptied. -/
theorem State.Reached.portReset {p : Port} {y z : State} {since : Run → Option Nat} (h : State.Reached p y z since) :
    portResetLeaves p y (z.portReset p) ∧ ((z.portReset p).port p).request = none ∧
      ((z.portReset p).port p).reply = none ∧ (z.portReset p).lineC.low = y.lineC.low ∧
      (p ≠ .c → ((z.portReset p).port p).sent = (z.port p).sent) := by
  rw [State.portReset_eq, h.portCleared]
  have hquiet (r : Run) : { r.leave p with silenceStart := since r }.active = r.active := by rw [Run.leave_eq]; rfl
  cases hparks : y.parksAtReset p with
  | false =>
    have hidle (r : Run) (hr : y.run = some r) : (decide (p = .c) && r.active) = false := by
      simpa only [State.parksAtReset, hr] using hparks
    have hrun : (y.run.map fun r => { r.leave p with silenceStart := since r }) = y.run.map (Run.leave p) := by
      refine Option.map_congr fun r hr => ?_
      rw [h.quiet r (hidle r hr), Run.leave_eq]
    rw [hrun, State.resetPark_idle fun r hr => ?_]
    · obtain ⟨hleaves, hreq, hrep, hlow, hsent⟩ := portResetLeaves_of (y := y) (p := p) (run := y.run.map (Run.leave p))
        (meter := y.meter) (sent := if p = .c then y.sentLeft else (z.port p).sent)
        (ps := y.ports.set p { (y.port p).cleared with sent := if p = .c then y.sentLeft else (z.port p).sent }) rfl
        ((Ports.get_set_same _ _ _).trans (by simp only [hparks, Bool.false_eq_true, false_and, if_false]; rfl))
        (fun q hq => (Ports.get_set_other _ _ _ _ hq).trans
          (by simp only [hparks, Bool.false_eq_true, false_and, if_false]; rfl))
        (fun hc => if_pos hc) (fun _ _ hp => absurd hp (by simp [hparks])) (fun _ => rfl)
        (by rw [hparks]; rfl)
      exact ⟨hleaves, hreq, hrep, hlow, fun hc => hsent.trans (if_neg hc)⟩
    · obtain ⟨r', hr', rfl⟩ := Option.map_eq_some_iff.1 hr
      have := hidle r' hr'
      rwa [show (r'.leave p).active = r'.active by rw [Run.leave_eq]; rfl]
  | true =>
    obtain ⟨r, hr, hc, ha⟩ : ∃ r, y.run = some r ∧ p = .c ∧ r.active = true := by
      cases hr : y.run with
      | none => simp [State.parksAtReset, hr] at hparks
      | some r => exact ⟨r, rfl, by simpa [State.parksAtReset, hr] using hparks⟩
    subst hc
    obtain ⟨ps, heq, hown, hothers⟩ := State.resetPark_parks (y := y) (sent := y.sentLeft)
      (r := { r.leave .c with silenceStart := since r }) ((hquiet r).trans ha)
    rw [hr, Option.map_some, if_pos rfl, heq]
    obtain ⟨hleaves, hreq, hrep, hlow, -⟩ := portResetLeaves_of (y := y) (p := .c) (ps := ps)
      (run := some ({ r.leave .c with silenceStart := since r }.parked .linkReset y.uptime))
      (meter := y.meter.stopped) (sent := y.sentLeft) rfl
      (hown.trans (by simp only [hparks, true_and]; rfl)) (fun q hq => (hothers q hq).trans (by simp only [hparks, true_and]))
      (fun _ => rfl) (fun r' hr' _ => by rw [hr] at hr'; cases hr'; rfl) (fun hp => absurd hp (by simp [hparks]))
      (by rw [hparks]; rfl)
    exact ⟨hleaves, hreq, hrep, hlow, fun hc => absurd rfl hc⟩

/-! ### LINK_RESET and the break (R175, R176) -/

/-- The answer in the slot of the port that was reset. -/
theorem portResetLeaves_answered {p : Port} {y t : State} (h : portResetLeaves p y t) (code : Byte) (st : Status)
    (pl : List Byte) : portResetLeaves p y (t.answered p code st pl) := by
  obtain ⟨hview, hfe, hov, hfa, hoa, hrx, hen, hcur, hlost, hev, hothers, hline, hrest⟩ := h
  have hport : (t.answered p code st pl).port p =
      { t.port p with request := none, reply := some ⟨st, code, pl, false⟩ } := State.setPort_port_same _ _ _
  have hother (q : Port) (hq : q ≠ p) : (t.answered p code st pl).port q = t.port q := State.setPort_port_other _ _ _ _ hq
  refine ⟨congrArg (fun u : State => { u with ports := (t.answered p code st pl).ports }) hview,
    hport ▸ hfe, hport ▸ hov, hport ▸ hfa, hport ▸ hoa, hport ▸ hrx, hport ▸ hen, hport ▸ hcur, hport ▸ hlost,
    hport ▸ hev, fun q hq => (hother q hq).trans (hothers q hq), fun hc => ?_, hrest⟩
  obtain ⟨htx, hdiv, hfrac, hsent, hchar⟩ := hline hc
  subst hc
  exact ⟨htx, hdiv, hfrac, (congrArg PortState.sent hport).trans hsent, hchar⟩

/-- A part whose port C holds its line low differs from the other by that alone. -/
theorem portResetLeaves_lowered {y t : State} (h : portResetLeaves .c y t) (b : Bool) :
    portResetLeaves .c y { t with lineC := { t.lineC with low := b } } := by
  obtain ⟨hview, hfe, hov, hfa, hoa, hrx, hen, hcur, hlost, hev, hothers, hline, hline', hrest⟩ := h
  exact ⟨congrArg (fun u : State => { u with lineC := { t.lineC with low := b } }) hview, hfe, hov, hfa, hoa, hrx, hen, hcur,
    hlost, hev, hothers, hline, fun hc => absurd rfl hc, hrest⟩

theorem State.lineServed_low (s : State) (p : Port) : (s.lineServed p).lineC.low = s.lineC.low := by
  unfold State.lineServed
  split
  · cases hd : s.transmitDue with
    | false => rw [s.transmitStart_idle hd]
    | true =>
      obtain ⟨r, hr⟩ := State.exists_reply_of_transmitDue hd
      rw [s.transmitStart_due r hd hr]
  · rfl

/-- A request on an SPI port has returned 0xFF for each byte of its frame (R170). -/
theorem State.accept_sent {p : Port} (h : p ≠ .c) (s : State) (code : Byte) :
    (((s.arrived p []).accept p code).port p).sent = List.replicate 5 0xFF#8 := by
  have hsent : ((s.arrived p []).port p).sent = List.replicate 5 0xFF#8 := by
    rw [State.arrived_port_same]
    cases p with
    | c => exact absurd rfl h
    | l | t => rfl
  unfold State.accept
  dsimp only
  split <;> rw [State.setPort_port_same] <;> exact hsent

theorem linkReset_eq (p : Port) (s : State) : linkReset p [] s = ((s.portReset p).reenter p, some ⟨.ok, []⟩) := rfl

/-- What a LINK_RESET that its port takes leaves, its slot free or busy (R176). -/
theorem exec_linkReset {p : Port} {s : State} (hready : s.phase = .ready) (hdeaf : s.deaf p = false) :
    exec (.linkReset p []) s = .next
      (((((s.lineServed p).arrived p []).accept p 0x04#8).portReset p).answered p 0x04#8 .ok []) := by
  have hadmit : (((s.lineServed p).arrived p []).accept p 0x04#8).admission p 0x04#8 = none := by
    simp [State.admission, State.lineServed_phase, hready, codeClass]
  have hslot (u : State) : (u.reenter p).reply p ⟨.ok, []⟩ = u.answered p 0x04#8 .ok [] := by
    rw [State.reply_some (u.reenter p) p ⟨.ok, []⟩ 0x04#8 (by simp [State.reenter, linkResetCode])]
    simp [State.answered, State.reenter]
  show Host.Outcome.next (s.serve p 0x04#8 [] (linkReset p [])) = _
  rw [State.serve, hdeaf]
  simp only [Bool.false_eq_true, if_false, linkResetCode, decide_true, Bool.not_true, Bool.and_false, List.length_nil,
    Nat.not_lt_zero, State.judgeAccepted, hadmit, linkReset_eq, State.finish, hslot]

/-- Settles O23: the reset of a part that a LINK_RESET or a break has reached, and the answer. -/
theorem portResetClearsItsPortAlone : Obligations.PortResetClearsItsPortAlone := by
  refine ⟨fun p s hready hdeaf => ?_, fun s hrun hlow => ?_, fun s h => ?_, fun s => rfl⟩
  · obtain ⟨hleaves, hreq, hrep, hlow, hsent⟩ := (State.Reached.accept p (s.lineServed p) [] 0x04#8).portReset
    refine ⟨_, exec_linkReset hready hdeaf, portResetLeaves_answered hleaves _ _ _, ?_, ?_, ?_, fun hc => ?_⟩
    · rw [State.answered_port]
    · rw [State.answered_port]
    · exact hlow.trans (s.lineServed_low p)
    · rw [State.answered_port]
      exact (hsent hc).trans (State.accept_sent hc _ _)
  · obtain ⟨hleaves, hreq, hrep, -, -⟩ := (State.Reached.refl .c (s.lineServed .c)).portReset
    refine ⟨{ (s.lineServed .c).portReset .c with lineC := { ((s.lineServed .c).portReset .c).lineC with low := true } }, ?_,
      portResetLeaves_lowered hleaves true, hreq, hrep, rfl⟩
    show Host.Outcome.next s.portBreak = _
    rw [State.portBreak, if_pos (by simp [hrun, hlow])]
  · show Host.Outcome.next s.portBreak = _
    rw [State.portBreak, if_neg]
    rcases h with h | h <;> simp [h]

end Sys2Proof.Machine

end

section
/-! PROOFS. How a run ends, what a run's requests share, and the run's timers (O49). -/

namespace Sys2Proof.Machine

-- one theorem at a time: many elaborated side by side would take a thread and its stack each
set_option Elab.async false

/-! ### The end of a run (R102, R110) -/

section
variable (s : State)

theorem State.setRun_raiseAll (k : EventKind) (r : Option Run) :
    (s.setRun r).raiseAll k = (s.raiseAll k).setRun r := by
  by_cases h : s.phase = .ready
  · rw [State.raiseAll_eq s k h, State.raiseAll_eq (s.setRun r) k h]
    rfl
  · rw [State.raiseAll_before_ready s k h, State.raiseAll_before_ready (s.setRun r) k h]

theorem State.setRun_joinGaugings (c : CloseRecord) (r : Option Run) :
    (s.setRun r).joinGaugings c = (s.joinGaugings c).setRun r := by
  unfold State.joinGaugings
  split <;> rfl

/-- Raising an event touches the ports alone. -/
theorem State.raiseAll_eta (k : EventKind) : s.raiseAll k = { s with ports := (s.raiseAll k).ports } := by
  obtain ⟨ps, h⟩ := s.raiseAll_view k
  rw [h]

/-- A record joins the comparison list unless its run was abandoned (R102). -/
theorem State.joinGaugings_eq (c : CloseRecord) : s.joinGaugings c = { s with
    gaugings := if c.result = .abandoned then s.gaugings else joinList s.gaugings c } := by
  unfold State.joinGaugings
  split <;> rfl

/-- CLOSING ends for a run that holds its record (R102). -/
theorem State.endClosing_eq {r : Run} {c : CloseRecord} (hr : s.run = some r) (hc : r.closeRec = some c) :
    s.endClosing = (((s.setRun none).joinGaugings { c with notStored := r.notStored }).raiseAll .runClosed).afterClosing
      r.ending { c with notStored := r.notStored } r.replyTo := by
  rw [State.setRun_joinGaugings, State.setRun_raiseAll]
  simp only [State.endClosing, hr, hc]

variable (r : Run) (c : CloseRecord) (e : Ending) (toPort : Option Port)

/-- A run that ends while the queue is full holds its trailer (R102, R110). -/
theorem State.endRun_held (hd : s.store.degraded = false) (hn : r.notStored = false) (hq : s.journalRoom 1 = false) :
    s.endRun r c e toPort =
      { s with run := some { r.closed c e toPort with trailerHeld := true }, meter := s.meter.stopped } := by
  have hj : ¬({ s with run := some (r.closed c e toPort), meter := s.meter.stopped } : State).journalRoom 1 = true :=
    Bool.eq_false_iff.1 hq
  have hx : ({ s with run := some (r.closed c e toPort), meter := s.meter.stopped } : State).runNotStored = false := hn
  unfold State.endRun State.handTrailer
  rw [if_neg (by rw [hd]; decide), if_neg (by rw [hx]; decide), if_neg hj]
  rfl

/-- A run that is NOT_STORED, or ends in DEGRADED, ends at once (R102, R110). -/
theorem State.endRun_now (h : r.notStored = true ∨ s.store.degraded = true) :
    s.endRun r c e toPort = (({ s with run := none, meter := s.meter.stopped }.joinGaugings
      { c with notStored := true }).raiseAll .runClosed).afterClosing (some e) { c with notStored := true } toPort := by
  unfold State.endRun State.handTrailer
  by_cases hd : s.store.degraded = true
  · rw [if_pos hd]
    exact State.endClosing_eq (r := (r.closed c e toPort).markNotStored) _ rfl rfl
  · have hn : r.notStored = true := h.resolve_right hd
    have hx : ({ s with run := some (r.closed c e toPort), meter := s.meter.stopped } : State).runNotStored = true := hn
    rw [if_neg hd, if_pos hx, State.endClosing_eq (r := r.closed c e toPort) (c := c) _ rfl rfl,
      show (r.closed c e toPort).notStored = true from hn]
    rfl

end

theorem State.journalRoom_iff (s : State) (n : Nat) :
    s.journalRoom n = true ↔ s.store.journalQueue.length + n ≤ 4 := by
  exact decide_eq_true_iff

/-- A run ended for its table: INCOMPLETE from three verticals on (R92, R108). -/
theorem Run.parkedRecord_result (r : Run) (s : State) :
    (r.parkedRecord s).result = if 3 ≤ r.table.length then .incomplete else .abandoned := by
  unfold Run.parkedRecord
  split <;> rfl

theorem Run.parkedRecord_runId (r : Run) (s : State) : (r.parkedRecord s).runId = r.id := by
  unfold Run.parkedRecord
  split <;> rfl

theorem Run.parkedRecord_closeTime (r : Run) (s : State) : (r.parkedRecord s).closeTime = s.backup.clock := by
  unfold Run.parkedRecord
  split <;> rfl

theorem Run.parkedRecord_totalQ (r : Run) (s : State) : (r.parkedRecord s).totalQ = r.totalQ := by
  unfold Run.parkedRecord
  split <;> rfl

/-- The record of a run ended for its table joins the comparison list from three verticals on (R102, R133). -/
theorem State.joinGaugings_parked (w : State) (r : Run) (s : State) :
    w.joinGaugings { r.parkedRecord s with notStored := true } = { w with
      gaugings := if 3 ≤ r.table.length then joinList w.gaugings { r.parkedRecord s with notStored := true }
        else w.gaugings } := by
  have hjoins {α : Type} (joined kept : α) : (if (r.parkedRecord s).result = .abandoned then kept else joined) =
      if 3 ≤ r.table.length then joined else kept := by
    rw [Run.parkedRecord_result]
    split <;> rfl
  rw [State.joinGaugings_eq, hjoins]

/-! ### The run's timers (R105, R108, R110) -/

theorem State.silenceDue_iff {s : State} {r : Run} {u : Nat} (hr : s.run = some r) (ha : r.active = true)
    (hu : r.silenceStart = some u) : s.silenceDue = true ↔
      s.limits.silenceLimit ≤ (s.uptime : Int) - u ∧ s.cfg.get .silenceLimit ≤ (s.uptime : Int) - u := by
  simp [State.silenceDue, hr, ha, State.limitReached_running hu]

theorem State.parkDue_iff {s : State} {r : Run} {u : Nat} (hr : s.run = some r) (hp : r.state = .parked)
    (hu : r.parkUptime = some u) : s.parkDue = true ↔
      s.limits.parkLifetime ≤ (s.uptime : Int) - u ∧ s.cfg.get .parkLifetime ≤ (s.uptime : Int) - u := by
  simp [State.parkDue, hr, hp, State.limitReached_running hu]

theorem State.silenceExpiry_idle {s : State} (h : ¬s.silenceDue = true) : s.silenceExpiry = s := if_neg h

theorem State.silenceExpiry_due {s : State} {r : Run} (hr : s.run = some r) (ha : r.active = true)
    (h : s.silenceDue = true) : s.silenceExpiry =
      ({ s with run := some (r.parked .linkSilent s.uptime), meter := s.meter.stopped }.raiseAll .runParked).raiseOn
        .c .recall :=
  (if_pos h).trans (State.park_run s .linkSilent r hr (by simp [Run.parksOn, ha]))

theorem State.parkExpiry_idle {s : State} (h : ¬s.parkDue = true) : s.parkExpiry = s := if_neg h

theorem State.parkExpiry_due {s : State} {r : Run} (hr : s.run = some r) (h : s.parkDue = true) :
    s.parkExpiry = (s.raiseAll .parkExpired).endRun r (r.parkedRecord s) .expiry none := by
  rw [State.parkExpiry, if_pos h, hr]

theorem State.handoverDue_iff {s : State} {r : Run} {c : CloseRecord} (hr : s.run = some r) (hh : r.trailerHeld = true)
    (hc : r.closeRec = some c) (hd : s.store.degraded = false) :
    s.handoverDue = true ↔ s.store.journalQueue.length < 4 := by
  simp only [State.handoverDue, hr, hh, hc, hd, Option.isSome_some, Bool.and_true, Bool.true_and, Bool.not_false,
    State.journalRoom_iff]
  omega

/-- Settles O49: each timer by its start and its two limits, the held trailer by the room. -/
theorem runTimersParkAndEndTheRun : Obligations.RunTimersParkAndEndTheRun := by
  refine ⟨fun u r s hr ha hu => ⟨fun hnow hfound => ?_, fun h => ?_⟩,
    fun u r s hr hp hu => ⟨fun h => ?_, fun hnow hfound hn hd hq => ?_, fun hnow hfound h => ?_⟩,
    fun c r s hr hh hc hd => ⟨fun hq => ?_, fun hq => ?_⟩⟩
  · exact congrArg Host.Outcome.next (State.silenceExpiry_due hr ha ((State.silenceDue_iff hr ha hu).2 ⟨hfound, hnow⟩))
  · refine congrArg Host.Outcome.next (State.silenceExpiry_idle fun hdue => ?_)
    have := (State.silenceDue_iff hr ha hu).1 hdue
    omega
  · refine congrArg Host.Outcome.next (State.parkExpiry_idle fun hdue => ?_)
    have := (State.parkDue_iff hr hp hu).1 hdue
    omega
  · obtain ⟨ps, hps⟩ := s.raiseAll_view .parkExpired
    have hend : s.parkExpiry = { s with
        run := some (r.closed (r.parkedRecord s) .expiry none), meter := s.meter.stopped
        store := { s.store with journalQueue := s.store.journalQueue ++ [⟨.trailer (r.parkedRecord s), 0⟩] }
        ports := (s.raiseAll .parkExpired).ports } := by
      rw [State.parkExpiry_due hr ((State.parkDue_iff hr hp hu).2 ⟨hfound, hnow⟩),
        State.endRun_queued _ _ _ _ _ (by simpa using hd) hn ((State.journalRoom_iff _ _).2 (Nat.succ_le_of_lt (by simpa using hq))), hps]
      rfl
    refine ⟨_, _, r.parkedRecord s, congrArg Host.Outcome.next hend, rfl, rfl, rfl, rfl, rfl, rfl, rfl, rfl,
      r.parkedRecord_runId s, r.parkedRecord_result s, r.parkedRecord_totalQ s, rfl⟩
  · have hend : s.parkExpiry = { s with
        run := none, meter := s.meter.stopped
        gaugings := if 3 ≤ r.table.length then joinList s.gaugings { r.parkedRecord s with notStored := true }
          else s.gaugings
        ports := ((s.raiseAll .parkExpired).raiseAll .runClosed).ports } := by
      rw [State.parkExpiry_due hr ((State.parkDue_iff hr hp hu).2 ⟨hfound, hnow⟩),
        State.endRun_now _ _ _ _ _ (by simpa using h), State.joinGaugings_parked]
      obtain ⟨ps, hps⟩ := s.raiseAll_view .parkExpired
      rw [hps]
      refine (State.raiseAll_eta _ _).trans ?_
      congr 1
      exact State.raiseAll_ports_congr .runClosed rfl rfl rfl
    exact ⟨_, { r.parkedRecord s with notStored := true }, congrArg Host.Outcome.next hend, rfl, rfl, rfl,
      r.parkedRecord_runId s, r.parkedRecord_result s, rfl, rfl⟩
  · have hdue := (State.handoverDue_iff hr hh hc hd).2 hq
    show Host.Outcome.next s.trailerHandover = _
    rw [State.trailerHandover, if_pos hdue, hr]
    simp only [hc]
    rfl
  · refine congrArg Host.Outcome.next (if_neg fun hdue => ?_)
    have := (State.handoverDue_iff hr hh hc hd).1 hdue
    omega

end Sys2Proof.Machine

end

section
/-! PROOFS. Verticals and points of a run (O46). -/

namespace Sys2Proof.Machine

-- one theorem at a time: many elaborated side by side would take a thread and its stack each
set_option Elab.async false

/-! ### The run a request finds (R105) -/

section
variable {s : State} {p : Port} {payload : List Byte} {code : Byte}

/-- A run with another start of its silence timer. -/
def Run.timed (r : Run) (since : Option Nat) : Run := { r with silenceStart := since }

/-- A frame's arrival leaves the run but for its silence timer. -/
theorem State.arrived_running {r : Run} (hr : s.run = some r) :
    ∃ ps since, s.arrived p payload = { s with ports := ps, run := some (r.timed since) } := by
  obtain ⟨ps, run, h⟩ := s.arrived_view p payload
  obtain ⟨since, hheard⟩ := r.heardOn_eq p s.uptime
  have hrun := s.arrived_run p payload
  rw [hr, Option.map_some, hheard, h] at hrun
  subst hrun
  exact ⟨ps, since, h⟩

theorem State.arrived_idle (hr : s.run = none) : ∃ ps, s.arrived p payload = { s with ports := ps } := by
  obtain ⟨ps, run, h⟩ := s.arrived_view p payload
  have hrun := s.arrived_run p payload
  rw [hr, Option.map_none, h, ← hr] at hrun
  subst hrun
  exact ⟨ps, h⟩

theorem State.serving_running {r : Run} (hr : s.run = some r) : ∃ ps since,
    (s.arrived p payload).serving p code = { s with ports := ps, run := some (r.timed since) } := by
  obtain ⟨ps, since, h⟩ := State.arrived_running (p := p) (payload := payload) hr
  rw [h]
  exact ⟨_, since, rfl⟩

theorem State.serving_idle (hr : s.run = none) :
    ∃ ps, (s.arrived p payload).serving p code = { s with ports := ps } := by
  obtain ⟨ps, h⟩ := State.arrived_idle (p := p) (payload := payload) hr
  rw [h]
  exact ⟨_, rfl⟩

variable {body : State → State × Option Answer} (ht : s.takes p code payload = true)
include ht

/-- A request that its block refuses for the run it finds. -/
theorem State.serve_refuses_run {r : Run} {st : Status} (hr : s.run = some r)
    (hb : ∀ ps since, body { s with ports := ps, run := some (r.timed since) } =
      ({ s with ports := ps, run := some (r.timed since) }, some ⟨st, []⟩)) :
    s.serve p code payload body = (s.arrived p payload).answered p code st [] := by
  obtain ⟨ps, since, h⟩ := State.serving_running (p := p) (payload := payload) (code := code) hr
  exact State.serve_of_answer (a := ⟨st, []⟩) ht (h ▸ hb ps since)

/-- A request that its block refuses for want of a run. -/
theorem State.serve_refuses_idle {st : Status} (hr : s.run = none)
    (hb : ∀ ps, body { s with ports := ps } = ({ s with ports := ps }, some ⟨st, []⟩)) :
    s.serve p code payload body = (s.arrived p payload).answered p code st [] := by
  obtain ⟨ps, h⟩ := State.serving_idle (p := p) (payload := payload) (code := code) hr
  exact State.serve_of_answer (a := ⟨st, []⟩) ht (h ▸ hb ps)

/-- A request whose block changes the run it finds. -/
theorem State.serve_changes_run {r : Run} {a : Answer} (f : State → State) (hr : s.run = some r)
    (hb : ∀ ps since, body { s with ports := ps, run := some (r.timed since) } =
      (f { s with ports := ps, run := some (r.timed since) }, some a))
    (hf : ∀ u : State, f (u.serving p code) = (f u).serving p code) :
    s.serve p code payload body = (f (s.arrived p payload)).answered p code a.status a.payload := by
  obtain ⟨ps, since, h⟩ := State.serving_running (p := p) (payload := payload) (code := code) hr
  exact State.serve_of_change f ht (h ▸ hb ps since) (hf _)

end

/-! ### Fields and codes (R95, R96) -/

theorem fractionOf_code (f : Fraction) : fractionOf f.code = some f := by cases f <;> rfl

theorem Fraction.code_lt (f : Fraction) : f.code < 256 := by cases f <;> decide

theorem fractionOf_none {n : Nat} (h : 4 ≤ n) : fractionOf n = none := by
  match n, h with
  | n + 4, _ => rfl

theorem usedDuration_eq (d : Nat) : usedDuration d = max 20 (min 200 d) := by
  rw [usedDuration, clampInt_eq_max_min _ (by decide)]
  omega

theorem parseVertical_written {station depth cosine : Nat} (m : Byte) (hs : station < 2 ^ 32) (hd : depth < 2 ^ 16)
    (hc : cosine < 2 ^ 16) : parseVertical (le32 station ++ le16 depth ++ [m] ++ le16 cosine) =
      some (station, depth, m.toNat, cosine) := by
  show some (u32 _ _ _ _, u16 _ _, m.toNat, u16 _ _) = _
  rw [u32_le32, u16_le16, u16_le16, Nat.mod_eq_of_lt hs, Nat.mod_eq_of_lt (show depth < 65536 from hd),
    Nat.mod_eq_of_lt (show cosine < 65536 from hc)]

theorem parseVertical_some {pl : List Byte} (h : pl.length = 9) : ∃ x, parseVertical pl = some x := by
  match pl, h with
  | [_, _, _, _, _, _, _, _, _], _ => exact ⟨_, rfl⟩

/-- The method of a vertical begun, by its depth and code. -/
theorem beginVertical_eq (station cosine : Nat) {depth : Nat} {m : Nat} (h : 0 < depth → m ≤ 3) :
    beginVertical station depth m cosine = ⟨station, depth, if depth = 0 then .edge else if m = 0 then .onePoint
      else if m = 1 then .twoPoint else if m = 2 then .threePoint else .surface, cosine, []⟩ := by
  unfold beginVertical
  by_cases hd : depth = 0
  · rw [if_pos hd, if_pos hd]
  · rw [if_neg hd, if_neg hd]
    have hm := h (Nat.pos_of_ne_zero hd)
    match m, hm with
    | 0, _ | 1, _ | 2, _ | 3, _ => rfl

theorem RunDescription.verticalFits_iff (d : RunDescription) (station depth m cosine : Nat) :
    d.verticalFits station depth m cosine = true ↔
      d.initial ≤ station ∧ station ≤ d.farBank ∧ depth ≤ 30000 ∧
      (0 < depth → m ≤ 3 ∧ (m = 1 ∨ m = 2 → 600 ≤ depth)) ∧ (cosine = 0 ∨ (500 ≤ cosine ∧ cosine ≤ 1000)) := by
  simp only [RunDescription.verticalFits, Bool.and_eq_true, Bool.or_eq_true, decide_eq_true_eq, Bool.not_eq_true',
    Bool.and_eq_false_iff, decide_eq_false_iff_not]
  omega

/-! ### What the blocks do with a run (R95 to R99) -/

section
variable {s : State} {r : Run} (hr : s.run = some r)
include hr

theorem verticalBegin_refused {pl : List Byte} {x : Nat × Nat × Nat × Nat} (hx : parseVertical pl = some x)
    (h : r.state ≠ .opened ∨ r.openVertical.isSome = true) :
    verticalBegin pl s = (s, some ⟨.wrongState, []⟩) := by
  simp only [verticalBegin, hx, hr, if_pos h, refuse]

section
variable {pl : List Byte} {station depth m cosine : Nat} (hx : parseVertical pl = some (station, depth, m, cosine))
  (ho : r.state = .opened) (hv : r.openVertical = none)
include hx ho hv

theorem verticalBegin_taken (h : r.desc.verticalFits station depth m cosine = true) : verticalBegin pl s =
    (s.mapRun fun x => { x with openVertical := some (beginVertical station depth m cosine) },
      some ⟨.ok, flagsByte [holdsStation r.table station] ++ le8 r.table.length⟩) := by
  simp [verticalBegin, hx, hr, ho, hv, h, ok, State.mapRun]

theorem verticalBegin_misfit (h : r.desc.verticalFits station depth m cosine = false) :
    verticalBegin pl s = (s, some ⟨.badArgument, []⟩) := by
  simp [verticalBegin, hx, hr, ho, hv, h, refuse]

end

section
variable {fr dur : Byte}

theorem pointStart_busy (h : r.state = .observing) : pointStart [fr, dur] s = (s, some ⟨.busy, []⟩) := by
  simp [pointStart, parseTwo, hr, h, refuse]

theorem pointStart_state (h : r.state = .parked ∨ r.state = .closing) :
    pointStart [fr, dur] s = (s, some ⟨.wrongState, []⟩) := by
  rcases h with h | h <;> simp [pointStart, parseTwo, hr, h, refuse]

theorem pointStart_shut (h : r.state = .opened) (hv : ∀ o, r.openVertical = some o → o.depth = 0) :
    pointStart [fr, dur] s = (s, some ⟨.wrongState, []⟩) := by
  cases ho : r.openVertical with
  | none => simp [pointStart, parseTwo, hr, h, ho, refuse]
  | some o => simp [pointStart, parseTwo, hr, h, ho, hv o ho, refuse]

variable {o : OpenVertical} (h : r.state = .opened) (ho : r.openVertical = some o) (hd : o.depth ≠ 0)
include h ho hd

theorem pointStart_uncoded (hf : 4 ≤ fr.toNat) : pointStart [fr, dur] s = (s, some ⟨.badArgument, []⟩) := by
  simp [pointStart, parseTwo, hr, h, ho, hd, fractionOf_none hf, refuse]

variable {f : Fraction} (hf : fractionOf fr.toNat = some f)
include hf

theorem pointStart_foreign (hm : f ∉ o.method.fractions) :
    pointStart [fr, dur] s = (s, some ⟨.badArgument, []⟩) := by
  simp [pointStart, parseTwo, hr, h, ho, hd, hf, hm, refuse]

theorem pointStart_taken (hm : f ∈ o.method.fractions) : pointStart [fr, dur] s =
    ({ s.mapRun (fun x => { x with state := .observing, obs := some ⟨f, usedDuration dur.toNat, s.ticks⟩ }) with
      meter := .started },
      some ⟨if usedDuration dur.toNat = dur.toNat then .ok else .clamped,
        le8 (usedDuration dur.toNat) ++ le16 s.ticks.toNat⟩) := by
  simp [pointStart, parseTwo, hr, h, ho, hd, hf, hm, State.mapRun]

end

theorem verticalCancel_open (h : r.state = .opened ∨ r.state = .parked) (hv : r.openVertical.isSome = true) :
    verticalCancel [] s = (s.mapRun fun x => { x with openVertical := none }, some ⟨.ok, []⟩) := by
  rcases h with h | h <;> simp [verticalCancel, parseEmpty, hr, h, hv, ok, State.mapRun]

theorem verticalCancel_observing (h : r.state = .observing) : verticalCancel [] s =
    ({ s.mapRun (fun x => { x with state := .opened, obs := none, openVertical := none }) with
      meter := s.meter.stopped }, some ⟨.ok, []⟩) := by
  simp [verticalCancel, parseEmpty, hr, h, ok, State.mapRun]

theorem verticalCancel_refused (h : r.state = .closing ∨ (r.state ≠ .observing ∧ r.openVertical = none)) :
    verticalCancel [] s = (s, some ⟨.wrongState, []⟩) := by
  have hclosing (hc : r.state = .closing) : verticalCancel [] s = (s, some ⟨.wrongState, []⟩) := by
    simp [verticalCancel, parseEmpty, hr, hc, refuse]
  rcases h with h | ⟨hobs, hv⟩
  · exact hclosing h
  · cases h : r.state with
    | opened => simp [verticalCancel, parseEmpty, hr, h, hv, refuse]
    | observing => exact absurd h hobs
    | parked => simp [verticalCancel, parseEmpty, hr, h, hv, refuse]
    | closing => exact hclosing h

theorem State.observationDue_iff {o : Observation} (h : r.state = .observing) (ho : r.obs = some o) :
    s.observationDue = true ↔ o.duration * 100000 ≤ (s.ticks - o.start).toNat := by
  simp only [State.observationDue, hr, h, ho, decide_eq_true_eq]
  exact Iff.rfl

end

section
variable {s : State} (hr : s.run = none)
include hr

theorem verticalBegin_idle {pl : List Byte} (h : pl.length = 9) : verticalBegin pl s = (s, some ⟨.wrongState, []⟩) := by
  obtain ⟨x, hx⟩ := parseVertical_some h
  simp only [verticalBegin, hx, hr, refuse]

theorem pointStart_idle {fr dur : Byte} : pointStart [fr, dur] s = (s, some ⟨.wrongState, []⟩) := by
  simp [pointStart, parseTwo, hr, refuse]

theorem verticalCancel_idle : verticalCancel [] s = (s, some ⟨.wrongState, []⟩) := by
  simp [verticalCancel, parseEmpty, hr, refuse]

end

/-! ### Contacts and point results (R97, R115, R119) -/

section
variable {m : MeterCapture} {tick : Word32}

theorem MeterCapture.closure_off (h : m.counting = false) : m.closure tick = m := if_pos (.inl h)

theorem MeterCapture.closure_bounce {last : Word32} (hl : m.lastAccepted = some last)
    (h : (tick - last).toNat < 200) : m.closure tick = m :=
  if_pos (.inr (by rw [MeterCapture.bounce, hl]; exact decide_eq_true h))

theorem MeterCapture.closure_counts (h : m.counting = true)
    (hl : ∀ last, m.lastAccepted = some last → 200 ≤ (tick - last).toNat) : m.closure tick =
      ⟨true, m.k + 1, if m.k = 0 then some tick else m.tFirst, some tick, some tick⟩ := by
  have hb : m.bounce tick = false := by
    cases ha : m.lastAccepted with
    | none => rw [MeterCapture.bounce, ha]
    | some last =>
      rw [MeterCapture.bounce, ha]
      exact decide_eq_false (Nat.not_lt.2 (hl last ha))
  simp [MeterCapture.closure, h, hb]

end

theorem Fraction.code_inj {f g : Fraction} (h : f.code = g.code) : f = g :=
  Option.some.inj ((fractionOf_code f).symm.trans (h ▸ fractionOf_code g))

theorem mem_insertPoint_self (x : PointResult) (ps : List PointResult) : x ∈ insertPoint x ps := by
  induction ps with
  | nil => simp [insertPoint]
  | cons y ys ih =>
    unfold insertPoint
    split
    · simp
    · split
      · simp
      · exact List.mem_cons_of_mem _ ih

theorem mem_insertPoint_other {x y : PointResult} (h : y.fraction ≠ x.fraction) (ps : List PointResult) :
    y ∈ insertPoint x ps ↔ y ∈ ps := by
  have hne : y ≠ x := fun he => h (congrArg _ he)
  induction ps with
  | nil => simp [insertPoint, hne]
  | cons z zs ih =>
    unfold insertPoint
    split
    · next hz =>
      have hyz : y ≠ z := fun he => h ((congrArg _ he).trans hz)
      simp [hne, hyz]
    · split
      · simp [hne]
      · simp [ih]

/-! ### The obligation -/

/-- Settles O46: each request by the state it finds, on the run as the frame's arrival leaves it. -/
theorem verticalIsBegunMeasuredAndCancelled : Obligations.VerticalIsBegunMeasuredAndCancelled := by
  refine ⟨?_, ?_, fun s hrun => ⟨fun h => ?_, fun last h hl hlt => ?_, fun h hl => ?_⟩,
    ?_,
    fun x ps => ⟨mem_insertPoint_self x ps, fun y hy => mem_insertPoint_other hy ps⟩,
    fun p r s ht hr => ⟨fun h hv => ?_, fun h => ?_, fun h => ?_⟩, fun p s ht hr => ?_, fun p pl s ht hlen h => ?_,
    ?_⟩
  · intro p station depth cosine m r s pl ht hs hd hc hr ho hv fits method
    refine ⟨fun h => ?_, fun h => ?_⟩
    · obtain ⟨-, -, -, hm, -⟩ := id h
      have hbegun := beginVertical_eq station cosine fun hpos => (hm hpos).1
      refine congrArg _ ((State.serve_changes_run ht
        (fun u => u.mapRun fun x => { x with openVertical := some (beginVertical station depth m.toNat cosine) })
        (a := ⟨.ok, flagsByte [holdsStation r.table station] ++ le8 r.table.length⟩) hr (fun ps since =>
          verticalBegin_taken (r := r.timed since) rfl (parseVertical_written m hs hd hc) ho hv ((r.desc.verticalFits_iff ..).2 h))
        fun u => rfl).trans ?_)
      rw [hbegun]
      cases holdsStation r.table station <;> rfl
    · refine congrArg _ (State.serve_refuses_run ht hr fun ps since =>
        verticalBegin_misfit (r := r.timed since) rfl (parseVertical_written m hs hd hc) ho hv ?_)
      exact Bool.eq_false_iff.2 fun hfit => h ((r.desc.verticalFits_iff ..).1 hfit)
  · intro p f dur o r s pl used ht hr ho hv hd
    have hcode : fractionOf (BitVec.ofNat 8 f.code).toNat = some f := by
      rw [BitVec.toNat_ofNat, Nat.mod_eq_of_lt f.code_lt, fractionOf_code]
    refine ⟨fun hf => ?_, fun hf => ?_⟩
    · have hused : used = usedDuration dur.toNat := (usedDuration_eq _).symm
      rw [hused]
      refine congrArg _ ((State.serve_changes_run ht (fun u => { u.mapRun (fun x =>
          { x with state := .observing, obs := some ⟨f, usedDuration dur.toNat, u.ticks⟩ }) with meter := .started })
        (a := ⟨if usedDuration dur.toNat = dur.toNat then .ok else .clamped,
          le8 (usedDuration dur.toNat) ++ le16 s.ticks.toNat⟩) hr
        (fun ps since => pointStart_taken (r := r.timed since) rfl ho hv hd hcode hf) fun u => rfl).trans ?_)
      simp only [State.arrived_ticks]
      rfl
    · exact congrArg _ (State.serve_refuses_run ht hr fun ps since => pointStart_foreign (r := r.timed since) rfl ho hv hd hcode hf)
  · show Host.Outcome.next (if s.running = true then _ else _) = _
    rw [if_pos hrun, MeterCapture.closure_off h]
  · show Host.Outcome.next (if s.running = true then _ else _) = _
    rw [if_pos hrun, MeterCapture.closure_bounce hl hlt]
  · show Host.Outcome.next (if s.running = true then _ else _) = _
    rw [if_pos hrun, MeterCapture.closure_counts h hl]
  · intro v o r s hr hobs ho hv result
    refine ⟨fun h => ?_, fun h => ?_⟩
    · show Host.Outcome.next s.observationComplete = _
      rw [State.observationComplete, if_pos ((State.observationDue_iff hr hobs ho).2 h), hr]
      simp only [ho, hv]
      rfl
    · exact congrArg Host.Outcome.next (if_neg fun hdue => absurd ((State.observationDue_iff hr hobs ho).1 hdue) (by omega))
  · exact congrArg _ (State.serve_changes_run ht (fun u => u.mapRun fun x => { x with openVertical := none }) hr
      (fun ps since => verticalCancel_open (r := r.timed since) rfl h hv) fun u => rfl)
  · refine congrArg _ ((State.serve_changes_run ht (fun u => { u.mapRun (fun x =>
        { x with state := .opened, obs := none, openVertical := none }) with meter := u.meter.stopped }) hr
      (fun ps since => verticalCancel_observing (r := r.timed since) rfl h) fun u => rfl).trans ?_)
    simp only [State.arrived_meter]
    rfl
  · exact congrArg _ (State.serve_refuses_run ht hr fun ps since => verticalCancel_refused (r := r.timed since) rfl h)
  · exact congrArg _ (State.serve_refuses_idle ht hr fun ps => verticalCancel_idle hr)
  · cases hr : s.run with
    | none => exact congrArg _ (State.serve_refuses_idle ht hr fun ps => verticalBegin_idle (s := { s with ports := ps }) hr hlen)
    | some r =>
      obtain ⟨x, hx⟩ := parseVertical_some hlen
      refine congrArg _ (State.serve_refuses_run ht hr fun ps since => verticalBegin_refused (r := r.timed since) rfl hx ?_)
      by_cases ho : r.state = .opened
      · exact .inr (h r hr ho)
      · exact .inl ho
  intro p fr dur s ht refused
  refine ⟨fun hr => ?_, fun r hr => ⟨fun h => ?_, fun h => ?_, fun h hv => ?_, fun o h ho hd hf => ?_⟩⟩
  · exact congrArg _ (State.serve_refuses_idle ht hr fun ps => pointStart_idle (s := { s with ports := ps }) hr)
  · exact congrArg _ (State.serve_refuses_run ht hr fun ps since => pointStart_busy (r := r.timed since) rfl h)
  · exact congrArg _ (State.serve_refuses_run ht hr fun ps since => pointStart_state (r := r.timed since) rfl h)
  · exact congrArg _ (State.serve_refuses_run ht hr fun ps since => pointStart_shut (r := r.timed since) rfl h hv)
  · exact congrArg _ (State.serve_refuses_run ht hr fun ps since => pointStart_uncoded (r := r.timed since) rfl h ho hd hf)

end Sys2Proof.Machine

end

section
/-! PROOFS. Verticals that enter the table and leave it (O47). -/

namespace Sys2Proof.Machine

-- one theorem at a time: many elaborated side by side would take a thread and its stack each
set_option Elab.async false

/-! ### What the table keeps of each vertical (R123, R126) -/

/-- What a vertical holds but for its width and partials. -/
def Vertical.measured (x : Vertical) : Vertical := { x with w2 := 0, q := 0, a := 0 }

theorem measured_recomputeAt (t : List Vertical) (i : Nat) :
    (recomputeAt t i).map Vertical.measured = t.map Vertical.measured := by
  refine List.ext_getElem? fun j => ?_
  rw [List.getElem?_map, getElem?_recomputeAt, List.getElem?_map]
  split
  · rw [Option.map_map]
    rfl
  · rfl

theorem measured_recomputeBefore (t : List Vertical) (i : Nat) :
    (if i = 0 then t else recomputeAt t (i - 1)).map Vertical.measured = t.map Vertical.measured := by
  split
  · rfl
  · exact measured_recomputeAt t _

/-- The verticals of a table but the one at a station, by what was measured. -/
theorem mem_measured_apart (t : List Vertical) (n : Nat) (z : Vertical) :
    z ∈ (below t n).map Vertical.measured ∨ z ∈ (above t n).map Vertical.measured ↔
      ∃ y ∈ t, y.station ≠ n ∧ y.measured = z := by
  simp only [List.mem_map, below, above, List.mem_filter, decide_eq_true_eq]
  constructor
  · rintro (⟨y, ⟨hy, hlt⟩, hz⟩ | ⟨y, ⟨hy, hlt⟩, hz⟩) <;> exact ⟨y, hy, by omega, hz⟩
  · rintro ⟨y, hy, hne, hz⟩
    rcases Nat.lt_or_gt_of_ne hne with hlt | hlt
    · exact .inl ⟨y, ⟨hy, hlt⟩, hz⟩
    · exact .inr ⟨y, ⟨hy, hlt⟩, hz⟩

/-- The table with a vertical entered holds it and every vertical of another station. -/
theorem mem_measured_enterVertical (t : List Vertical) (x z : Vertical) :
    z ∈ (enterVertical t x).map Vertical.measured ↔
      z = x.measured ∨ ∃ y ∈ t, y.station ≠ x.station ∧ y.measured = z := by
  rw [enterVertical, recomputeAround, measured_recomputeAt, measured_recomputeAt, measured_recomputeBefore,
    ← mem_measured_apart, List.map_append, List.map_cons, List.mem_append, List.mem_cons]
  exact or_left_comm

/-- The table with a vertical taken out holds every vertical of another station. -/
theorem mem_measured_removeVertical (t : List Vertical) (n : Nat) (z : Vertical) :
    z ∈ (removeVertical t n).map Vertical.measured ↔ ∃ y ∈ t, y.station ≠ n ∧ y.measured = z := by
  rw [removeVertical, measured_recomputeAt, measured_recomputeBefore, ← mem_measured_apart, List.map_append,
    List.mem_append]

/-- Two verticals of which the same was measured. -/
theorem Vertical.fields_of_measured {z y : Vertical} (h : z.measured = y.measured) : z.station = y.station ∧
    z.depth = y.depth ∧ z.method = y.method ∧ z.cosine = y.cosine ∧ z.points = y.points ∧ z.v = y.v ∧
    z.supersedes = y.supersedes := by
  simpa [Vertical.measured] using h

/-- A vertical that stands in a table, whatever its width and partials there. -/
def Vertical.stands (y : Vertical) (t : List Vertical) : Prop :=
  ∃ z ∈ t, z.station = y.station ∧ z.depth = y.depth ∧ z.method = y.method ∧ z.cosine = y.cosine ∧ z.points = y.points ∧
    z.v = y.v ∧ z.supersedes = y.supersedes

theorem Vertical.stands_of_measured {y : Vertical} {t : List Vertical} (h : y.measured ∈ t.map Vertical.measured) :
    y.stands t := by
  obtain ⟨z, hz, hm⟩ := List.mem_map.1 h
  exact ⟨z, hz, Vertical.fields_of_measured hm⟩

theorem exists_station_iff (t : List Vertical) (n : Nat) :
    (∃ y ∈ t, y.station = n) ↔ ∃ z ∈ t.map Vertical.measured, z.station = n := by
  constructor
  · rintro ⟨y, hy, hn⟩
    exact ⟨_, List.mem_map_of_mem hy, hn⟩
  · rintro ⟨z, hz, hn⟩
    obtain ⟨y, hy, rfl⟩ := List.mem_map.1 hz
    exact ⟨y, hy, hn⟩

theorem stations_enterVertical (t : List Vertical) (x : Vertical) (n : Nat) :
    (∃ y ∈ enterVertical t x, y.station = n) ↔ n = x.station ∨ ∃ y ∈ t, y.station = n := by
  rw [exists_station_iff]
  simp only [mem_measured_enterVertical]
  constructor
  · rintro ⟨z, rfl | ⟨y, hy, -, rfl⟩, hn⟩
    · exact .inl hn.symm
    · exact .inr ⟨y, hy, hn⟩
  · intro h
    by_cases hn : n = x.station
    · exact ⟨_, .inl rfl, hn.symm⟩
    · obtain ⟨y, hy, hyn⟩ := h.resolve_left hn
      exact ⟨_, .inr ⟨y, hy, fun he => hn (hyn.symm.trans he), rfl⟩, hyn⟩

theorem stations_removeVertical (t : List Vertical) (station n : Nat) :
    (∃ y ∈ removeVertical t station, y.station = n) ↔ n ≠ station ∧ ∃ y ∈ t, y.station = n := by
  rw [exists_station_iff]
  simp only [mem_measured_removeVertical]
  constructor
  · rintro ⟨z, ⟨y, hy, hne, rfl⟩, hn⟩
    exact ⟨fun he => hne (hn.trans he), y, hy, hn⟩
  · rintro ⟨hne, y, hy, hyn⟩
    exact ⟨_, ⟨y, hy, fun he => hne (hyn.symm.trans he), rfl⟩, hyn⟩

section
variable (r : Run) (o : OpenVertical)

/-- The vertical VERTICAL_END enters, before its width is known. -/
def Run.record (r : Run) (o : OpenVertical) : Vertical := o.record r.desc.coef (holdsStation r.table o.station)

/-- The vertical as it stands in the new table carries what was measured. -/
theorem Run.entered_spec : r.entered o ∈ enterVertical r.table (r.record o) ∧
    (r.entered o).measured = (r.record o).measured := by
  have hmem : (r.record o).measured ∈ (enterVertical r.table (r.record o)).map Vertical.measured :=
    (mem_measured_enterVertical ..).2 (.inl rfl)
  obtain ⟨z, hz, hm⟩ := List.mem_map.1 hmem
  have hstation : z.station = o.station := congrArg Vertical.station hm
  cases hf : (enterVertical r.table (r.record o)).find? fun y => decide (y.station = o.station) with
  | none => exact absurd (List.find?_eq_none.1 hf z hz) (by simp [hstation])
  | some y =>
    have hentered : r.entered o = y := by
      show (match (enterVertical r.table (r.record o)).find? fun y => decide (y.station = o.station) with
        | some y => y
        | none => r.record o) = y
      rw [hf]
    have hy := List.mem_of_find?_eq_some hf
    have hyn : y.station = o.station := by simpa using List.find?_some hf
    rw [hentered]
    refine ⟨hy, ?_⟩
    rcases (mem_measured_enterVertical ..).1 (List.mem_map_of_mem (f := Vertical.measured) hy) with hsame | ⟨w, -, hw, hwy⟩
    · exact hsame
    · have hws : w.station = y.station := (Vertical.fields_of_measured hwy).1
      exact absurd (hws.trans hyn) hw

/-- Every point the method requires is held (R98). -/
theorem OpenVertical.complete_iff :
    o.complete = true ↔ ∀ f ∈ o.method.fractions, ∃ x ∈ o.points, x.fraction = f := by
  simp [OpenVertical.complete, holdsPoint]

/-- The totals of a table that holds become the sums of the new one (R127). -/
theorem Run.withTable_eq (h : r.tableHolds = true) (tab : List Vertical) :
    r.withTable tab = { r with table := tab, totalQ := sumQ tab, totalA := sumA tab } := by
  obtain ⟨-, -, hq, ha⟩ := r.tableHolds_iff.1 h
  rw [Run.withTable, hq, ha]
  simp

end

/-- The run after VERTICAL_END, by its new table (R98, R127). -/
theorem Run.afterVertical_eq {r : Run} (h : r.tableHolds = true) (o : OpenVertical) : r.afterVertical o = { r with
    table := enterVertical r.table (r.record o), totalQ := sumQ (enterVertical r.table (r.record o))
    totalA := sumA (enterVertical r.table (r.record o)), openVertical := none } := by
  rw [Run.afterVertical, r.withTable_eq h]
  rfl

/-! ### Entries a run hands (R110) -/

/-- What handing an entry changes: the run is marked in DEGRADED, the queue takes the entry otherwise. -/
theorem State.handEntry_eq (s : State) (e : JournalEntry) : s.handEntry e = { s with
    run := s.run.map fun y => { y with notStored := y.notStored || s.store.degraded }
    store := if s.runNotStored = false ∧ s.store.degraded = false
      then { s.store with journalQueue := s.store.journalQueue ++ [⟨e, 0⟩] } else s.store } := by
  unfold State.handEntry
  cases hd : s.store.degraded with
  | true =>
    rw [if_pos rfl, if_neg (by simp)]
    simp only [State.mapRun, Bool.or_true]
    rfl
  | false =>
    have hsame : (s.run.map fun y => { y with notStored := y.notStored || false }) = s.run := by simp
    rw [if_neg (by simp), hsame]
    cases hn : s.runNotStored with
    | true => simp
    | false =>
      simp only [State.queueEntry, State.setStore]
      rfl

/-- A change of the run, and the entry it hands. -/
def State.handing (g : Run → Run) (e : JournalEntry) (u : State) : State := (u.mapRun g).handEntry e

theorem State.handing_serving (g : Run → Run) (e : JournalEntry) (u : State) (p : Port) (code : Byte) :
    State.handing g e (u.serving p code) = (State.handing g e u).serving p code := by
  unfold State.handing
  rw [State.handEntry_eq, State.handEntry_eq]
  rfl

section
variable {s : State} {p : Port} {payload : List Byte} {code : Byte} {r : Run}

/-- What a request leaves whose block changes the run and hands an entry. -/
theorem State.handing_leaves (hr : s.run = some r) {g : Run → Run} {e : JournalEntry} {a : Answer}
    {t : State} (ht : t = (State.handing g e (s.arrived p payload)).answered p code a.status a.payload)
    (hkeeps : ∀ y, (g y).notStored = y.notStored) :
    t = { s with run := t.run, store := t.store, ports := t.ports } ∧
    t.run = (s.arrived p payload).run.map (fun y => { g y with notStored := (g y).notStored || s.store.degraded }) ∧
    t.store = (if r.notStored = false ∧ s.store.degraded = false
      then { s.store with journalQueue := s.store.journalQueue ++ [⟨e, 0⟩] } else s.store) ∧
    (∀ q, q ≠ p → t.port q = s.port q) ∧
    t.port p = { (s.arrived p payload).port p with
      request := none, reply := some ⟨a.status, code, a.payload, false⟩ } := by
  obtain ⟨ps, since, harr⟩ := State.arrived_running (p := p) (payload := payload) hr
  have hmap : State.handing g e (s.arrived p payload) = { s.arrived p payload with
      run := (s.arrived p payload).run.map (fun y => { g y with notStored := (g y).notStored || s.store.degraded })
      store := if r.notStored = false ∧ s.store.degraded = false
        then { s.store with journalQueue := s.store.journalQueue ++ [⟨e, 0⟩] } else s.store } := by
    rw [State.handing, State.handEntry_eq, harr]
    have hnot : ({ s with ports := ps, run := some (r.timed since) }.mapRun g).runNotStored = r.notStored :=
      hkeeps (r.timed since)
    rw [hnot]
    rfl
  rw [hmap] at ht
  subst ht
  refine ⟨?_, rfl, rfl, fun q hq => ?_, State.answered_port ..⟩
  · rw [harr]
    rfl
  · rw [State.answered_other _ _ _ _ _ _ hq]
    exact State.arrived_port_other _ _ _ _ hq

end

/-! ### The blocks (R98, R100) -/

theorem parseFour_written {n : Nat} (h : n < 2 ^ 32) : parseFour (le32 n) = some n := by
  show some (u32 _ _ _ _) = _
  rw [u32_le32, Nat.mod_eq_of_lt h]

theorem parseFour_some {pl : List Byte} (h : pl.length = 4) : ∃ n, parseFour pl = some n := by
  match pl, h with
  | [_, _, _, _], _ => exact ⟨_, rfl⟩

section
variable {s : State} {r : Run} (hr : s.run = some r)
include hr

section
variable {o : OpenVertical} (h : r.state = .opened) (ho : r.openVertical = some o)
include h ho

theorem verticalEnd_incomplete (hc : o.complete = false) : verticalEnd [] s = (s, some ⟨.wrongState, []⟩) := by
  simp [verticalEnd, parseEmpty, hr, h, ho, hc, refuse]

variable (hc : o.complete = true)
include hc

theorem verticalEnd_full (hh : holdsStation r.table o.station = false) (hlen : tableLimit ≤ r.table.length) :
    verticalEnd [] s = (s, some ⟨.tableFull, []⟩) := by
  simp [verticalEnd, parseEmpty, hr, h, ho, hc, hh, hlen, refuse]

variable (hroom : ¬(holdsStation r.table o.station = false ∧ tableLimit ≤ r.table.length))
include hroom

theorem verticalEnd_queue (hn : r.notStored = false) (hq : s.journalRoom 1 = false) :
    verticalEnd [] s = (s, some ⟨.busy, []⟩) := by
  simp only [verticalEnd, parseEmpty, hr, h, ho]
  rw [if_neg (by simp [hc]), if_neg hroom, if_pos ⟨hn, hq⟩, refuse]

theorem verticalEnd_taken (hq : ¬(r.notStored = false ∧ s.journalRoom 1 = false)) : verticalEnd [] s =
    ((s.setRun (some (r.afterVertical o))).handEntry (.vertical r.id (r.entered o)),
      some ⟨.ok, verticalPayload (r.afterVertical o) (r.entered o)⟩) := by
  simp only [verticalEnd, parseEmpty, hr, h, ho]
  rw [if_neg (by simp [hc]), if_neg hroom, if_neg hq, ok]

end

theorem verticalEnd_busy (h : r.state = .observing) : verticalEnd [] s = (s, some ⟨.busy, []⟩) := by
  simp [verticalEnd, parseEmpty, hr, h, refuse]

theorem verticalEnd_state (h : r.state = .parked ∨ r.state = .closing ∨ (r.state = .opened ∧ r.openVertical = none)) :
    verticalEnd [] s = (s, some ⟨.wrongState, []⟩) := by
  rcases h with h | h | ⟨h, ho⟩
  · simp [verticalEnd, parseEmpty, hr, h, refuse]
  · simp [verticalEnd, parseEmpty, hr, h, refuse]
  · simp [verticalEnd, parseEmpty, hr, h, ho, refuse]

section
variable {pl : List Byte} {station : Nat} (hx : parseFour pl = some station)
include hx

theorem verticalRemove_busy (h : r.state = .observing) : verticalRemove pl s = (s, some ⟨.busy, []⟩) := by
  simp only [verticalRemove, hx, hr, h, refuse]

theorem verticalRemove_state (h : r.state = .parked ∨ r.state = .closing) :
    verticalRemove pl s = (s, some ⟨.wrongState, []⟩) := by
  rcases h with h | h <;> simp only [verticalRemove, hx, hr, h, refuse]

variable (h : r.state = .opened)
include h

theorem verticalRemove_unknown (hh : holdsStation r.table station = false) :
    verticalRemove pl s = (s, some ⟨.badArgument, []⟩) := by
  simp only [verticalRemove, hx, hr, h, refuse]
  rw [if_pos hh]

variable (hh : holdsStation r.table station = true)
include hh

theorem verticalRemove_queue (hn : r.notStored = false) (hq : s.journalRoom 1 = false) :
    verticalRemove pl s = (s, some ⟨.busy, []⟩) := by
  simp only [verticalRemove, hx, hr, h, refuse]
  rw [if_neg (by simp [hh]), if_pos ⟨hn, hq⟩]

theorem verticalRemove_taken (hq : ¬(r.notStored = false ∧ s.journalRoom 1 = false)) : verticalRemove pl s =
    ((s.setRun (some (r.withTable (removeVertical r.table station)))).handEntry (.removal r.id station),
      some ⟨.ok, removePayload (r.withTable (removeVertical r.table station))⟩) := by
  simp only [verticalRemove, hx, hr, h, ok]
  rw [if_neg (by simp [hh]), if_neg hq]

end

end

theorem verticalEnd_idle {s : State} (hr : s.run = none) : verticalEnd [] s = (s, some ⟨.wrongState, []⟩) := by
  simp [verticalEnd, parseEmpty, hr, refuse]

theorem verticalRemove_idle {s : State} {pl : List Byte} (hr : s.run = none) (h : pl.length = 4) :
    verticalRemove pl s = (s, some ⟨.wrongState, []⟩) := by
  obtain ⟨n, hx⟩ := parseFour_some h
  simp only [verticalRemove, hx, hr, refuse]

theorem State.journalRoom_false {s : State} {n : Nat} : s.journalRoom n = false ↔ 4 < s.store.journalQueue.length + n := by
  rw [← Bool.not_eq_true, s.journalRoom_iff, Nat.not_le]

/-- An entry finds its place, or its run hands none. -/
theorem State.not_queue_full {s : State} {stored : Bool} (h : stored = true ∨ s.store.journalQueue.length < 4) :
    ¬(stored = false ∧ s.journalRoom 1 = false) := by
  rintro ⟨hn, hq⟩
  have hfull := State.journalRoom_false.1 hq
  rcases h with h | h
  · exact Bool.false_ne_true (hn.symm.trans h)
  · omega

/-- Settles O47: the table by what was measured, the run and the queue by the entry handed. -/
theorem verticalEntersAndLeavesTheTable : Obligations.VerticalEntersAndLeavesTheTable := by
  refine ⟨?_, ?_, ?_, ?_⟩
  · intro p o r s ht hr h ho htab held allPoints refused
    have hcomplete : allPoints ↔ o.complete = true := o.complete_iff.symm
    have hfree (hroom : held = true ∨ r.table.length < 40) : ¬(held = false ∧ tableLimit ≤ r.table.length) := by
      rintro ⟨hh, hlen⟩
      rcases hroom with hroom | hroom
      · exact Bool.false_ne_true (hh.symm.trans hroom)
      · exact absurd hlen (Nat.not_le.2 hroom)
    refine ⟨fun hp => ?_, fun hp hh hlen => ?_, fun hp hroom hn hd hq => ?_, fun hp hroom hq => ?_⟩
    · exact congrArg _ (State.serve_refuses_run ht hr fun ps since => verticalEnd_incomplete (r := r.timed since) rfl h ho
        (Bool.eq_false_iff.2 (mt hcomplete.2 hp)))
    · exact congrArg _ (State.serve_refuses_run ht hr fun ps since => verticalEnd_full (r := r.timed since) rfl h ho
        (hcomplete.1 hp) hh (Nat.le_of_eq hlen.symm))
    · exact congrArg _ (State.serve_refuses_run ht hr fun ps since => verticalEnd_queue (r := r.timed since) rfl h ho
        (hcomplete.1 hp) (hfree hroom) hn (State.journalRoom_false.2 (Nat.lt_succ_of_le hq)))
    · let tab := enterVertical r.table (r.record o)
      obtain ⟨hmem, hm⟩ := r.entered_spec o
      obtain ⟨hstation, hdepth, hmethod, hcos, hpoints, hv, hsup⟩ := Vertical.fields_of_measured hm
      have hdone := State.serve_changes_run ht
        (State.handing (fun y => { y with table := tab, totalQ := sumQ tab, totalA := sumA tab, openVertical := none })
          (.vertical r.id (r.entered o)))
        (a := ⟨.ok, verticalPayload (r.afterVertical o) (r.entered o)⟩) hr (fun ps since => by
          refine (verticalEnd_taken (r := r.timed since) rfl h ho (hcomplete.1 hp) (hfree hroom) ?_).trans ?_
          · exact State.not_queue_full hq
          · rw [Run.afterVertical_eq (r := r.timed since) htab, Run.afterVertical_eq htab]
            rfl) fun u => State.handing_serving ..
      obtain ⟨hs, hrun, hstore, hother, hport⟩ := State.handing_leaves hr (payload := []) (a := ⟨.ok, verticalPayload (r.afterVertical o) (r.entered o)⟩)
        hdone fun _ => rfl
      refine ⟨_, tab, r.entered o, rfl, hs, hrun, hmem, hstation, hdepth, hmethod, hcos, hpoints, hv, hsup, stations_enterVertical _ _, fun y hy hne => ?_, hstore, hother, hport.trans ?_⟩
      · exact Vertical.stands_of_measured ((mem_measured_enterVertical ..).2 (.inr ⟨y, hy, hne, rfl⟩))
      · rw [Run.afterVertical_eq htab, verticalPayload, hsup]
        rfl
  · intro p station r s ht hlt hr h htab refused
    have hx := parseFour_written hlt
    refine ⟨fun hh => ?_, fun hh hn hd hq => ?_, fun hh hq => ?_⟩
    · exact congrArg _ (State.serve_refuses_run ht hr fun ps since => verticalRemove_unknown (r := r.timed since) rfl hx h
        hh)
    · exact congrArg _ (State.serve_refuses_run ht hr fun ps since => verticalRemove_queue (r := r.timed since) rfl hx h
        hh hn (State.journalRoom_false.2 (Nat.lt_succ_of_le hq)))
    · let tab := removeVertical r.table station
      have hdone := State.serve_changes_run ht
        (State.handing (fun y => { y with table := tab, totalQ := sumQ tab, totalA := sumA tab })
          (.removal r.id station))
        (a := ⟨.ok, removePayload (r.withTable tab)⟩) hr (fun ps since => by
          refine (verticalRemove_taken (s := { s with ports := ps, run := some (r.timed since) }) (r := r.timed since) rfl
            hx h hh (State.not_queue_full hq)).trans ?_
          rw [Run.withTable_eq (r.timed since) htab, Run.withTable_eq r htab]
          rfl) fun u => State.handing_serving ..
      obtain ⟨hs, hrun, hstore, hother, hport⟩ := State.handing_leaves hr (payload := le32 station)
        (a := ⟨.ok, removePayload (r.withTable tab)⟩) hdone fun _ => rfl
      refine ⟨_, tab, rfl, hs, hrun, stations_removeVertical _ _, fun y hy hne => ?_, hstore, hother, hport.trans ?_⟩
      · exact Vertical.stands_of_measured ((mem_measured_removeVertical ..).2 ⟨y, hy, hne, rfl⟩)
      · rw [Run.withTable_eq r htab]
        rfl
  · intro p s ht refused
    refine ⟨fun hr => ?_, fun r hr => ⟨fun h => ?_, fun h => ?_⟩⟩
    · exact congrArg _ (State.serve_refuses_idle ht hr fun ps => verticalEnd_idle hr)
    · exact congrArg _ (State.serve_refuses_run ht hr fun ps since => verticalEnd_busy (r := r.timed since) rfl h)
    · exact congrArg _ (State.serve_refuses_run ht hr fun ps since => verticalEnd_state (r := r.timed since) rfl h)
  · intro p pl s ht hlen refused
    obtain ⟨n, hx⟩ := parseFour_some hlen
    refine ⟨fun hr => ?_, fun r hr => ⟨fun h => ?_, fun h => ?_⟩⟩
    · exact congrArg _ (State.serve_refuses_idle ht hr fun ps => verticalRemove_idle (s := { s with ports := ps }) hr hlen)
    · exact congrArg _ (State.serve_refuses_run ht hr fun ps since => verticalRemove_busy (r := r.timed since) rfl hx h)
    · exact congrArg _ (State.serve_refuses_run ht hr fun ps since => verticalRemove_state (r := r.timed since) rfl hx h)

end Sys2Proof.Machine

end

section
/-! PROOFS. How a request ends a run, the close record, the inverse, and resuming (O48). -/

namespace Sys2Proof.Machine

-- one theorem at a time: many elaborated side by side would take a thread and its stack each
set_option Elab.async false

/-! ### A run ended by a request (R101 to R103, R110) -/

/-- A state in which a run has ended with a trailer, handed or held while the queue is full. -/
def State.ended (s : State) (r : Run) (c : CloseRecord) (e : Ending) (toPort : Option Port) : State := { s with
  run := some { r.closed c e toPort with
    trailerHeld := if s.store.journalQueue.length < 4 then r.trailerHeld else true }
  meter := s.meter.stopped
  store := if s.store.journalQueue.length < 4
    then { s.store with journalQueue := s.store.journalQueue ++ [⟨.trailer c, 0⟩] } else s.store }

theorem State.endRun_stored (s : State) (r : Run) (c : CloseRecord) (e : Ending) (toPort : Option Port)
    (hd : s.store.degraded = false) (hn : r.notStored = false) : s.endRun r c e toPort = s.ended r c e toPort := by
  unfold State.ended
  by_cases hq : s.store.journalQueue.length < 4
  · rw [State.endRun_queued _ _ _ _ _ hd hn ((s.journalRoom_iff 1).2 hq), if_pos hq, if_pos hq]
    rfl
  · rw [State.endRun_held _ _ _ _ _ hd hn (State.journalRoom_false.2 (by omega)), if_neg hq, if_neg hq]

/-- A state in which a run has ended without a trailer, before its ending's own effect. -/
def State.endedNow (s : State) (c : CloseRecord) : State :=
  ({ s with run := none, meter := s.meter.stopped }.joinGaugings { c with notStored := true }).raiseAll .runClosed

theorem State.endedNow_joined (s : State) {c : CloseRecord} (h : c.result ≠ .abandoned) : s.endedNow c =
    { s with run := none, meter := s.meter.stopped
             gaugings := joinList s.gaugings { c with notStored := true } }.raiseAll .runClosed := by
  rw [State.endedNow, State.joinGaugings, if_neg h]

theorem State.endedNow_abandoned (s : State) {c : CloseRecord} (h : c.result = .abandoned) :
    s.endedNow c = { s with run := none, meter := s.meter.stopped }.raiseAll .runClosed := by
  rw [State.endedNow, State.joinGaugings, if_pos h]

theorem State.endedNow_serving (s : State) (c : CloseRecord) (p : Port) (code : Byte) :
    (s.serving p code).endedNow c = (s.endedNow c).serving p code := by
  unfold State.endedNow
  rw [State.joinGaugings_eq, State.joinGaugings_eq, ← State.raiseAll_serving]
  rfl

section
variable {s : State} {p : Port} {payload : List Byte} {code : Byte} {body : State → State × Option Answer} {r : Run}
  {c : CloseRecord} {e : Ending} (ht : s.takes p code payload = true) (hr : s.run = some r)
  (hb : ∀ ps since, body { s with ports := ps, run := some (r.timed since) } =
    hold (State.endRun { s with ports := ps, run := some (r.timed since) } (r.timed since) c e (some p)))
include ht hr hb

/-- A request that ends a run with a trailer: its reply is held. -/
theorem State.serve_ends_stored (hd : s.store.degraded = false) (hn : r.notStored = false) :
    s.serve p code payload body = ((s.arrived p payload).ended r c e (some p)).serving p code := by
  obtain ⟨ps, since, h⟩ := State.serving_running (p := p) (payload := payload) (code := code) hr
  refine State.serve_of_hold (fun u => u.ended r c e (some p)) ht ?_ rfl
  rw [h, hb]
  exact congrArg (·, none)
    (State.endRun_stored { s with ports := ps, run := some (r.timed since) } (r.timed since) c e (some p) hd hn)

/-- A request that ends a run without a trailer: its ending's effect follows in the same step. -/
theorem State.serve_ends_now (h : r.notStored = true ∨ s.store.degraded = true) : s.serve p code payload body =
    (((s.arrived p payload).endedNow c).serving p code).afterClosing (some e) { c with notStored := true } (some p) := by
  obtain ⟨ps, since, hs⟩ := State.serving_running (p := p) (payload := payload) (code := code) hr
  rw [State.serve_taken _ _ _ _ _ ht, ← State.endedNow_serving, hs, hb]
  exact State.endRun_now { s with ports := ps, run := some (r.timed since) } (r.timed since) c e (some p) h

end

/-- The held reply of a request that ended its run at once. -/
theorem State.replyHeld_serving (s : State) (p : Port) (code : Byte) (a : Answer) :
    (s.serving p code).replyHeld (some p) a = s.answered p code a.status a.payload := by
  show (s.serving p code).reply p a = _
  rw [State.reply_some _ _ _ code (by simp), State.serving_answered]

/-! ### The close record (R128 to R131) -/

section
variable {r : Run} {s : State} {result : RunResult}

theorem Run.closeComputation_measured (h : r.stageCount ≠ 0) :
    (r.closeComputation s result).meanStage = roundHalfAway r.stageSum r.stageCount ∧
    (r.closeComputation s result).stageLeast = r.stageLeast ∧
    (r.closeComputation s result).stageGreatest = r.stageGreatest ∧ (r.closeComputation s result).noStage = false := by
  simp [Run.closeComputation, Run.meanStage, h]

theorem Run.closeComputation_stageless (h : r.stageCount = 0) (hnew : s.newestStage = none) (hopen : r.stageAtOpen = none) :
    (r.closeComputation s result).noStage = true ∧ (r.closeComputation s result).rated = none := by
  have hmean : r.meanStage s.newestStage = none := by simp [Run.meanStage, h, hnew, hopen]
  simp only [Run.closeComputation, hmean, closeComparison, Option.isNone_none, true_and]
  cases s.rating.active <;> rfl

theorem Run.closeComputation_unrated (h : s.rating.active = none) :
    (r.closeComputation s result).rated = none ∧ (r.closeComputation s result).deviation = none ∧
    (r.closeComputation s result).shift = none ∧ (r.closeComputation s result).ratingId = none := by
  simp [Run.closeComputation, closeComparison, h, noComparison]

theorem Run.closeComputation_unsteady : (r.closeComputation s result).unsteady = true ↔
    r.stageCount ≠ 0 ∧ s.cfg.get .unsteadyLimit < r.stageGreatest - r.stageLeast := by
  simp [Run.closeComputation, Run.isUnsteady]

theorem Run.closeComputation_concentrated : (r.closeComputation s result).concentrated = true ↔
    ∃ x ∈ r.table, (r.totalQ : Int) * s.cfg.get .concentrationLimit < (x.q : Int) * 1000 := by
  simp [Run.closeComputation, Run.isConcentrated]

/-- The comparison of a run that has a mean stage. -/
theorem Run.closeComputation_compared {set : RatingSet} (hset : s.rating.active = some set)
    (hstage : (r.closeComputation s result).noStage = false) :
    let c := r.closeComputation s result
    c.rated = some (set.rate c.meanStage s.backup.clock) ∧ c.ratingId = some set.id ∧
      c.shift = (set.inverse r.totalQ).map (fun x => x - c.meanStage) ∧
      c.deviation = Machine.deviation r.totalQ (set.rate c.meanStage s.backup.clock).1 := by
  cases hmean : r.meanStage s.newestStage with
  | none => simp [Run.closeComputation, hmean] at hstage
  | some x => simp [Run.closeComputation, hmean, closeComparison, hset, RatingSet.compare]

end

theorem sectionVelocity_eq (q a : Nat) : sectionVelocity q a =
    if a = 0 then none else some (min 65535 ((2 * (q * 100) + a) / (2 * a))) := by
  rw [sectionVelocity, saturate_eq_min]
  rfl

theorem deviation_zero (q : Nat) : deviation q 0 = none := rfl

theorem deviation_rated (q : Nat) {rated : Nat} (h : rated ≠ 0) : deviation q rated =
    some (max (-32767) (min 32767 (roundHalfAway (((q : Int) - rated) * 1000) rated))) := by
  rw [deviation, if_neg h, clampInt_eq_max_min _ (by decide)]

/-! ### The inverse (R68) -/

section
variable {ps : List RatingPoint} {q : Nat}

/-- A point that carries the discharge, the first one, gives its stage. -/
theorem inverseOn_point (hps : ps.Pairwise fun a b => a.stage < b.stage ∧ a.q ≤ b.q) {i : Nat} {a : RatingPoint}
    (ha : ps[i]? = some a) (hq : a.q = q)
    (hfirst : ∀ (j : Nat) (b : RatingPoint), j < i → ps[j]? = some b → b.q ≠ q) : inverseOn ps q = some a.stage := by
  induction ps generalizing i with
  | nil => simp at ha
  | cons b rest ih =>
    cases i with
    | zero =>
      obtain rfl : b = a := by simpa using ha
      cases rest <;> simp [inverseOn, hq]
    | succ i =>
      obtain ⟨hb, hrest⟩ := List.pairwise_cons.1 hps
      have hbq : b.q ≠ q := hfirst 0 b (Nat.succ_pos i) rfl
      have hrec := ih hrest ha fun j x hj hx => hfirst (j + 1) x (Nat.succ_lt_succ hj) hx
      cases rest with
      | nil => simp at ha
      | cons x rest =>
        have hmem : a ∈ x :: rest := List.mem_of_getElem? ha
        have hnext : x.q ≤ q := by
          rcases List.mem_cons.1 hmem with rfl | hmem
          · exact Nat.le_of_eq hq
          · exact hq ▸ ((List.pairwise_cons.1 hrest).1 a hmem).2
        rw [inverseOn, if_neg hbq, if_neg fun h => absurd h.2 (Nat.not_lt.2 hnext), hrec]

/-- A discharge inside a segment gives the stage on its line. -/
theorem inverseOn_segment (hps : ps.Pairwise fun a b => a.stage < b.stage ∧ a.q ≤ b.q) {i : Nat} {a b : RatingPoint}
    (ha : ps[i]? = some a) (hb : ps[i + 1]? = some b) (hlo : a.q < q) (hhi : q < b.q) : inverseOn ps q =
      some (a.stage + roundHalfUp ((q - a.q) * (b.stage - a.stage).toNat) (b.q - a.q)) := by
  induction ps generalizing i with
  | nil => simp at ha
  | cons x rest ih =>
    cases rest with
    | nil => simp at hb
    | cons y rest =>
      cases i with
      | zero =>
        obtain rfl : x = a := by simpa using ha
        obtain rfl : y = b := by simpa using hb
        rw [inverseOn, if_neg (by omega), if_pos ⟨hlo, hhi⟩]
      | succ i =>
        obtain ⟨hx, hrest⟩ := List.pairwise_cons.1 hps
        have hmem : a ∈ y :: rest := List.mem_of_getElem? ha
        have hxa := (hx a hmem).2
        have hya : y.q ≤ a.q := by
          rcases List.mem_cons.1 hmem with rfl | hmem
          · exact Nat.le_refl _
          · exact ((List.pairwise_cons.1 hrest).1 a hmem).2
        rw [inverseOn, if_neg (by omega), if_neg (by omega)]
        exact ih hrest ha hb

/-- A discharge below or above every point has no stage. -/
theorem inverseOn_outside (h : (∀ a ∈ ps, a.q < q) ∨ ∀ a ∈ ps, q < a.q) : inverseOn ps q = none := by
  induction ps with
  | nil => rfl
  | cons x rest ih =>
    have hrec := ih (h.imp (fun h a ha => h a (List.mem_cons_of_mem _ ha)) fun h a ha => h a (List.mem_cons_of_mem _ ha))
    have hx : x.q < q ∨ q < x.q := h.imp (fun h => h x List.mem_cons_self) fun h => h x List.mem_cons_self
    cases rest with
    | nil => rw [inverseOn, if_neg (by omega)]
    | cons y rest =>
      have hy : x.q < q ∧ y.q < q ∨ q < x.q := h.imp
        (fun h => ⟨h x List.mem_cons_self, h y (List.mem_cons_of_mem _ List.mem_cons_self)⟩)
        fun h => h x List.mem_cons_self
      rw [inverseOn, if_neg (by omega), if_neg (by omega), hrec]

end

/-! ### The blocks (R101, R103, R106) -/

section
variable {p : Port} {s : State} {r : Run} (hr : s.run = some r)
include hr

theorem runClose_taken (h : r.state = .opened) (ho : r.openVertical = none) (hlen : 3 ≤ r.table.length) :
    runClose p [] s = hold (s.endRun r (r.closeComputation s .complete) .close (some p)) := by
  simp only [runClose, parseEmpty, hr]
  rw [if_pos ⟨h, by simp [ho], hlen⟩]

theorem runClose_refused (h : r.state ≠ .opened ∨ r.openVertical.isSome = true ∨ r.table.length < 3) :
    runClose p [] s = (s, some ⟨.wrongState, []⟩) := by
  simp only [runClose, parseEmpty, hr]
  rw [if_neg, refuse]
  rintro ⟨hs, ho, hlen⟩
  rcases h with h | h | h
  · exact h hs
  · rw [Option.isNone_iff_eq_none] at ho
    simp [ho] at h
  · omega

theorem runAbandon_busy (h : r.state = .closing) : runAbandon p [] s = (s, some ⟨.busy, []⟩) := by
  simp [runAbandon, parseEmpty, hr, h, refuse]

theorem runAbandon_taken (h : r.state ≠ .closing) : runAbandon p [] s = hold (s.endRun r
    (abandonedRecord r.id s.backup.clock r.totalQ r.totalA r.notStored r.referenceChanged r.sourceChanged)
    .abandon (some p)) := by
  simp only [runAbandon, parseEmpty, hr, if_neg h]

theorem runResume_state (h : r.state ≠ .parked) : runResume [] s = (s, some ⟨.wrongState, []⟩) := by
  simp [runResume, parseEmpty, hr, h, refuse]

theorem runResume_locked (h : r.state = .parked) (hl : s.lockedOut = true) :
    runResume [] s = (s, some ⟨.lockout, []⟩) := by
  simp [runResume, parseEmpty, hr, h, hl, refuse]

theorem runResume_taken (h : r.state = .parked) (hl : s.lockedOut = false) : runResume [] s =
    ((s.setRun (some (r.resumed s.uptime))).raiseAll .runResumed,
      some ⟨.ok, le32 (s.uptime - r.parkUptime.getD s.uptime) ++ le8 r.table.length⟩) := by
  simp [runResume, parseEmpty, hr, h, hl, ok]

end

section
variable {p : Port} {s : State} (hr : s.run = none)
include hr

theorem runClose_idle : runClose p [] s = (s, some ⟨.wrongState, []⟩) := by simp [runClose, parseEmpty, hr, refuse]

theorem runAbandon_idle : runAbandon p [] s = (s, some ⟨.wrongState, []⟩) := by simp [runAbandon, parseEmpty, hr, refuse]

theorem runResume_idle : runResume [] s = (s, some ⟨.wrongState, []⟩) := by simp [runResume, parseEmpty, hr, refuse]

end

/-- A reply that is held leaves the other ports as they are. -/
theorem State.serving_port_other (s : State) {p q : Port} (code : Byte) (h : q ≠ p) :
    (s.serving p code).port q = s.port q := State.setPort_port_other _ _ _ _ h

/-- A request that is neither GET_IDENT nor GET_TIME is taken in READY alone (R169). -/
theorem State.ready_of_takes {s : State} {p : Port} {code : Byte} {payload : List Byte}
    (ht : s.takes p code payload = true) (h : code ≠ 0x01#8 ∧ code ≠ 0x02#8) : s.phase = .ready := by
  obtain ⟨-, -, -, hadmit⟩ := (s.takes_iff p code payload).1 ht
  rcases State.phase_of_admission hadmit with hphase | h1 | h2
  · exact hphase
  · exact absurd h1 h.1
  · exact absurd h2 h.2

/-- What a request leaves that ended a run with a trailer. -/
theorem State.ended_serving_leaves {s t : State} {p : Port} {payload : List Byte} {code : Byte} {r : Run}
    {c : CloseRecord} {e : Ending} (hr : s.run = some r)
    (ht : t = ((s.arrived p payload).ended r c e (some p)).serving p code) :
    t = { s with run := t.run, meter := s.meter.stopped, store := t.store, ports := t.ports } ∧
    t.run = some { r.closed c e (some p) with
      trailerHeld := if s.store.journalQueue.length < 4 then r.trailerHeld else true } ∧
    t.store = (if s.store.journalQueue.length < 4
      then { s.store with journalQueue := s.store.journalQueue ++ [⟨.trailer c, 0⟩] } else s.store) ∧
    t.port p = { (s.arrived p payload).port p with request := some code, reply := none } ∧
    ∀ q, q ≠ p → t.port q = s.port q := by
  obtain ⟨ps, since, harr⟩ := State.arrived_running (p := p) (payload := payload) hr
  have hother (q : Port) (hq : q ≠ p) : t.port q = s.port q := by
    rw [ht, State.serving_port_other _ _ hq]
    exact State.arrived_port_other _ _ _ _ hq
  have hport : t.port p = { (s.arrived p payload).port p with request := some code, reply := none } := by
    rw [ht, State.serving_port]
    rfl
  refine ⟨?_, ?_, ?_, hport, hother⟩
  · rw [ht, harr]
    rfl
  · rw [ht, harr]
    rfl
  · rw [ht, harr]
    rfl

/-- Raising an event leaves the enabled ports with an entry of its kind, a reply later too. -/
theorem State.pendingWhere_raised_answered {s : State} (h : s.phase = .ready) (k : EventKind) (p : Port) (code : Byte)
    (st : Status) (pl : List Byte) : ((s.raiseAll k).answered p code st pl).pendingWhereEnabled k := by
  intro q hq
  have hraised := State.raiseAll_pendingWhere (k := k) h q
  by_cases hqp : q = p
  · subst hqp
    rw [State.answered_port] at hq ⊢
    exact hraised hq
  · rw [State.answered_other _ _ _ _ _ _ hqp] at hq ⊢
    exact hraised hq

/-- Settles O48: the close record by its computation, the run's end by the trailer it hands or does not, the inverse by
the first point or segment that holds the discharge. -/
theorem runIsClosedAbandonedAndResumed : Obligations.RunIsClosedAbandonedAndResumed := by
  refine ⟨fun p r s ht hr ho hv hlen hn hd => ?_, fun p r s ht hr ho hv hlen hnow => ?_, fun p r s ht hr h => ?_,
    fun p r s ht hr => ⟨fun h => ?_, fun h hn hd => ?_, fun h hnow => ?_⟩,
    fun p r u s ht hr hp hu => ⟨fun hl => ?_, fun hl => ?_⟩, fun p r s ht hr h => ?_,
    fun p s hr => ⟨fun ht => ?_, fun ht => ?_, fun ht => ?_⟩,
    fun set q hvalid => ⟨fun i a ha hq hfirst => ?_, fun i a b ha hb hlo hhi => ?_, fun h => ?_⟩⟩
  · let c := r.closeComputation s .complete
    have hdone := State.serve_ends_stored (c := c) (e := .close) ht hr
      (fun ps since => runClose_taken (r := r.timed since) rfl ho hv hlen) hd hn
    obtain ⟨hs, hrun, hstore, hport, hother⟩ := State.ended_serving_leaves hr hdone
    refine ⟨_, _, c, rfl, hrun, hs, rfl, rfl, rfl, rfl, rfl, rfl, rfl, rfl, rfl, rfl, sectionVelocity_eq _ _,
      Run.closeComputation_measured, Run.closeComputation_stageless, Run.closeComputation_unrated,
      Run.closeComputation_unsteady, Run.closeComputation_concentrated, fun set hset hstage => ?_, hstore, rfl, hport,
      hother⟩
    obtain ⟨hrated, hid, hshift, hdev⟩ := Run.closeComputation_compared hset hstage
    refine ⟨hrated, hid, hshift, fun hz => ?_, fun hz => ?_⟩
    · rw [hdev, hz, deviation_zero]
    · rw [hdev, deviation_rated _ hz]
  · let c : CloseRecord := { r.closeComputation s .complete with notStored := true }
    have hdone : exec (.runClose p []) s =
        .next (((s.arrived p []).endedNow c).answered p 0x46#8 .ok (closePayload c)) :=
      congrArg Host.Outcome.next ((State.serve_ends_now (c := r.closeComputation s .complete) (e := .close) ht hr
        (fun ps since => runClose_taken (r := r.timed since) rfl ho hv hlen) hnow).trans
          (State.replyHeld_serving _ p 0x46#8 ⟨.ok, closePayload c⟩))
    have hready : s.phase = .ready := State.ready_of_takes ht (by decide)
    rw [State.endedNow_joined _ (show c.result ≠ .abandoned from RunResult.noConfusion)] at hdone
    refine ⟨_, c, hdone, by simp, by simp, by simp [MeterCapture.stopped], rfl, rfl, rfl, rfl, rfl, by simp; rfl,
      State.pendingWhere_raised_answered (by simpa using hready) _ _ _ _ _, ?_, ?_⟩
    · rw [State.answered_port]
    · rw [State.answered_port, closePayload, saturate_eq_min]
      rfl
  · exact congrArg _ (State.serve_refuses_run ht hr fun ps since => runClose_refused (r := r.timed since) rfl h)
  · exact congrArg _ (State.serve_refuses_run ht hr fun ps since => runAbandon_busy (r := r.timed since) rfl h)
  · let c := abandonedRecord r.id s.backup.clock r.totalQ r.totalA r.notStored r.referenceChanged r.sourceChanged
    have hdone := State.serve_ends_stored (c := c) (e := .abandon) ht hr
      (fun ps since => runAbandon_taken (r := r.timed since) rfl h) hd hn
    obtain ⟨hs, hrun, hstore, hport, hother⟩ := State.ended_serving_leaves hr hdone
    exact ⟨_, _, c, rfl, hrun, hs, rfl, rfl, rfl, rfl, rfl, rfl, rfl, rfl, rfl, rfl, rfl, hstore, rfl, hport, hother⟩
  · let c := abandonedRecord r.id s.backup.clock r.totalQ r.totalA r.notStored r.referenceChanged r.sourceChanged
    refine congrArg Host.Outcome.next ((State.serve_ends_now (c := c) (e := .abandon) ht hr
      (fun ps since => runAbandon_taken (r := r.timed since) rfl h) hnow).trans
        ((State.replyHeld_serving _ p 0x47#8 ⟨.ok, abandonPayload c⟩).trans ?_))
    rw [State.endedNow_abandoned _ rfl, State.arrived_meter]
    rfl
  · exact congrArg _ (State.serve_refuses_run ht hr fun ps since => runResume_locked (r := r.timed since) rfl hp hl)
  · refine congrArg Host.Outcome.next ((State.serve_changes_run ht
      (fun w => (w.mapRun (Run.resumed · s.uptime)).raiseAll .runResumed)
      (a := ⟨.ok, le32 (s.uptime - u) ++ le8 r.table.length⟩) hr (fun ps since => ?_) fun w => ?_).trans ?_)
    · refine (runResume_taken (s := { s with ports := ps, run := some (r.timed since) }) (r := r.timed since) rfl hp hl).trans ?_
      have hu' : (r.timed since).parkUptime = some u := hu
      rw [hu']
      rfl
    · rw [← State.raiseAll_serving]
      rfl
    · obtain ⟨ps, since, harr⟩ := State.arrived_running (p := p) (payload := []) hr
      rw [harr]
      rfl
  · exact congrArg _ (State.serve_refuses_run ht hr fun ps since => runResume_state (r := r.timed since) rfl h)
  · exact congrArg _ (State.serve_refuses_idle ht hr fun ps => runClose_idle (s := { s with ports := ps }) hr)
  · exact congrArg _ (State.serve_refuses_idle ht hr fun ps => runAbandon_idle (s := { s with ports := ps }) hr)
  · exact congrArg _ (State.serve_refuses_idle ht hr fun ps => runResume_idle (s := { s with ports := ps }) hr)
  · obtain ⟨-, hrises, -, -⟩ := RatingSet.rises_of_valid hvalid
    exact inverseOn_point hrises ha hq hfirst
  · obtain ⟨-, hrises, -, -⟩ := RatingSet.rises_of_valid hvalid
    exact inverseOn_segment hrises ha hb hlo hhi
  · exact inverseOn_outside h

end Sys2Proof.Machine

end

section
/-! PROOFS. RUN_OPEN (O45). -/

namespace Sys2Proof.Machine

-- one theorem at a time: many elaborated side by side would take a thread and its stack each
set_option Elab.async false

/-! ### A run opens (R91, R110) -/

theorem RunDescription.withCoef_eq (d : RunDescription) (configured : Int) :
    d.withCoef configured = { d with coef := if d.coef = 0 then configured.toNat else d.coef } := by
  unfold RunDescription.withCoef
  split <;> rfl

/-- The new run stands, and its header is handed. -/
theorem State.openRun_eq (s : State) (d : RunDescription) (hd : s.store.degraded = false) : s.openRun d = { s with
    run := some (s.newRun d), newestRunId := nextId s.newestRunId
    store := { s.store with journalQueue := s.store.journalQueue ++ [⟨(s.newRun d).header, 0⟩] } } := by
  have hnot : ¬({ s with run := some (s.newRun d), newestRunId := nextId s.newestRunId } : State).store.degraded = true := by
    simp [hd]
  exact (if_neg hnot).trans (if_neg Bool.false_ne_true)

theorem State.openRun_serving (s : State) (d : RunDescription) (p : Port) (code : Byte) (hd : s.store.degraded = false) :
    (s.serving p code).openRun d = (s.openRun d).serving p code := by
  rw [State.openRun_eq s d hd, State.openRun_eq (s.serving p code) d hd]
  rfl

/-- A RUN_OPEN that waited behind the run it ended is carried out. -/
theorem State.openAfter_opens {s : State} (d : RunDescription) (c : CloseRecord) (toPort : Option Port)
    (hl : s.lockedOut = false) (hd : s.store.degraded = false) : s.openAfter d c toPort =
      (s.openRun d).replyHeld toPort ⟨.ok, openPayload (s.newRun d) (some (c.runId, c.result))⟩ := by
  rw [State.openAfter, if_neg (by simp [hl]), if_neg (by simp [hd])]

/-- The reply of a RUN_OPEN over a run that ended at once. -/
theorem State.supersede_opens {w : State} {d : RunDescription} {c : CloseRecord} {p : Port} {code : Byte}
    (hl : w.lockedOut = false) (hd : w.store.degraded = false) :
    (w.serving p code).afterClosing (some (.supersede d)) c (some p) =
      (w.openRun d).answered p code .ok (openPayload (w.newRun d) (some (c.runId, c.result))) := by
  refine (State.openAfter_opens (s := w.serving p code) d c (some p) hl hd).trans ?_
  rw [State.openRun_serving _ _ _ _ hd, State.replyHeld_serving]
  rfl

/-- A run ended at once for its table. -/
theorem State.endedNow_parked (w : State) (r : Run) (s : State) : w.endedNow (r.parkedRecord s) = { w with
    run := none, meter := w.meter.stopped
    gaugings := if 3 ≤ r.table.length then joinList w.gaugings { r.parkedRecord s with notStored := true }
      else w.gaugings }.raiseAll .runClosed := by
  rw [State.endedNow, State.joinGaugings_parked]

/-! ### The block (R90 to R92) -/

section
variable {p : Port} {pl : List Byte} {d : RunDescription} {mask : Nat} (hx : parseRunOpen pl = some (d, mask)) {s : State}
include hx

theorem runOpen_active {r : Run} (hr : s.run = some r) (h : r.state = .opened ∨ r.state = .observing) :
    runOpen p pl s = (s, some ⟨.wrongState, []⟩) := by
  rcases h with h | h <;> simp only [runOpen, hx, hr, h, refuse]

theorem runOpen_closing {r : Run} (hr : s.run = some r) (h : r.state = .closing) :
    runOpen p pl s = (s, some ⟨.busy, []⟩) := by
  simp only [runOpen, hx, hr, h, refuse]

/-- What steps 3 to 6 of R90 refuse, if anything, with n places needed. -/
def State.openRefusal (s : State) (d : RunDescription) (mask n : Nat) : Option Status :=
  if runOpenFits d mask = false then some .badArgument
  else if s.lockedOut then some .lockout
  else if s.store.degraded then some .storeFault
  else if s.journalRoom n = false then some .busy
  else none

theorem runOpen_idle (hr : s.run = none) : runOpen p pl s = match s.openRefusal d mask 1 with
    | some st => (s, some ⟨st, []⟩)
    | none => (s.openRun d, some ⟨.ok, openPayload (s.newRun d) none⟩) := by
  simp only [runOpen, hx, hr, State.openRefusal]
  repeat' split
  all_goals simp_all [refuse, ok]

theorem runOpen_parked {r : Run} (hr : s.run = some r) (h : r.state = .parked) :
    runOpen p pl s = match s.openRefusal d mask 2 with
    | some st => (s, some ⟨st, []⟩)
    | none => hold (s.endRun r (r.parkedRecord s) (.supersede d) (some p)) := by
  simp only [runOpen, hx, hr, h, State.openRefusal]
  repeat' split
  all_goals simp_all [refuse]

end

section
variable {s : State} {d : RunDescription} {mask : Nat} (hf : runOpenFits d mask = true) (n : Nat)

theorem State.openRefusal_misfit (s : State) (hf : runOpenFits d mask = false) :
    s.openRefusal d mask n = some .badArgument := if_pos hf

include hf

theorem State.openRefusal_locked (hl : s.lockedOut = true) : s.openRefusal d mask n = some .lockout := by
  simp [State.openRefusal, hf, hl]

variable (hl : s.lockedOut = false)
include hl

theorem State.openRefusal_degraded (hd : s.store.degraded = true) : s.openRefusal d mask n = some .storeFault := by
  simp [State.openRefusal, hf, hl, hd]

variable (hd : s.store.degraded = false)
include hd

theorem State.openRefusal_full (hq : 4 < s.store.journalQueue.length + n) : s.openRefusal d mask n = some .busy := by
  simp [State.openRefusal, hf, hl, hd, State.journalRoom_false.2 hq]

theorem State.openRefusal_none (hq : s.store.journalQueue.length + n ≤ 4) : s.openRefusal d mask n = none := by
  simp [State.openRefusal, hf, hl, hd, (s.journalRoom_iff n).2 hq]

end

/-- Settles O45: step 2 of R90 by the run's state, steps 3 to 6 by `openRefusal`, then the run opens, at once or behind the
one it ends. -/
theorem runOpensOrIsRefusedInOrder : Obligations.RunOpensOrIsRefusedInOrder := by
  intro p pl d mask s ht hx refused idle parked places
  have hrefuse {st : Status} (h : (idle ∧ s.openRefusal d mask 1 = some st) ∨ (parked ∧ s.openRefusal d mask 2 = some st)) :
      refused st := by
    rcases h with ⟨hr, hst⟩ | ⟨⟨r, hr, hp⟩, hst⟩
    · refine congrArg _ (State.serve_refuses_idle ht hr fun ps => (runOpen_idle hx (s := { s with ports := ps }) hr).trans ?_)
      rw [show ({ s with ports := ps } : State).openRefusal d mask 1 = some st from hst]
    · refine congrArg _ (State.serve_refuses_run ht hr fun ps since => (runOpen_parked hx (r := r.timed since) rfl hp).trans ?_)
      rw [show ({ s with ports := ps, run := some (r.timed since) } : State).openRefusal d mask 2 = some st from hst]
  have hends {r : Run} (hr : s.run = some r) (hp : r.state = .parked) (hst : s.openRefusal d mask 2 = none)
      (ps : Ports) (since : Option Nat) : runOpen p pl { s with ports := ps, run := some (r.timed since) } =
        hold (State.endRun { s with ports := ps, run := some (r.timed since) } (r.timed since) (r.parkedRecord s)
          (.supersede d) (some p)) := by
    refine (runOpen_parked hx (r := r.timed since) rfl hp).trans ?_
    rw [show ({ s with ports := ps, run := some (r.timed since) } : State).openRefusal d mask 2 = none from hst]
    rfl
  refine ⟨fun r hr h => ?_, fun r hr h => ?_, fun h hf => ?_, fun h hf hl => ?_, fun h hf hl hd => ?_,
    fun hf hl hd h => ?_, fun hf hl hd hr hq => ?_, fun r hf hl hd hr hp hn hq => ?_, fun r hf hl hd hr hp hn hq => ?_⟩
  · exact congrArg _ (State.serve_refuses_run ht hr fun ps since => runOpen_active hx (r := r.timed since) rfl h)
  · exact congrArg _ (State.serve_refuses_run ht hr fun ps since => runOpen_closing hx (r := r.timed since) rfl h)
  · exact hrefuse (h.imp (⟨·, s.openRefusal_misfit 1 hf⟩) (⟨·, s.openRefusal_misfit 2 hf⟩))
  · exact hrefuse (h.imp (⟨·, State.openRefusal_locked hf 1 hl⟩) (⟨·, State.openRefusal_locked hf 2 hl⟩))
  · exact hrefuse (h.imp (⟨·, State.openRefusal_degraded hf 1 hl hd⟩) (⟨·, State.openRefusal_degraded hf 2 hl hd⟩))
  · exact hrefuse (h.imp (fun ⟨hr, hq⟩ => ⟨hr, State.openRefusal_full hf 1 hl hd (Nat.lt_succ_of_le hq)⟩)
      fun ⟨hr, hq⟩ => ⟨hr, State.openRefusal_full hf 2 hl hd (Nat.lt_succ_of_le (Nat.succ_le_succ hq))⟩)
  · have hst := State.openRefusal_none hf 1 hl hd (by omega)
    obtain ⟨ps, harr⟩ := State.arrived_idle (p := p) (payload := pl) hr
    obtain ⟨ps', hserv⟩ := State.serving_idle (p := p) (payload := pl) (code := 0x40#8) hr
    have hdone : exec (.runOpen p pl) s = .next (((s.arrived p pl).openRun d).answered p 0x40#8 .ok
        (openPayload (s.newRun d) none)) := by
      refine congrArg _ (State.serve_of_change (fun u => u.openRun d) (a := ⟨.ok, openPayload (s.newRun d) none⟩) ht ?_
        (State.openRun_serving _ _ _ _ (by simpa using hd)))
      rw [hserv]
      refine (runOpen_idle hx (s := { s with ports := ps' }) hr).trans ?_
      rw [show ({ s with ports := ps' } : State).openRefusal d mask 1 = none from hst]
      rfl
    rw [State.openRun_eq _ _ (by simpa using hd)] at hdone
    refine ⟨_, s.newRun d, hdone, ?_, rfl, rfl, rfl, RunDescription.withCoef_eq _ _, rfl, rfl, rfl, rfl, rfl, rfl, rfl, rfl,
      rfl, rfl, rfl, ?_, fun q hq => ?_, ?_⟩
    · rw [harr]
      rfl
    · rw [harr]
      rfl
    · rw [State.answered_other _ _ _ _ _ _ hq]
      exact State.arrived_port_other _ _ _ _ hq
    · rw [State.answered_port]
      rfl
  · have hst := State.openRefusal_none hf 2 hl hd (by omega)
    have hdone := State.serve_ends_stored (e := .supersede d) ht hr (hends hr hp hst) hd hn
    obtain ⟨hs, hrun, hstore, hport, hother⟩ := State.ended_serving_leaves hr hdone
    have hroom : s.store.journalQueue.length < 4 := by omega
    rw [if_pos hroom] at hstore
    exact ⟨_, _, r.parkedRecord s, rfl, hrun, rfl, rfl, rfl, rfl, rfl, rfl, r.parkedRecord_runId s,
      r.parkedRecord_closeTime s, r.parkedRecord_result s, r.parkedRecord_totalQ s, hstore, hport,
      (congrArg State.gaugings hs).trans rfl⟩
  · have hst := State.openRefusal_none hf 2 hl hd (by omega)
    let c : CloseRecord := { r.parkedRecord s with notStored := true }
    have hready : s.phase = .ready := State.ready_of_takes ht (by decide)
    obtain ⟨ps, since, harr⟩ := State.arrived_running (p := p) (payload := pl) hr
    have hw := State.endedNow_parked (s.arrived p pl) r s
    have hdone := (State.serve_ends_now (e := .supersede d) ht hr (hends hr hp hst) (.inl hn))
    generalize hweq : (s.arrived p pl).endedNow (r.parkedRecord s) = w at hdone hw
    rw [State.supersede_opens (w := w) (by rw [hw, harr]; simpa [State.lockedOut] using hl)
      (by rw [hw, harr]; simpa using hd)] at hdone
    have hpend : (w.answered p 0x40#8 .ok (openPayload (w.newRun d) (some (c.runId, c.result)))).pendingWhereEnabled
        .runClosed := by
      rw [hw]
      exact State.pendingWhere_raised_answered (by simpa using hready) _ _ _ _ _
    have hid : w.newestRunId = s.newestRunId := by rw [hw, harr]; simp
    have hstore : w.store = s.store := by rw [hw, harr]; simp
    have hgaug : w.gaugings = if 3 ≤ r.table.length then joinList s.gaugings c else s.gaugings := by rw [hw, harr]; simp [c]
    rw [State.openRun_eq w d (hstore ▸ hd)] at hdone
    refine ⟨_, w.newRun d, c, congrArg Host.Outcome.next hdone, rfl, rfl, congrArg nextId hid, rfl, rfl,
      r.parkedRecord_runId s, r.parkedRecord_result s, rfl, hgaug, hpend, by rw [← hstore]; rfl, ?_, ?_⟩
    · rw [State.answered_port]
    · rw [State.answered_port, ← r.parkedRecord_runId s]
      rfl

end Sys2Proof.Machine

end

section
/-! PROOFS. The reads the channel grants (O56). -/

namespace Sys2Proof.Machine

-- one theorem at a time: many elaborated side by side would take a thread and its stack each
set_option Elab.async false

/-! ### Which read is granted (R146, R153) -/

section
variable (st : Store)

/-- The reads among which the round-robin chooses. -/
def Store.turnReads : List WaitingRead := if st.firstReads.isEmpty then st.reads else st.firstReads

/-- A read has its turn with its port, unless the port gave way and a read of another one has not. -/
theorem Store.mem_turnReads (w : WaitingRead) : w ∈ st.turnReads ↔
    w ∈ st.reads ∧ (w.port ∉ st.channel.passed ∨ ∀ x ∈ st.reads, x.port ∈ st.channel.passed) := by
  unfold Store.turnReads
  by_cases h : st.firstReads.isEmpty = true
  · rw [if_pos h]
    exact ⟨fun hw => ⟨hw, .inr (st.firstReads_isEmpty_iff.1 h)⟩, fun hw => hw.1⟩
  · rw [if_neg h]
    rw [st.firstReads_isEmpty_iff] at h
    simp only [Store.firstReads, List.mem_filter, decide_eq_true_eq, h, or_false]

/-- A port has a read whose turn it may be. -/
def Store.waits (q : Port) : Prop :=
  (∃ x ∈ st.reads, x.port = q) ∧ (q ∉ st.channel.passed ∨ ∀ x ∈ st.reads, x.port ∈ st.channel.passed)

theorem Store.readOf_none {q : Port} (h : ¬st.waits q) : st.readOf q = none := by
  refine List.find?_eq_none.2 fun x hx => ?_
  obtain ⟨hmem, hpass⟩ := (st.mem_turnReads x).1 hx
  simp only [decide_eq_true_eq]
  rintro rfl
  exact h ⟨⟨x, hmem, rfl⟩, hpass⟩

/-- The first read of a port that waits is its next. -/
theorem Store.readOf_first {w : WaitingRead} {pre post : List WaitingRead} (hreads : st.reads = pre ++ w :: post)
    (hpre : ∀ x ∈ pre, x.port ≠ w.port) (h : st.waits w.port) : st.readOf w.port = some w := by
  have hfind (front back : List WaitingRead) (hfront : ∀ x ∈ front, x.port ≠ w.port) :
      (front ++ w :: back).find? (fun r => decide (r.port = w.port)) = some w := by
    rw [List.find?_append, List.find?_eq_none.2 (by simpa using hfront)]
    simp
  show st.turnReads.find? _ = _
  unfold Store.turnReads
  split
  · rw [hreads]
    exact hfind _ _ hpre
  · next hsome =>
    rw [st.firstReads_isEmpty_iff] at hsome
    have hfree : w.port ∉ st.channel.passed := h.2.resolve_right hsome
    rw [Store.firstReads, hreads, List.filter_append, List.filter_cons_of_pos (by simpa using hfree)]
    exact hfind _ _ fun x hx => hpre x (List.mem_filter.1 hx).1

theorem Store.readOf_mem {q : Port} {w : WaitingRead} (h : st.readOf q = some w) : w ∈ st.reads :=
  ((st.mem_turnReads w).1 (List.mem_of_find?_eq_some h)).1

theorem Store.nextRead_mem {w : WaitingRead} (h : st.nextRead = some w) : w ∈ st.reads := by
  simp only [Store.nextRead, Option.or_eq_some_iff] at h
  rcases h with (h | ⟨-, h⟩) | ⟨-, h⟩ <;> exact st.readOf_mem h

/-- Where a read waits, one has its turn. -/
theorem Store.nextRead_some (h : st.reads ≠ []) : ∃ w ∈ st.reads, st.nextRead = some w := by
  have hturn : st.turnReads ≠ [] := by
    unfold Store.turnReads
    split
    · exact h
    · next hsome => simpa using hsome
  obtain ⟨w, hw⟩ := List.exists_mem_of_ne_nil _ hturn
  have hwaits (q : Port) (hq : w.port = q) : (st.readOf q).isSome = true :=
    List.find?_isSome.2 ⟨w, hw, by simpa using hq⟩
  have hsome : st.nextRead.isSome = true := by
    simp only [Store.nextRead, Option.isSome_or, Bool.or_eq_true]
    have hcases : w.port = st.robin ∨ w.port = Port.succ st.robin ∨ w.port = Port.succ (Port.succ st.robin) := by
      cases w.port <;> cases st.robin <;> decide
    rcases hcases with hq | hq | hq
    · exact .inl (.inl (hwaits _ hq))
    · exact .inl (.inr (hwaits _ hq))
    · exact .inr (hwaits _ hq)
  obtain ⟨x, hx⟩ := Option.isSome_iff_exists.1 hsome
  exact ⟨x, st.nextRead_mem hx, hx⟩

end

/-- The channel grants a read only while one waits. -/
theorem State.reads_of_arbiter {s : State} (h : s.arbiter = some .read) : s.store.reads ≠ [] := by
  intro hnil
  have hfirst : s.store.firstReads = [] := by simp [Store.firstReads, hnil]
  have hfree : s.store.freeGrant ≠ some .read := by
    simp only [Store.freeGrant, hfirst, hnil, List.isEmpty_nil, Bool.not_true, Bool.false_eq_true, if_false]
    repeat' split
    all_goals simp
  unfold State.arbiter at h
  split at h
  · cases h
  · cases hc : s.store.channel with
    | programming j e => simp [hc] at h
    | erasing j => simp [hc, hnil] at h
    | free => exact hfree (by simpa [hc] using h)
    | searched ps => exact hfree (by simpa [hc] using h)

/-! ### What a granted read leaves (R146, R147, R152, R153, R158) -/

section
variable {s : State} {w : WaitingRead} (hw : s.grantedRead = some w)
include hw

theorem State.readLogGrant_of {n : Nat} (hk : w.kind = .readLog n) : s.readLogGrant =
    (((s.logRead w.port n).dropRead w).readEnds w.port).readReply w ⟨.ok, s.logPayload w.port n⟩ := by
  simp only [State.readLogGrant, hw, hk]

theorem State.seekLogStep_done {t pos : Word32} {found : Option LogRecord} (hk : w.kind = .seekLog t pos)
    (hf : s.store.seekStep t (s.store.seekFrom pos) = .done found) : s.seekLogStep =
      (((s.seekDone w.port found).dropRead w).readEnds w.port).readReply w ⟨.ok, s.store.seekPayload found⟩ := by
  simp only [State.seekLogStep, hw, hk, hf]

theorem State.seekLogStep_more {t pos pos' : Word32} (hk : w.kind = .seekLog t pos)
    (hf : s.store.seekStep t (s.store.seekFrom pos) = .more pos') :
    s.seekLogStep = (s.moveRead w (.seekLog t pos')).stepEnds w.port := by
  simp only [State.seekLogStep, hw, hk, hf]

theorem State.readJournalGrant_of {id part : Nat} (hk : w.kind = .readJournal id part) : s.readJournalGrant =
    ((s.dropRead w).readEnds w.port).readReply w (s.store.journalAnswer id part) := by
  simp only [State.readJournalGrant, hw, hk]

end

theorem State.readReply_attached {s : State} {w : WaitingRead} {a : Answer} {code : Byte} (h : w.attached = true)
    (hreq : (s.port w.port).request = some code) :
    s.readReply w a = s.answered w.port code a.status a.payload :=
  (if_pos h).trans (State.reply_some _ _ _ _ hreq)

theorem State.readEnds_eq (s : State) (p : Port) : s.readEnds p = s.setStore { s.store with
    robin := match p with
      | .l => .t
      | .t => .c
      | .c => .l
    channel := match s.store.channel with
      | .erasing j => .erasing { j with suspended := false, since := 0 }
      | .programming j e => .programming j e
      | _ => .free } := by
  have hchannel : s.store.channel.resumed = match s.store.channel with
      | .erasing j => .erasing { j with suspended := false, since := 0 }
      | .programming j e => .programming j e
      | _ => .free := by
    cases s.store.channel <;> rfl
  rw [State.readEnds, hchannel]
  rfl

theorem State.stepEnds_eq (s : State) (p : Port) : s.stepEnds p = s.setStore { s.store with
    robin := match p with
      | .l => .t
      | .t => .c
      | .c => .l
    channel := match s.store.channel with
      | .erasing j => .erasing { j with suspended := false, since := 0 }
      | .programming j e => .programming j e
      | _ => .searched (match s.store.channel with
        | .searched ps => if p ∈ ps then ps else ps ++ [p]
        | _ => [p]) } := by
  have hchannel : s.store.channel.stepped p = match s.store.channel with
      | .erasing j => .erasing { j with suspended := false, since := 0 }
      | .programming j e => .programming j e
      | _ => .searched (match s.store.channel with
        | .searched ps => if p ∈ ps then ps else ps ++ [p]
        | _ => [p]) := by
    cases s.store.channel <;> rfl
  rw [State.stepEnds, hchannel]
  rfl

theorem Store.seekCursor_eq (st : Store) (found : Option LogRecord) :
    st.seekCursor found = (found.map LogRecord.seq).getD st.nextSeq := by cases found <;> rfl

theorem Store.seekPayload_eq (st : Store) (found : Option LogRecord) : st.seekPayload found =
    leWord ((found.map LogRecord.seq).getD st.nextSeq) ++ leWord ((found.map LogRecord.time).getD 0) := by
  cases found <;> rfl

/-- Settles O56: the round-robin over the reads that have their turn, and each kind of read by its grant. -/
theorem grantedReadsReplyAndMoveTheCursor : Obligations.GrantedReadsReplyAndMoveTheCursor := by
  refine ⟨fun turn next last s hrobin hports => ?_, fun w s hw hatt => ?_⟩
  · have hpassed : (match s.store.channel with | .searched ps => ps | _ => []) = s.store.channel.passed := by
      cases s.store.channel <;> rfl
    have hnext : next = Port.succ turn ∧ last = Port.succ (Port.succ turn) := by
      rcases hports with h | h | h <;> (cases h; exact ⟨rfl, rfl⟩)
    obtain ⟨rfl, rfl⟩ := hnext
    intro passed waits
    have hp : passed = s.store.channel.passed := hpassed
    have hwaits (q : Port) : waits q ↔ s.store.waits q := by simp only [waits, hp]; rfl
    refine ⟨fun h => if_neg h, fun h => ?_, fun w pre post h hreads hpre hwait hturn => ?_⟩
    · obtain ⟨w, hmem, hw⟩ := s.store.nextRead_some (State.reads_of_arbiter h)
      exact ⟨w, hmem, (if_pos h).trans hw⟩
    · have hfirst := s.store.readOf_first hreads hpre ((hwaits _).1 hwait)
      refine (if_pos h).trans ?_
      rw [Store.nextRead, hrobin]
      rcases hturn with ht | ⟨ht, h1⟩ | ⟨ht, h1, h2⟩
      · rw [← ht, hfirst]
        rfl
      · rw [s.store.readOf_none (mt (hwaits _).2 h1), ← ht, hfirst]
        rfl
      · rw [s.store.readOf_none (mt (hwaits _).2 h1), s.store.readOf_none (mt (hwaits _).2 h2), ← ht, hfirst]
        rfl
  · intro next gaveWay
    refine ⟨fun n hk hreq => ?_, fun t pos found hk hreq hf => ?_, fun t pos pos' hk hf => ?_, fun id part hk hreq => ?_⟩
    · show Host.Outcome.next s.readLogGrant = _
      rw [State.readLogGrant_of hw hk, State.readReply_attached (code := 0x50#8) hatt ?_, State.readEnds_eq]
      · rfl
      · exact (congrArg PortState.request (State.setPort_port_same ..)).trans hreq
    · show Host.Outcome.next s.seekLogStep = _
      rw [State.seekLogStep_done hw hk hf, State.readReply_attached (code := 0x51#8) hatt ?_, State.readEnds_eq,
        Store.seekPayload_eq, ← Store.seekCursor_eq]
      · rfl
      · exact (congrArg PortState.request (State.setPort_port_same ..)).trans hreq
    · show Host.Outcome.next s.seekLogStep = _
      rw [State.seekLogStep_more hw hk hf, State.stepEnds_eq]
      rfl
    · show Host.Outcome.next s.readJournalGrant = _
      rw [State.readJournalGrant_of hw hk, State.readReply_attached (code := 0x53#8) hatt ?_, State.readEnds_eq]
      · rfl
      · exact hreq

end Sys2Proof.Machine

end

section
/-! PROOFS. The requests of the record memory (O55). -/

namespace Sys2Proof.Machine

-- one theorem at a time: many elaborated side by side would take a thread and its stack each
set_option Elab.async false

/-! ### READ_LOG, SEEK_LOG and READ_JOURNAL (R152, R153, R158) -/

/-- What a READ_LOG returns rests on the store and the cursor alone. -/
theorem State.logFor_congr {s t : State} {p : Port} (hst : t.store = s.store) (hc : (t.port p).cursor = (s.port p).cursor)
    (n : Nat) : t.logFor p n = s.logFor p n := by
  rw [State.logFor, State.logFor, hst, hc]

theorem State.logPayload_congr {s t : State} {p : Port} (hst : t.store = s.store)
    (hc : (t.port p).cursor = (s.port p).cursor) (hl : (t.port p).lost = (s.port p).lost) (n : Nat) :
    t.logPayload p n = s.logPayload p n := by
  rw [State.logPayload, State.logPayload, State.lostReported, State.lostReported, State.logFor_congr hst hc, hl]

section
variable {s : State} {p : Port}

theorem readLog_refused {n : Byte} (h : n.toNat = 0 ∨ 7 < n.toNat) :
    readLog p [n] s = (s, some ⟨.badArgument, []⟩) := by
  simp only [readLog, parseByte, if_pos h, refuse]

theorem readLog_waits {n : Byte} (h : ¬(n.toNat = 0 ∨ 7 < n.toNat)) (hin : s.store.inBuffer (s.port p).cursor = false) :
    readLog p [n] s = (s.waitRead p (.readLog n.toNat), none) := by
  simp only [readLog, parseByte, if_neg h, hin, hold, Bool.false_eq_true, if_false]

theorem readLog_buffer {n : Byte} (h : ¬(n.toNat = 0 ∨ 7 < n.toNat)) (hin : s.store.inBuffer (s.port p).cursor = true) :
    readLog p [n] s = (s.logRead p n.toNat, some ⟨.ok, s.logPayload p n.toNat⟩) := by
  simp only [readLog, parseByte, if_neg h, hin, ok, if_true]

theorem seekLog_waits {a b c d : Byte} (h : s.store.inBuffer s.store.firstSeq = false) : seekLog p [a, b, c, d] s =
    (s.waitRead p (.seekLog (word32 a b c d) s.store.firstSeq), none) := by
  simp only [seekLog, parseFour, h, hold, Bool.false_eq_true, if_false]
  rfl

theorem seekLog_buffer {a b c d : Byte} (h : s.store.inBuffer s.store.firstSeq = true) : seekLog p [a, b, c, d] s =
    (s.seekDone p (s.store.seekBuffer (word32 a b c d) s.store.firstSeq),
      some ⟨.ok, s.store.seekPayload (s.store.seekBuffer (word32 a b c d) s.store.firstSeq)⟩) := by
  simp only [seekLog, parseFour, h, ok, if_true]
  rfl

end

/-- A read joins the waiting reads, a request in service. -/
theorem State.serve_waits {s : State} {p : Port} {code : Byte} {payload : List Byte}
    {body : State → State × Option Answer} {kind : ReadKind} (ht : s.takes p code payload = true)
    (hb : body ((s.arrived p payload).serving p code) =
      (((s.arrived p payload).serving p code).waitRead p kind, none)) :
    s.serve p code payload body = ((s.arrived p payload).setStore { s.store with
      reads := s.store.reads ++ [⟨p, true, kind⟩] }).serving p code := by
  rw [State.serve_of_hold (fun u => u.waitRead p kind) ht hb rfl, State.waitRead, State.arrived_store]

theorem State.serving_cursor (s : State) (p : Port) (payload : List Byte) (code : Byte) :
    (((s.arrived p payload).serving p code).port p).cursor = (s.port p).cursor ∧
      (((s.arrived p payload).serving p code).port p).lost = (s.port p).lost := by
  rw [State.serving_port]
  exact s.arrived_cursor p payload

/-! ### ERASE_LOG (R155) -/

theorem State.endEraseLog_view (s : State) : ∃ active cur, s.endEraseLog =
    s.setStore { s.store with eraseLogActive := active, logCur := cur } := by
  unfold State.endEraseLog
  split
  · exact ⟨_, _, rfl⟩
  · exact ⟨s.store.eraseLogActive, s.store.logCur, rfl⟩

/-- The erases waiting once ERASE_LOG has been taken (R155). -/
def Store.erasesAsked (st : Store) : List EraseRequest :=
  let kept := { st with erases := st.erases.filter fun q => decide (q.purpose ≠ ErasePurpose.logAhead) }
  kept.erases ++ kept.eraseLogRequests

/-- What ERASE_LOG leaves in the store. -/
theorem State.eraseLogTaken_view (s : State) : ∃ active cur ps, s.eraseLogTaken = { s with
    ports := ps
    store := { s.store with
      buffer := [], firstSeq := s.store.nextSeq, erases := s.store.erasesAsked, eraseLogActive := active
      logCur := cur } } := by
  obtain ⟨ps, hadv⟩ := (s.setStore { s.store with buffer := [] }).advanceFirst_view s.store.nextSeq
  have hask := State.endEraseLog_view (((s.setStore { s.store with buffer := [] }).advanceFirst s.store.nextSeq).setStore
    { s.store with buffer := [], firstSeq := s.store.nextSeq, erases := s.store.erasesAsked, eraseLogActive := true })
  obtain ⟨active, cur, hend⟩ := hask
  refine ⟨active, cur, ps, ?_⟩
  rw [hadv] at hend
  unfold State.eraseLogTaken State.askEraseLog
  rw [hadv]
  exact hend

section
variable (s : State)

theorem State.advanceFirst_slots (new : Word32) : s.SlotsStay (s.advanceFirst new) :=
  .trans (t := s.setStore { s.store with firstSeq := new }) .of_ports
    (((State.dragPort_slots _ _ _ _).trans (State.dragPort_slots _ _ _ _)).trans (State.dragPort_slots _ _ _ _))

theorem State.eraseLogTaken_ports : s.eraseLogTaken.ports =
    ((s.setStore { s.store with buffer := [] }).advanceFirst s.store.nextSeq).ports := by
  unfold State.eraseLogTaken State.askEraseLog
  obtain ⟨active, cur, h⟩ := State.endEraseLog_view (((s.setStore { s.store with buffer := [] }).advanceFirst
    s.store.nextSeq).setStore { ((s.setStore { s.store with buffer := [] }).advanceFirst s.store.nextSeq).store with
      erases := ((s.setStore { s.store with buffer := [] }).advanceFirst s.store.nextSeq).store.erasesAsked
      eraseLogActive := true })
  exact (congrArg State.ports h).trans rfl

theorem State.eraseLogTaken_slots : s.SlotsStay s.eraseLogTaken :=
  .trans (.trans (t := s.setStore { s.store with buffer := [] }) .of_ports (State.advanceFirst_slots _ s.store.nextSeq))
    (.of_ports s.eraseLogTaken_ports)

theorem State.eraseLogTaken_port (hready : s.phase = .ready) (q : Port) : s.eraseLogTaken.port q =
    (s.port q).dragged s.backup.clock s.store.firstSeq s.store.nextSeq :=
  (congrArg (Ports.get · q) s.eraseLogTaken_ports).trans
    (State.advanceFirst_port (s := s.setStore { s.store with buffer := [] }) hready s.store.nextSeq q)

end

/-- A port whose cursor lay behind, in full (R145). -/
theorem PortState.dragged_eq (x : PortState) (now old new : Word32) : x.dragged now old new = if behind old new x.cursor
    then { x with
      cursor := new, lost := min 4294967295 (x.lost + (new - x.cursor).toNat)
      events := if x.enables.getLsbD 3 then addEvent now .logLost x.events else x.events }
    else x := by
  unfold PortState.dragged
  split
  · rw [PortState.record_eq, saturate_eq_min]
    rfl
  · rfl

/-- Two ports alike in what an advance of first_seq looks at. -/
def PortState.sameReader (x y : PortState) : Prop :=
  x.cursor = y.cursor ∧ x.lost = y.lost ∧ x.events = y.events ∧ x.enables = y.enables

theorem PortState.sameReader.refl (x : PortState) : x.sameReader x := ⟨rfl, rfl, rfl, rfl⟩

theorem State.arrived_cursors (s : State) (p : Port) (payload : List Byte) :
    ((s.arrived p payload).port p).sameReader (s.port p) := by
  rw [State.arrived_port_same]
  split <;> exact ⟨rfl, rfl, rfl, rfl⟩

/-- What an advance of first_seq leaves of a port's cursor, lost count and events. -/
theorem PortState.dragged_fields {x y : PortState} (h : x.sameReader y) (now old new : Word32) :
    (behind old new y.cursor = false → (x.dragged now old new).cursor = y.cursor ∧ (x.dragged now old new).lost = y.lost ∧
      (x.dragged now old new).events = y.events) ∧
    (behind old new y.cursor = true → (x.dragged now old new).cursor = new ∧
      (x.dragged now old new).lost = min 4294967295 (y.lost + (new - y.cursor).toNat) ∧
      (x.dragged now old new).events = if y.enables.getLsbD 3 then addEvent now .logLost y.events else y.events) := by
  obtain ⟨hc, hl, he, hen⟩ := h
  rw [PortState.dragged_eq, hc]
  refine ⟨fun hb => ?_, fun hb => ?_⟩
  · rw [if_neg (by simp [hb])]
    exact ⟨hc, hl, he⟩
  · rw [if_pos hb]
    exact ⟨rfl, by rw [hl], by rw [hen, he]⟩

section
variable (st : Store)

/-- ERASE_LOG takes every block of the LOG region in its order. -/
theorem Store.mem_eraseLogOrder {b : Nat} (hlo : 38 ≤ b) (hhi : b ≤ 1023) : b ∈ st.eraseLogOrder := by
  unfold Store.eraseLogOrder
  split
  · simp only [Region.blocks, Region.first, Region.last, List.mem_range'_1]
    omega
  · next c _ =>
    simp only [Region.after, Region.first, Region.last, List.mem_append, List.mem_range'_1, List.mem_singleton]
    omega

theorem Store.eraseLogRequest_retiring {b : Nat} {j : EraseJob} (hc : st.channel = .erasing j)
    (hj : j.request = ⟨b, .retire⟩) : st.eraseLogRequest b = none := by
  simp [Store.eraseLogRequest, hc, Channel.erase?, hj]

theorem Store.eraseLogRequest_bad {b : Nat} (h : st.flash.headerOf b = .bad) : st.eraseLogRequest b = none := by
  simp [Store.eraseLogRequest, h]

theorem Channel.erase?_eq {c : Channel} {q : EraseRequest} (h : c.erase? = some q) : ∃ j, c = .erasing j ∧ j.request = q := by
  cases c with
  | erasing j => exact ⟨j, rfl, Option.some.inj h⟩
  | free | searched _ | programming _ _ => cases h

theorem Store.eraseLogRequest_some {b : Nat} (hr : ¬∃ j, st.channel = .erasing j ∧ j.request = ⟨b, .retire⟩)
    (h : st.flash.headerOf b ≠ .bad) : ∃ p, st.eraseLogRequest b = some ⟨b, p⟩ ∧
      ∀ n first, st.flash.headerOf b = .inUse n first → b ∈ st.bad → p = .retire := by
  have hno : ¬st.channel.erase? = some ⟨b, .retire⟩ := fun he => hr (Channel.erase?_eq he)
  unfold Store.eraseLogRequest
  rw [if_neg hno]
  cases hh : st.flash.headerOf b with
  | erased => exact ⟨.eraseLog, rfl, nofun⟩
  | inUse n first => exact ⟨_, rfl, fun _ _ _ hb => if_pos hb⟩
  | bad => exact absurd hh h
  | garbled => exact ⟨.eraseLog, rfl, nofun⟩

theorem Store.eraseLogRequest_purpose {b : Nat} {q : EraseRequest} (h : st.eraseLogRequest b = some q) :
    q.purpose ≠ .logAhead := by
  unfold Store.eraseLogRequest at h
  split at h
  · cases h
  · cases hh : st.flash.headerOf b with
    | erased | garbled =>
      simp only [hh, Option.some.injEq] at h
      subst h
      simp
    | bad => simp [hh] at h
    | inUse n first =>
      simp only [hh, Option.some.injEq] at h
      subst h
      split <;> simp

theorem Store.mem_erasesAsked (q : EraseRequest) : q ∈ st.erasesAsked ↔
    (q ∈ st.erases ∧ q.purpose ≠ .logAhead) ∨ (q.block ∈ st.eraseLogOrder ∧ st.eraseLogRequest q.block = some q ∧
      ∀ x ∈ st.erases, x.purpose ≠ .logAhead → x.block ≠ q.block) := by
  have hreq : q ∈ ({ st with erases := st.erases.filter fun q => decide (q.purpose ≠ ErasePurpose.logAhead) }
      : Store).eraseLogRequests ↔ q.block ∈ st.eraseLogOrder ∧ st.eraseLogRequest q.block = some q ∧
        ∀ x ∈ st.erases, x.purpose ≠ .logAhead → x.block ≠ q.block := by
    rw [Store.mem_eraseLogRequests]
    simp only [List.mem_filter, decide_eq_true_eq, and_imp]
    exact Iff.rfl
  rw [Store.erasesAsked, List.mem_append, hreq, List.mem_filter, decide_eq_true_eq]

/-- Every LOG block that ERASE_LOG is to erase has its erase waiting, a retirement for a BAD one in use. -/
theorem Store.erasesAsked_block {b : Nat} (hlo : 38 ≤ b) (hhi : b ≤ 1023) (h : st.flash.headerOf b ≠ .bad)
    (hr : ¬∃ j, st.channel = .erasing j ∧ j.request = ⟨b, .retire⟩) :
    ∃ q ∈ st.erasesAsked, q.block = b ∧ (q ∈ st.erases ∨
      ∀ n first, st.flash.headerOf b = .inUse n first → b ∈ st.bad → q.purpose = .retire) := by
  by_cases hwaits : ∃ x ∈ st.erases, x.purpose ≠ .logAhead ∧ x.block = b
  · obtain ⟨x, hx, hp, hb⟩ := hwaits
    exact ⟨x, (st.mem_erasesAsked x).2 (.inl ⟨hx, hp⟩), hb, .inl hx⟩
  · obtain ⟨p, hreq, hp⟩ := st.eraseLogRequest_some hr h
    refine ⟨⟨b, p⟩, (st.mem_erasesAsked _).2 (.inr ⟨st.mem_eraseLogOrder hlo hhi, hreq, fun x hx hxp hxb => ?_⟩), rfl,
      .inr hp⟩
    exact hwaits ⟨x, hx, hxp, hxb⟩

theorem Store.erasesAsked_none {b : Nat} (h : st.eraseLogRequest b = none) (hno : ∀ q ∈ st.erases, q.block ≠ b) :
    ∀ q ∈ st.erasesAsked, q.block ≠ b := by
  rintro q hq rfl
  rcases (st.mem_erasesAsked q).1 hq with ⟨hmem, -⟩ | ⟨-, hreq, -⟩
  · exact hno q hmem rfl
  · rw [h] at hreq
    cases hreq

theorem Store.erasesAsked_purpose {q : EraseRequest} (h : q ∈ st.erasesAsked) : q.purpose ≠ .logAhead := by
  rcases (st.mem_erasesAsked q).1 h with ⟨-, hp⟩ | ⟨-, hreq, -⟩
  · exact hp
  · exact st.eraseLogRequest_purpose hreq

end

section
variable {s : State}

theorem eraseLog_busy (h : s.store.eraseLogActive = true) : eraseLog [] s = (s, some ⟨.busy, []⟩) := by
  simp [eraseLog, parseEmpty, h, refuse]

theorem eraseLog_degraded (h : s.store.eraseLogActive = false) (hd : s.store.degraded = true) :
    eraseLog [] s = (s, some ⟨.storeFault, []⟩) := by
  simp [eraseLog, parseEmpty, h, hd, refuse]

theorem eraseLog_taken (h : s.store.eraseLogActive = false) (hd : s.store.degraded = false) :
    eraseLog [] s = (s.eraseLogTaken, some ⟨.ok, leWord s.store.nextSeq⟩) := by
  simp [eraseLog, parseEmpty, h, hd, ok]

/-! ### SAVE_CONFIG and WRITE_IDENT (R188, R190) -/

theorem saveConfig_degraded (hd : s.store.degraded = true) : saveConfig [] s = (s, some ⟨.storeFault, []⟩) := by
  simp [saveConfig, parseEmpty, hd, refuse]

variable (hd : s.store.degraded = false)
include hd

theorem saveConfig_busy (h : s.store.class4.any Class4.isSave = true) :
    saveConfig [] s = (s, some ⟨.busy, []⟩) := by
  simp only [saveConfig, parseEmpty, hd, h, refuse, Bool.false_eq_true, if_false, if_true]

theorem saveConfig_taken (h : s.store.class4.any Class4.isSave = false) :
    saveConfig [] s = (s.addWork (.save s.cfg 0 false 1 0), some ⟨.ok, []⟩) := by
  simp only [saveConfig, parseEmpty, hd, h, ok, Bool.false_eq_true, if_false]

end

theorem identFits_iff (chars : List Byte) : identFits chars = true ↔
    chars.length = 16 ∧ ∀ b ∈ chars, 0x20 ≤ b.toNat ∧ b.toNat ≤ 0x7E := by
  simp only [identFits, Bool.and_eq_true, decide_eq_true_eq, List.all_eq_true, BitVec.le_def]
  exact Iff.rfl

section
variable {s : State} {p : Port} {pl : List Byte}

theorem writeIdent_misfit (h : identFits pl = false) : writeIdent p pl s = (s, some ⟨.badArgument, []⟩) := if_pos h

variable (hf : identFits pl = true)
include hf

theorem writeIdent_state (h : s.maintClosed = false ∨ s.store.flash.identifier.isSome = true) :
    writeIdent p pl s = (s, some ⟨.wrongState, []⟩) := by
  unfold writeIdent
  rw [if_neg (by simp [hf])]
  by_cases hm : s.maintClosed = false
  · rw [if_pos hm, refuse]
  · rw [if_neg hm, if_pos (h.resolve_left hm), refuse]

variable (hm : s.maintClosed = true) (hi : s.store.flash.identifier = none)
include hm hi

theorem writeIdent_busy (hb : s.store.class4.any Class4.isIdent = true) :
    writeIdent p pl s = (s, some ⟨.busy, []⟩) := by
  unfold writeIdent
  rw [if_neg (by simp [hf]), if_neg (by simp [hm]), if_neg (by simp [hi]), if_pos hb, refuse]

variable (hb : s.store.class4.any Class4.isIdent = false)
include hb

theorem writeIdent_degraded (hd : s.store.degraded = true) : writeIdent p pl s = (s, some ⟨.storeFault, []⟩) := by
  unfold writeIdent
  rw [if_neg (by simp [hf]), if_neg (by simp [hm]), if_neg (by simp [hi]), if_neg (by simp [hb]), if_pos hd, refuse]

theorem writeIdent_taken (hd : s.store.degraded = false) :
    writeIdent p pl s = (s.addWork (.ident pl 0 (some p)), none) := by
  unfold writeIdent
  rw [if_neg (by simp [hf]), if_neg (by simp [hm]), if_neg (by simp [hi]), if_neg (by simp [hb]), if_neg (by simp [hd]),
    hold]

end

/-! ### The obligation -/

section
variable {s : State} {p : Port}

theorem exec_readLog {n : Byte} (ht : s.takes p 0x50#8 [n] = true) :
    (n.toNat = 0 ∨ 7 < n.toNat →
      exec (.readLog p [n]) s = .next ((s.arrived p [n]).answered p 0x50#8 .badArgument [])) ∧
    (1 ≤ n.toNat → n.toNat ≤ 7 → s.store.inBuffer (s.port p).cursor = false →
      exec (.readLog p [n]) s = .next (((s.arrived p [n]).setStore { s.store with
        reads := s.store.reads ++ [⟨p, true, .readLog n.toNat⟩] }).serving p 0x50#8)) ∧
    (1 ≤ n.toNat → n.toNat ≤ 7 → s.store.inBuffer (s.port p).cursor = true →
      exec (.readLog p [n]) s = .next (((s.arrived p [n]).setPort p { (s.arrived p [n]).port p with
        cursor := (s.logFor p n.toNat).cursor, lost := 0 }).answered p 0x50#8 .ok (s.logPayload p n.toNat))) := by
  obtain ⟨hcursor, hlost⟩ := s.serving_cursor p [n] 0x50#8
  have hstore : ((s.arrived p [n]).serving p 0x50#8).store = s.store := by simp
  refine ⟨fun h => ?_, fun hlo hhi hin => ?_, fun hlo hhi hin => ?_⟩
  · exact congrArg _ (State.serve_of_answer (a := ⟨.badArgument, []⟩) ht (readLog_refused h))
  · exact congrArg _ (State.serve_waits ht (readLog_waits (by omega) (by rw [hstore, hcursor]; exact hin)))
  · refine congrArg _ (State.serve_of_port (a := ⟨.ok, s.logPayload p n.toNat⟩) ht
      ((readLog_buffer (by omega) (by rw [hstore, hcursor]; exact hin)).trans ?_))
    rw [State.logRead, State.logFor_congr hstore hcursor, State.logPayload_congr hstore hcursor hlost, State.serving_port]

theorem exec_seekLog_buffer {a b c d : Byte} (ht : s.takes p 0x51#8 [a, b, c, d] = true)
    (h : s.store.inBuffer s.store.firstSeq = true) : exec (.seekLog p [a, b, c, d]) s =
      .next (((s.arrived p [a, b, c, d]).setPort p { (s.arrived p [a, b, c, d]).port p with
        cursor := s.store.seekCursor (s.store.seekBuffer (word32 a b c d) s.store.firstSeq) }).answered p 0x51#8 .ok
          (s.store.seekPayload (s.store.seekBuffer (word32 a b c d) s.store.firstSeq))) := by
  have hstore : ((s.arrived p [a, b, c, d]).serving p 0x51#8).store = s.store := by simp
  refine congrArg _ (State.serve_of_port
    (a := ⟨.ok, s.store.seekPayload (s.store.seekBuffer (word32 a b c d) s.store.firstSeq)⟩) ht
    ((seekLog_buffer (by rw [hstore]; exact h)).trans ?_))
  rw [hstore, State.seekDone, hstore, State.serving_port]

/-- An ERASE_LOG taken, and the ports it leaves (R145, R155). -/
theorem exec_eraseLog_taken (ht : s.takes p 0x54#8 [] = true) (ha : s.store.eraseLogActive = false)
    (hd : s.store.degraded = false) : ∃ (t : State) (active : Bool) (cur : Option CurrentBlock),
      exec (.eraseLog p []) s = .next t ∧
      t = { s with run := (s.arrived p []).run, ports := t.ports, store := { s.store with
        buffer := [], firstSeq := s.store.nextSeq, erases := s.store.erasesAsked, eraseLogActive := active
        logCur := cur } } ∧
      (∀ q, q ≠ p → t.port q = (s.port q).dragged s.backup.clock s.store.firstSeq s.store.nextSeq) ∧
      t.port p = { ((s.arrived p []).port p).dragged s.backup.clock s.store.firstSeq s.store.nextSeq with
        request := none, reply := some ⟨.ok, 0x54#8, leWord s.store.nextSeq, false⟩ } := by
  obtain ⟨ps, run, harr⟩ := s.arrived_view p []
  let u := (s.arrived p []).serving p 0x54#8
  have hready : u.phase = .ready := by simpa [u] using State.ready_of_takes ht (by decide)
  have hstore : u.store = s.store := by simp [u]
  have hclock : u.backup.clock = s.backup.clock := by simp [u]
  have hport (q : Port) : u.eraseLogTaken.port q =
      (u.port q).dragged s.backup.clock s.store.firstSeq s.store.nextSeq := by
    rw [u.eraseLogTaken_port hready, hstore, hclock]
  have hdone : exec (.eraseLog p []) s = .next (u.eraseLogTaken.answered p 0x54#8 .ok (leWord s.store.nextSeq)) := by
    refine congrArg _ (State.serve_of_slots (body := eraseLog []) (a := ⟨.ok, leWord s.store.nextSeq⟩) ht
      ((eraseLog_taken (hstore ▸ ha) (hstore ▸ hd)).trans ?_) u.eraseLogTaken_slots)
    rw [hstore]
  obtain ⟨active, cur, ps', hview⟩ := u.eraseLogTaken_view
  refine ⟨_, active, cur, hdone, ?_, fun q hq => ?_, ?_⟩
  · have hu : u = { s with ports := u.ports, run := run } := by
      simp only [u, harr]
      rfl
    rw [hview, hu, harr]
    rfl
  · rw [State.answered_other _ _ _ _ _ _ hq, hport q]
    have hq' : u.port q = s.port q := by
      rw [State.serving_port_other _ _ hq]
      exact State.arrived_port_other _ _ _ _ hq
    rw [hq']
  · have hp : u.port p = { (s.arrived p []).port p with request := some 0x54#8, reply := none } := by
      rw [State.serving_port]
    rw [State.answered_port, hport p, hp, PortState.dragged_eq, PortState.dragged_eq]
    dsimp only
    split <;> rfl

end

/-- Settles O55: each request by its block, ERASE_LOG by what it asks for and by the cursors it drags. -/
theorem recordMemoryTakesItsRequests : Obligations.RecordMemoryTakesItsRequests := by
  refine ⟨fun p n s ht => exec_readLog ht, fun p a b c d s ht h => ?_, fun p a b c d s ht h => ?_,
    fun p a b n s ht => ?_, fun p s ht => ⟨fun ha => ?_, fun ha hd => ?_, fun first next cursor => rfl, fun ha hd => ?_⟩,
    fun p s ht => ⟨fun hd => ?_, fun hd hb => ?_, fun hd hb => ?_⟩, ?_⟩
  · have hstore : ((s.arrived p [a, b, c, d]).serving p 0x51#8).store = s.store := by simp
    refine congrArg _ (State.serve_waits ht ((seekLog_waits (by rw [hstore]; exact h)).trans ?_))
    rw [hstore]
  · intro found
    refine (exec_seekLog_buffer ht h).trans ?_
    rw [Store.seekCursor_eq, Store.seekPayload_eq]
    rfl
  · exact congrArg _ (State.serve_waits (body := readJournal p _) ht rfl)
  · exact congrArg _ (State.serve_of_answer (a := ⟨.busy, []⟩) ht (eraseLog_busy (by simpa using ha)))
  · exact congrArg _ (State.serve_of_answer (a := ⟨.storeFault, []⟩) ht
      (eraseLog_degraded (by simpa using ha) (by simpa using hd)))
  · obtain ⟨t, active, cur, hdone, hs, hother, hport⟩ := exec_eraseLog_taken ht ha hd
    have hst : t.store = { s.store with
        buffer := [], firstSeq := s.store.nextSeq, erases := s.store.erasesAsked, eraseLogActive := active
        logCur := cur } := (congrArg State.store hs).trans rfl
    have herases : t.store.erases = s.store.erasesAsked := congrArg Store.erases hst
    refine ⟨t, hdone, hs.trans (by rw [hst]), congrArg Store.buffer hst, congrArg Store.firstSeq hst,
      (congrArg Store.nextSeq hst).trans rfl, (congrArg Store.flash hst).trans rfl, (congrArg Store.journalQueue hst).trans rfl,
      fun b hlo hhi => ⟨fun hb hr => ?_, fun n first hb hbad hr => ?_, fun h hno => ?_⟩, fun q hq => ?_, fun q => ?_, ?_, ?_⟩
    · obtain ⟨q, hq, hqb, -⟩ := s.store.erasesAsked_block hlo hhi hb hr
      exact ⟨q, herases ▸ hq, hqb⟩
    · obtain ⟨q, hq, hqb, hmem⟩ := s.store.erasesAsked_block hlo hhi (by simp [hb]) hr
      exact ⟨q, herases ▸ hq, hqb, hmem.imp_right fun h => h n first hb hbad⟩
    · rw [herases]
      refine s.store.erasesAsked_none ?_ hno
      rcases h with h | ⟨j, hc, hj⟩
      · exact s.store.eraseLogRequest_bad h
      · exact s.store.eraseLogRequest_retiring hc hj
    · rw [herases] at hq
      exact s.store.erasesAsked_purpose hq
    · by_cases hq : q = p
      · subst hq
        obtain ⟨hfalse, htrue⟩ := PortState.dragged_fields (s.arrived_cursors q []) s.backup.clock s.store.firstSeq
          s.store.nextSeq
        refine ⟨fun hb => ?_, fun hb => ?_, fun hne => absurd rfl hne⟩ <;> rw [hport]
        · exact hfalse hb
        · exact htrue hb
      · obtain ⟨hfalse, htrue⟩ := PortState.dragged_fields (.refl (s.port q)) s.backup.clock s.store.firstSeq
          s.store.nextSeq
        refine ⟨fun hb => ?_, fun hb => ?_, fun _ => ?_⟩ <;> rw [hother q hq]
        · exact hfalse hb
        · exact htrue hb
        · rw [PortState.dragged_eq]
          split <;> rfl
    · rw [hport]
    · rw [hport]
  · exact congrArg _ (State.serve_of_answer (a := ⟨.storeFault, []⟩) ht (saveConfig_degraded (by simpa using hd)))
  · exact congrArg _ (State.serve_of_answer (a := ⟨.busy, []⟩) ht (saveConfig_busy (by simpa using hd) (by simpa using hb)))
  · have hcfg : ((s.arrived p []).serving p 0x62#8).cfg = s.cfg := by simp
    refine congrArg _ ((State.serve_of_change (fun u => u.addWork (.save s.cfg 0 false 1 0)) (a := ⟨.ok, []⟩) ht
      ((saveConfig_taken (by simpa using hd) (by simpa using hb)).trans (by rw [hcfg])) rfl).trans ?_)
    simp only [State.addWork, State.arrived_store]
  · intro p pl closed s ht x fits refused
    have hfits : fits ↔ identFits pl = true := (identFits_iff pl).symm
    let u := x.serving p 0x64#8
    have hmaint : u.maintClosed = closed := by simp [u, x, State.withMaint]
    have hstore : u.store = s.store := by simp [u, x, State.withMaint]
    have hrefuse {st : Status} (hb : writeIdent p pl u = (u, some ⟨st, []⟩)) : refused st :=
      congrArg _ (State.serve_of_answer (a := ⟨st, []⟩) ht hb)
    refine ⟨fun hf => hrefuse (writeIdent_misfit (Bool.eq_false_iff.2 (mt hfits.2 hf))),
      fun hf h => hrefuse (writeIdent_state (hfits.1 hf) (by rw [hmaint, hstore]; exact h)),
      fun hf hm hi hb => hrefuse (writeIdent_busy (hfits.1 hf) (hmaint.trans hm) (hstore ▸ hi) (hstore ▸ hb)),
      fun hf hm hi hb hd => hrefuse (writeIdent_degraded (hfits.1 hf) (hmaint.trans hm) (hstore ▸ hi) (hstore ▸ hb)
        (hstore ▸ hd)), fun hf hm hi hb hd => ?_⟩
    have hx : x.store = s.store := hstore
    refine congrArg _ ((State.serve_of_hold (fun u => u.addWork (.ident pl 0 (some p))) ht
      (writeIdent_taken (hfits.1 hf) (hmaint.trans hm) (hstore ▸ hi) (hstore ▸ hb) (hstore ▸ hd)) rfl).trans ?_)
    show (x.addWork _).serving p 0x64#8 = _
    rw [State.addWork, hx]

end Sys2Proof.Machine

end

section
/-! PROOFS. The channel's arbiter and the grants of programs (O52). -/

namespace Sys2Proof.Machine

-- one theorem at a time: many elaborated side by side would take a thread and its stack each
set_option Elab.async false

/-! ### When a region has a place (R138, R143, R156) -/

section
variable (st : Store) (r : Region) (cur : Option CurrentBlock) (need : Nat)

/-- The current block of a region has room for a number of units. -/
def Store.room : Prop := ∃ c, cur = some c ∧ c.block ∉ st.bad ∧ c.next + need ≤ 256

/-- The next block of a region is prepared for a number of units. -/
def Store.prepared : Prop := ∃ b u, r.next st.bad (cur.map CurrentBlock.block) = some b ∧ st.flash.headerOf b = .erased ∧
  (∀ q ∈ st.erases, q.block ≠ b) ∧ 1 ≤ u ∧ u + need ≤ 256 ∧ st.flash.read (256 * b + u) = none ∧
  ∀ x, 1 ≤ x → x < u → st.flash.read (256 * b + x) ≠ none

theorem Flash.firstErased_unique {f : Flash} {b u : Nat} (hlo : 1 ≤ u) (hhi : u ≤ 255) (hnone : f.read (256 * b + u) = none)
    (hbefore : ∀ x, 1 ≤ x → x < u → f.read (256 * b + x) ≠ none) : f.firstErased b 255 1 = u := by
  obtain ⟨hge, hle, hread, hfirst⟩ := f.firstErased_spec b 255 1
  rcases Nat.lt_trichotomy (f.firstErased b 255 1) u with h | h | h
  · exact absurd (hread (by omega)) (hbefore _ hge h)
  · exact h
  · exact absurd hnone (hfirst u hlo h)

theorem Store.freshPlace_isSome (h : 1 ≤ need) :
    (st.freshPlace r cur need).isSome = true ↔ st.prepared r cur need := by
  rw [Store.freshPlace_isSome_iff]
  constructor
  · rintro ⟨b, hnext, hheader, herases, hroom⟩
    obtain ⟨hge, -, hread, hfirst⟩ := st.flash.firstErased_spec b 255 1
    exact ⟨b, _, hnext, hheader, herases, hge, hroom, hread (by omega), hfirst⟩
  · rintro ⟨b, u, hnext, hheader, herases, hge, hroom, hread, hfirst⟩
    refine ⟨b, hnext, hheader, herases, ?_⟩
    rw [Flash.firstErased_unique hge (by omega) hread hfirst]
    exact hroom

theorem Store.fits_iff (c : CurrentBlock) : st.fits c need = true ↔ c.block ∉ st.bad ∧ c.next + need ≤ 256 := by
  simp [Store.fits]

theorem Store.place_isSome (whole : Nat) (h : 1 ≤ whole) :
    (st.place r cur need whole).isSome = true ↔ st.room cur need ∨ st.prepared r cur whole := by
  rw [Store.place_isSome_iff, st.freshPlace_isSome r cur whole h]
  simp only [Store.room, Store.fits_iff]

end

theorem JournalEntry.units_pos (e : JournalEntry) : 1 ≤ e.units := by
  cases e <;> simp [JournalEntry.units]

section
variable (st : Store)

/-- The append buffer has work ready. -/
def Store.appendReady : Prop := st.degraded = false ∧ st.eraseLogActive = false ∧ st.buffer ≠ [] ∧
  (st.room st.logCur 1 ∨ st.prepared .log st.logCur 1)

/-- The journal queue has work ready. -/
def Store.journalReady : Prop := ∃ q rest, st.journalQueue = q :: rest ∧
  (st.room st.journalCur (q.entry.units - q.done) ∨ st.prepared .journal st.journalCur q.entry.units)

theorem Store.appendPlace_eq : st.appendPlace =
    if st.degraded = false ∧ st.eraseLogActive = false ∧ st.buffer ≠ [] then st.place .log st.logCur 1 1 else none := by
  unfold Store.appendPlace
  cases st.degraded <;> cases st.eraseLogActive <;> cases st.buffer <;> simp

theorem Store.appendPlace_isSome : st.appendPlace.isSome = true ↔ st.appendReady := by
  rw [Store.appendPlace_eq, Store.appendReady]
  split
  · next h => simp only [h, true_and, st.place_isSome .log st.logCur 1 1 (Nat.le_refl 1), ne_eq, not_false_eq_true]
  · next h =>
    refine ⟨nofun, fun ⟨hd, ha, hb, _⟩ => absurd ⟨hd, ha, hb⟩ h⟩

theorem Store.journalPlace_isSome : st.journalPlace.isSome = true ↔ st.journalReady := by
  unfold Store.journalPlace Store.journalReady
  cases hq : st.journalQueue with
  | nil => simp
  | cons q rest =>
    show (st.place .journal st.journalCur (q.entry.units - q.done) q.entry.units).isSome = true ↔ _
    rw [st.place_isSome .journal st.journalCur _ _ q.entry.units_pos]
    constructor
    · exact fun h => ⟨q, rest, rfl, h⟩
    · rintro ⟨q', rest', he, h⟩
      cases he
      exact h

/-! ### The arbiter (R146) -/

theorem Store.freeGrant_read (h : ¬∀ w ∈ st.reads, w.port ∈ st.channel.passed) : st.freeGrant = some .read := by
  rw [← st.firstReads_isEmpty_iff] at h
  exact if_pos (by simpa using h)

variable {st} (hpass : ∀ w ∈ st.reads, w.port ∈ st.channel.passed)
include hpass

/-- With every read given way, the classes in their order. -/
theorem Store.freeGrant_passed : st.freeGrant =
    if st.appendPlace.isSome then some .append
    else if st.journalPlace.isSome then some .journal
    else if st.class4 ≠ [] then some .work
    else if st.erases ≠ [] then some .erase
    else if st.reads = [] then none else some .read := by
  have h := st.firstReads_isEmpty_iff.2 hpass
  unfold Store.freeGrant
  rw [if_neg (by simp [h])]
  cases st.class4 <;> cases st.erases <;> cases st.reads <;> simp

theorem Store.freeGrant_append (h : st.appendReady) : st.freeGrant = some .append := by
  rw [Store.freeGrant_passed hpass, if_pos (st.appendPlace_isSome.2 h)]

variable (ha : ¬st.appendReady)
include ha

theorem Store.freeGrant_journal (h : st.journalReady) : st.freeGrant = some .journal := by
  rw [Store.freeGrant_passed hpass, if_neg (mt st.appendPlace_isSome.1 ha), if_pos (st.journalPlace_isSome.2 h)]

variable (hj : ¬st.journalReady)
include hj

theorem Store.freeGrant_rest : st.freeGrant = if st.class4 ≠ [] then some .work
    else if st.erases ≠ [] then some .erase else if st.reads = [] then none else some .read := by
  rw [Store.freeGrant_passed hpass, if_neg (mt st.appendPlace_isSome.1 ha), if_neg (mt st.journalPlace_isSome.1 hj)]

end

section
variable {s : State}

theorem State.arbiter_starting (h : s.phase ≠ .ready) : s.arbiter = none := if_pos h

theorem State.arbiter_programming {j : ProgramJob} {e : Nat} (h : s.store.channel = .programming j e) :
    s.arbiter = none := by
  unfold State.arbiter
  split
  · rfl
  · simp [h]

theorem State.arbiter_erasing {j : EraseJob} (hp : s.phase = .ready) (h : s.store.channel = .erasing j) :
    s.arbiter = if j.suspended = true ∧ s.store.reads ≠ [] then some .read else none := by
  unfold State.arbiter
  rw [if_neg (by simp [hp])]
  simp only [h]
  cases s.store.reads <;> simp

theorem State.arbiter_free (hp : s.phase = .ready) (h : s.store.channel.isFree = true) : s.arbiter = s.store.freeGrant := by
  unfold State.arbiter
  rw [if_neg (by simp [hp])]
  cases hc : s.store.channel with
  | free | searched ps => rfl
  | programming j e | erasing j => simp [hc, Channel.isFree] at h

/-- The channel grants the buffer only where its record has a place. -/
theorem State.place_of_append (h : s.arbiter = some .append) : s.store.appendReady := by
  have hfree : s.store.freeGrant = some .append := by
    unfold State.arbiter at h
    split at h
    · cases h
    · cases hc : s.store.channel with
      | programming j e => simp [hc] at h
      | erasing j =>
        simp only [hc] at h
        split at h <;> cases h
      | free | searched ps => simpa [hc] using h
  by_cases hpass : ∀ w ∈ s.store.reads, w.port ∈ s.store.channel.passed
  · rw [Store.freeGrant_passed hpass] at hfree
    refine Classical.byContradiction fun hno => ?_
    rw [if_neg (mt s.store.appendPlace_isSome.1 hno)] at hfree
    repeat' split at hfree
    all_goals cases hfree
  · rw [s.store.freeGrant_read hpass] at hfree
    cases hfree

end

/-! ### Places of the grants -/

section
variable {st : Store}

/-- The buffer's oldest record goes where its region has a place. -/
theorem Store.appendPlace_of_ready (h : st.appendReady) : st.appendPlace = st.place .log st.logCur 1 1 := by
  obtain ⟨hd, ha, hb, -⟩ := h
  rw [st.appendPlace_eq, if_pos ⟨hd, ha, hb⟩]

theorem Store.place_room {r : Region} {c : CurrentBlock} {need : Nat} (whole : Nat) (hbad : c.block ∉ st.bad)
    (hroom : c.next + need ≤ 256) : st.place r (some c) need whole = some ⟨c.block, c.next, c.headerDue⟩ :=
  if_pos ((st.fits_iff need c).2 ⟨hbad, hroom⟩)

/-- A full current block sends the unit to the block prepared. -/
theorem Store.place_prepared {r : Region} {c : CurrentBlock} {need whole b u : Nat} (hfull : 256 < c.next + need)
    (hnext : r.next st.bad (some c.block) = some b) (hready : st.blockReady b = true)
    (hu : st.flash.firstErased b 255 1 = u) (hroom : u + whole ≤ 256) :
    st.place r (some c) need whole = some ⟨b, u, true⟩ := by
  have hfits : ¬st.fits c need = true := fun h => absurd ((st.fits_iff need c).1 h).2 (by omega)
  refine (if_neg hfits).trans ?_
  unfold Store.freshPlace
  simp only [Option.map_some, hnext, hready, hu, hroom, decide_true, Bool.and_true, if_true]

theorem advanceBlock_same {c : CurrentBlock} (u : Nat) (h : c.headerDue = false) :
    advanceBlock (some c) ⟨c.block, u, c.headerDue⟩ = { c with next := u + 1 } := by
  refine (if_pos rfl).trans ?_
  rw [← h]

theorem advanceBlock_place (cur : Option CurrentBlock) (pl : Place) :
    (advanceBlock cur pl).block = pl.block ∧ (advanceBlock cur pl).next = pl.unit + 1 := by
  unfold advanceBlock
  split
  · exact ⟨rfl, rfl⟩
  · split
    · next h => exact ⟨h, rfl⟩
    · exact ⟨rfl, rfl⟩

end

/-! ### The grants (R143, R157, R159 to R161) -/

section
variable {s : State}

theorem State.appendGrant_of {r : LogRecord} {rest : List LogRecord} {pl : Place} (h : s.arbiter = some .append)
    (hb : s.store.buffer = r :: rest) (hp : s.store.appendPlace = some pl) : s.appendGrant =
      ((s.startProgram .log pl r.seq (.record r) (.record r)).setStore
        { (s.startProgram .log pl r.seq (.record r) (.record r)).store with
          logCur := some (advanceBlock s.store.logCur pl) }).targetIfNew pl .log .logAhead := by
  simp only [State.appendGrant, if_pos h, hb, hp]
  rfl

theorem State.journalGrant_of {q : QueuedEntry} {rest : List QueuedEntry} {pl : Place} (h : s.arbiter = some .journal)
    (hq : s.store.journalQueue = q :: rest) (hp : s.store.journalPlace = some pl) (hin : pl.withHeader = false) :
    s.journalGrant = { s with store := { s.store with
      channel := .programming ⟨unitAddr pl.block pl.unit, .entry q.entry q.done, none, .entry⟩ 0
      journalCur := some (advanceBlock s.store.journalCur pl) } } := by
  have hq' : q.startIn pl = q := if_neg (by simp [hin])
  simp only [State.journalGrant, if_pos h, State.journalProgram, hq, hp, State.targetIfNew, hin, hq',
    State.startProgram, State.setStore, Bool.false_eq_true, if_false]

theorem State.imageGrant_of {set : RatingSet} {n k : Nat} {begun : Bool} {rest : List Class4} {pl : Place}
    (h : s.arbiter = some .work) (hw : s.store.class4 = .image set n k begun :: rest)
    (hp : s.store.imagePlace begun = some pl) (hin : pl.withHeader = false) :
    s.imageGrant = { s with store := { s.store with
      channel := .programming ⟨unitAddr pl.block pl.unit, imageUnit set n k, none, .image⟩ 0
      ratingCur := some (advanceBlock s.store.ratingCur pl), class4 := .image set n k true :: rest } } := by
  simp only [State.imageGrant, hw, if_pos h, hp, State.setHeadWork, State.startProgram, State.setStore, hin,
    Bool.false_eq_true, if_false]
  rfl

theorem State.saveGrant_unit {cfg : LiveConfig} {place next fails : Nat} {rest : List Class4} (h : s.arbiter = some .work)
    (hw : s.store.class4 = .save cfg place true next fails :: rest) (hn : next ≠ 1) :
    s.saveGrant = { s with store := { s.store with
      channel := .programming ⟨256 + next, configUnit cfg place, none, .save⟩ 0
      class4 := .save cfg place true (next + 1) fails :: rest } } := by
  simp only [State.saveGrant, hw, if_pos h, State.setHeadWork, State.startProgram, State.setStore, hn, decide_false,
    Bool.false_eq_true, if_false, if_true]
  rfl

theorem State.saveGrant_erase {cfg : LiveConfig} {place next fails : Nat} {rest : List Class4} (h : s.arbiter = some .work)
    (hw : s.store.class4 = .save cfg place false next fails :: rest) :
    s.saveGrant = s.startErase ⟨1, .save⟩ [] := by
  simp only [State.saveGrant, hw, if_pos h, Bool.false_eq_true, if_false]
  rfl

/-- The lowest identifier unit that reads erased. -/
theorem Flash.freeIdent_of {f : Flash} {u : Nat} (hlo : 2 ≤ u) (hhi : u ≤ 9) (hnone : f.read u = none)
    (hbefore : ∀ x, 2 ≤ x → x < u → f.read x ≠ none) : f.freeIdent = some u := by
  have hrange : identUnits = List.range' 2 8 := rfl
  rw [Flash.freeIdent, hrange]
  refine List.find?_range'_eq_some.2 ⟨by simpa using hnone, ?_, fun x hx hxu => ?_⟩
  · simp only [List.mem_range'_1]
    omega
  · have hsome := hbefore x hx hxu
    rw [← Option.isSome_iff_ne_none] at hsome
    simp [hsome]

theorem State.identGrant_of {chars : List Byte} {fails u : Nat} {toPort : Option Port} {rest : List Class4}
    (h : s.arbiter = some .work) (hw : s.store.class4 = .ident chars fails toPort :: rest)
    (hu : s.store.flash.freeIdent = some u) : s.identGrant = { s with store := { s.store with
      channel := .programming ⟨unitAddr 0 u, .ident chars, none, .ident⟩ 0 } } := by
  have hgrant : s.identGrant = s.startProgram .ident ⟨0, u, false⟩ 0 (.ident chars) .ident := by
    simp only [State.identGrant, hw, if_pos h, hu]
  exact hgrant.trans rfl

theorem State.work_ungranted (h : s.arbiter ≠ some .work) :
    s.imageGrant = s ∧ s.saveGrant = s ∧ s.identGrant = s := by
  refine ⟨?_, ?_, ?_⟩
  · unfold State.imageGrant
    split
    · exact if_neg h
    · rfl
  · unfold State.saveGrant
    split
    · exact if_neg h
    · rfl
  · unfold State.identGrant
    split
    · exact if_neg h
    · rfl

/-- A target that is not erased has its erase waiting once it is named. -/
theorem State.nameTarget_asked {r : Region} {b t : Nat} (p : ErasePurpose) (hnext : r.next s.store.bad (some b) = some t)
    (hh : s.store.flash.headerOf t ≠ .erased) : ∃ q ∈ (s.nameTarget r b p).store.erases, q.block = t := by
  unfold State.nameTarget
  rw [hnext]
  dsimp only
  rw [if_neg hh, State.requestErase_eq]
  show ∃ q ∈ (if s.store.erases.any (fun x => decide (x.block = t)) then s.store.erases
    else s.store.erases ++ [⟨t, p⟩]), q.block = t
  split
  · next hany =>
    obtain ⟨x, hx, hxb⟩ := List.any_eq_true.1 hany
    exact ⟨x, hx, by simpa using hxb⟩
  · exact ⟨⟨t, p⟩, by simp, rfl⟩

end

/-! ### The obligation -/

/-- Settles O52: the arbiter's classes by what is ready, each grant by its place. -/
theorem grantsStartUnitPrograms : Obligations.GrantsStartUnitPrograms := by
  refine ⟨?_, ?_, ?_, ?_, ?_, ?_, ?_, ?_, fun s h => congrArg Host.Outcome.next (if_neg h),
    fun s h => congrArg Host.Outcome.next (if_neg h), fun s h => ?_⟩
  · intro s room prepared append journal
    have ha : append ↔ s.store.appendReady := Iff.rfl
    have hj : journal ↔ s.store.journalReady := Iff.rfl
    refine ⟨State.arbiter_starting, fun j e h => State.arbiter_programming h, fun j hp h => State.arbiter_erasing hp h,
      fun passed hp hc => ?_⟩
    have hpassed : s.store.channel.passed = passed := by
      rcases hc with hc | ⟨hc, rfl⟩ <;> rw [hc] <;> rfl
    have hfree : s.store.channel.isFree = true := by
      rcases hc with hc | ⟨hc, -⟩ <;> rw [hc] <;> rfl
    rw [State.arbiter_free hp hfree]
    refine ⟨fun ⟨w, hw, hwp⟩ => s.store.freeGrant_read fun hall => hwp (hpassed ▸ hall w hw), fun hall => ?_⟩
    rw [← hpassed] at hall
    refine ⟨fun h => Store.freeGrant_append hall h, fun hna h => Store.freeGrant_journal hall hna h,
      fun hna hnj h => ?_, fun hna hnj hw h => ?_, fun hna hnj hw he => ?_⟩
    · rw [Store.freeGrant_rest hall hna hnj, if_pos h]
    · rw [Store.freeGrant_rest hall hna hnj, if_neg (by simp [hw]), if_pos h]
    · rw [Store.freeGrant_rest hall hna hnj, if_neg (by simp [hw]), if_neg (by simp [he])]
  · intro r rest c s h hb hc hbad hnext hdue job
    have hplace := (Store.appendPlace_of_ready (State.place_of_append h)).trans (hc ▸ Store.place_room 1 hbad (by omega))
    refine congrArg Host.Outcome.next ((State.appendGrant_of h hb hplace).trans ?_)
    rw [hc, advanceBlock_same c.next hdue, State.targetIfNew, if_neg (by simp [hdue])]
    simp only [State.startProgram, hdue, Bool.false_eq_true, if_false]
    rfl
  · intro r rest c b u s h hb hc hfull hbad hnext hheader hlo hread hbefore hhi
    have hready := State.place_of_append h
    have hplace : s.store.appendPlace = some ⟨b, u, true⟩ := by
      rw [Store.appendPlace_of_ready hready, hc]
      obtain ⟨-, -, -, ⟨c', hc', -, hroom⟩ | ⟨b', -, hb', -, herases, -⟩⟩ := hready
      · rw [hc] at hc'
        cases hc'
        omega
      · rw [hc] at hb'
        obtain rfl : b = b' := Option.some.inj (hnext.symm.trans hb')
        refine Store.place_prepared (by omega) hnext ?_ (Flash.firstErased_unique hlo hhi hread hbefore) (by omega)
        simpa [Store.blockReady, hheader] using herases
    let v : State := { s with store := { s.store with
      channel := .programming ⟨256 * b + u, .record r,
        some (.header .log false (s.store.flash.nextUse .log) r.seq), .record r⟩ 0
      logCur := some (advanceBlock s.store.logCur ⟨b, u, true⟩) } }
    have hgrant : s.appendGrant = v.nameTarget .log b .logAhead := (State.appendGrant_of h hb hplace).trans rfl
    obtain ⟨es, hview⟩ := v.nameTarget_view .log b .logAhead
    obtain ⟨hblock, hunit⟩ := advanceBlock_place s.store.logCur ⟨b, u, true⟩
    refine ⟨_, congrArg Host.Outcome.next hgrant, ?_, ?_, ?_, ?_, ?_, fun x hx hxh => State.nameTarget_asked _ hx hxh⟩
    · rw [hview]
      rfl
    · rw [hview]
      rfl
    · rw [hview]
      exact congrArg some (Prod.ext hblock hunit)
    · rw [hview]
      rfl
    · rw [hview]
      rfl
  · intro q rest c s h hq hc hbad hroom hdue job
    have hplace : s.store.journalPlace = some ⟨c.block, c.next, c.headerDue⟩ := by
      unfold Store.journalPlace
      rw [hq, hc]
      exact Store.place_room _ hbad hroom
    refine congrArg Host.Outcome.next ((State.journalGrant_of h hq hplace hdue).trans ?_)
    rw [hc, advanceBlock_same c.next hdue]
    rfl
  · intro set n k begun rest c s h hw hc hbad hroom hdue unit
    have hplace : s.store.imagePlace begun = some ⟨c.block, c.next, c.headerDue⟩ := by
      unfold Store.imagePlace
      rw [hc]
      exact if_pos ((s.store.fits_iff _ c).2 ⟨hbad, hroom⟩)
    refine congrArg Host.Outcome.next ((State.imageGrant_of h hw hplace hdue).trans ?_)
    rw [hc, advanceBlock_same c.next hdue]
    rfl
  · intro cfg place next fails rest s h hw hn unit
    exact congrArg Host.Outcome.next (State.saveGrant_unit h hw hn)
  · intro cfg place next fails rest s h hw
    exact congrArg Host.Outcome.next (State.saveGrant_erase h hw)
  · intro chars fails u toPort rest s h hw hlo hhi hread hbefore
    refine congrArg Host.Outcome.next ((State.identGrant_of h hw (Flash.freeIdent_of hlo hhi hread hbefore)).trans ?_)
    rw [unitAddr, Nat.mul_zero, Nat.zero_add]
  · obtain ⟨himage, hsave, hident⟩ := State.work_ungranted h
    exact ⟨congrArg Host.Outcome.next himage, congrArg Host.Outcome.next hsave, congrArg Host.Outcome.next hident⟩

end Sys2Proof.Machine

end

section
/-! PROOFS. Erases (O54). -/

namespace Sys2Proof.Machine

-- one theorem at a time: many elaborated side by side would take a thread and its stack each
set_option Elab.async false

/-! ### The array (R138) -/

theorem Flash.read_clear (f : Flash) (b a : Nat) : (f.clear b).read a = if a / 256 = b then none else f.read a := by
  induction f with
  | nil => simp [Flash.clear, Flash.read]
  | cons x rest ih =>
    obtain ⟨k, u⟩ := x
    by_cases hk : k / 256 = b
    · have hclear : Flash.clear ((k, u) :: rest) b = Flash.clear rest b :=
        List.filter_cons_of_neg fun h => of_decide_eq_true h hk
      rw [hclear, ih]
      by_cases ha : a / 256 = b
      · rw [if_pos ha, if_pos ha]
      · have hka : k ≠ a := fun h => ha (h ▸ hk)
        rw [if_neg ha, if_neg ha, Flash.read, if_neg hka]
    · have hclear : Flash.clear ((k, u) :: rest) b = (k, u) :: Flash.clear rest b :=
        List.filter_cons_of_pos (decide_eq_true hk)
      rw [hclear, Flash.read, Flash.read, ih]
      by_cases hka : k = a
      · rw [if_pos hka, if_pos hka, if_neg (hka ▸ hk)]
      · rw [if_neg hka, if_neg hka]

/-- A header written into a block is what the block's header reads as. -/
theorem Flash.headerOf_write {f : Flash} {b : Nat} (h : b < 1024) (u : FlashUnit) :
    (f.write (unitAddr b 0) u).headerOf b = match u with
      | .header _ false n first => .inUse n first
      | .header _ true _ _ => .bad
      | _ => .garbled := by
  have hlt : unitAddr b 0 < arraySize := by
    simp only [unitAddr, arraySize]
    omega
  unfold Flash.headerOf
  rw [Flash.read_write _ _ _ _ hlt, if_pos rfl]
  cases u with
  | header r bad n first => cases bad <;> rfl
  | _ => rfl

/-! ### Erases that start (R138, R144, R156) -/

section
variable {st : Store}

/-- first_seq follows the next block after the target that still holds records (R144). -/
theorem Store.firstAfter_block {target b n : Nat} {first : Word32} {pre post : List Nat}
    (hafter : Region.log.after target = pre ++ b :: post) (hpre : ∀ x ∈ pre, x ∈ st.bad ∨ st.flash.inUse x = false)
    (hb : b ∉ st.bad) (hheader : st.flash.headerOf b = .inUse n first) : st.firstAfter target = first := by
  have huse : st.flash.inUse b = true := by simp [Flash.inUse, hheader]
  have hfind : (Region.log.after target).find? (fun b => decide (b ∉ st.bad) && st.flash.inUse b) = some b := by
    rw [hafter]
    refine List.find?_eq_some_iff_append.2 ⟨by simp [hb, huse], pre, post, rfl, fun x hx => ?_⟩
    rcases hpre x hx with h | h <;> simp [h]
  unfold Store.firstAfter
  rw [hfind, Option.bind_some, Flash.firstOf, hheader]

/-- Where no such block is left, it is the current block's first record. -/
theorem Store.firstAfter_current {target n : Nat} {first : Word32} {c : CurrentBlock}
    (hnone : ∀ x ∈ Region.log.after target, x ∈ st.bad ∨ st.flash.inUse x = false) (hc : st.logCur = some c)
    (hheader : st.flash.headerOf c.block = .inUse n first) : st.firstAfter target = first := by
  have hfind : (Region.log.after target).find? (fun b => decide (b ∉ st.bad) && st.flash.inUse b) = none := by
    refine List.find?_eq_none.2 fun x hx => ?_
    rcases hnone x hx with h | h <;> simp [h]
  unfold Store.firstAfter
  rw [hfind, hc, Option.bind_none, Option.bind_some, Flash.firstOf, hheader]

/-- The BAD blocks passed over on the way to a target. -/
theorem Store.passedOver_eq {r : Region} {c : CurrentBlock} {target : Nat} {pre post : List Nat}
    (hafter : r.after c.block = pre ++ target :: post) (hpre : target ∉ pre) : st.passedOver r (some c) target =
      pre.filter fun b => decide (b ∈ st.bad) && st.flash.inUse b := by
  have hway : (r.after c.block).takeWhile (fun b => decide (b ≠ target)) = pre := by
    rw [hafter, List.takeWhile_append_of_pos fun x hx => by simpa using fun h : x = target => hpre (h ▸ hx)]
    simp
  exact congrArg (List.filter _) hway

end

section
variable {s : State}

/-- The channel grants in READY alone. -/
theorem State.ready_of_arbiter {g : Grant} (h : s.arbiter = some g) : s.phase = .ready := by
  refine Classical.byContradiction fun hp => ?_
  rw [State.arbiter_starting hp] at h
  cases h

section
variable {q : EraseRequest} {rest : List EraseRequest} (h : s.arbiter = some .erase) (he : s.store.erases = q :: rest)
include h he

theorem State.eraseAheadStart_log (hp : q.purpose = .logAhead) : s.eraseAheadStart =
    ((s.setStore { s.store with erases := rest }).startErase q
      (s.store.passedOver .log s.store.logCur q.block)).advanceFirst (s.store.firstAfter q.block) := by
  have hahead : s.arbiter = some .erase ∧ q.purpose.isAhead = true := ⟨h, by simp [ErasePurpose.isAhead, hp]⟩
  simp only [State.eraseAheadStart, he, if_pos hahead, if_pos hp]
  rfl

theorem State.eraseAheadStart_journal (hp : q.purpose = .journalAhead) : s.eraseAheadStart =
    (s.setStore { s.store with erases := rest }).startJournalErase q := by
  have hahead : s.arbiter = some .erase ∧ q.purpose.isAhead = true := ⟨h, by simp [ErasePurpose.isAhead, hp]⟩
  have hlog : q.purpose ≠ .logAhead := by simp [hp]
  simp only [State.eraseAheadStart, he, if_pos hahead, if_neg hlog]

theorem State.eraseStart_of : s.eraseStart q.purpose = (s.setStore { s.store with erases := rest }).startErase q [] := by
  simp only [State.eraseStart, he, h, and_self, if_true]

end

theorem State.erase_ungranted (h : s.arbiter ≠ some .erase) (p : ErasePurpose) :
    s.eraseAheadStart = s ∧ s.eraseStart p = s := by
  refine ⟨?_, ?_⟩
  · unfold State.eraseAheadStart
    split
    · rfl
    · exact if_neg fun hc => h hc.1
  · unfold State.eraseStart
    split
    · rfl
    · exact if_neg fun hc => h hc.1

/-! ### Erases that give way and end (R144, R147, R149, R155) -/

section
variable {j : EraseJob} (hc : s.store.channel = .erasing j) (hsus : j.suspended = false)
include hc hsus

theorem State.suspendDue_iff : s.suspendDue = true ↔ 500 ≤ j.since ∧ s.store.reads ≠ [] := by
  simp only [State.suspendDue, hc, hsus, Bool.not_false, Bool.true_and, Bool.and_eq_true, decide_eq_true_eq,
    Bool.not_eq_true', List.isEmpty_eq_false_iff]
  exact Iff.rfl

omit hsus in
theorem State.eraseSuspend_due (h : s.suspendDue = true) : s.eraseSuspend = s.setStore { s.store with
    channel := .erasing { j with suspended := true } } := by
  simp only [State.eraseSuspend, if_pos h, hc]

theorem State.eraseComplete_of (good header : Bool) : s.eraseComplete good header =
    (State.requestRetires (if good then (s.setStore { s.store with channel := .free }).erased j.request header
      else (s.setStore { s.store with channel := .free }).eraseFailed j.request header) j.retire).endEraseLog := by
  simp only [State.eraseComplete, hc, hsus, Bool.false_eq_true, if_false]

end

theorem State.eraseComplete_suspended {j : EraseJob} (hc : s.store.channel = .erasing j) (hsus : j.suspended = true)
    (good header : Bool) : s.eraseComplete good header = s := by
  simp only [State.eraseComplete, hc, hsus, if_true]

end

theorem State.requestRetires_nil (s : State) : s.requestRetires [] = s := by
  unfold State.requestRetires
  split <;> rfl

theorem State.endEraseLog_eq (s : State) : s.endEraseLog = s.setStore { s.store with
    eraseLogActive := s.store.eraseLogActive && decide (s.store.logErasesLeft ≠ 0)
    logCur := if s.store.eraseLogActive = true ∧ s.store.logErasesLeft = 0 then none else s.store.logCur } := by
  unfold State.endEraseLog
  split
  · next h => simp [h]
  · next h =>
    have hactive : (s.store.eraseLogActive && decide (s.store.logErasesLeft ≠ 0)) = s.store.eraseLogActive := by
      cases ha : s.store.eraseLogActive with
      | false => rfl
      | true => simpa [ha] using h
    rw [hactive]
    rfl

theorem State.endEraseLog_idle {s : State} (h : s.store.eraseLogActive = false) : s.endEraseLog = s :=
  if_neg fun hc => Bool.false_ne_true (h.symm.trans hc.1)

theorem State.erases_requestErase (s : State) (q : EraseRequest) : (s.requestErase q).store.erases =
    if s.store.erases.any (fun x => decide (x.block = q.block)) then s.store.erases else s.store.erases ++ [q] := by
  rw [State.requestErase_eq]
  rfl

/-- An erase asked for stands among the requests, with those before it; nothing else has joined them. -/
theorem State.mem_requestErase (s : State) (q x : EraseRequest) : (x ∈ s.store.erases → x ∈ (s.requestErase q).store.erases) ∧
    (x ∈ (s.requestErase q).store.erases → x ∈ s.store.erases ∨ x = q) ∧
    ∃ y ∈ (s.requestErase q).store.erases, y.block = q.block := by
  rw [State.erases_requestErase]
  split
  · next hany =>
    obtain ⟨y, hy, hyq⟩ := List.any_eq_true.1 hany
    exact ⟨id, .inl, y, hy, of_decide_eq_true hyq⟩
  · refine ⟨fun hx => List.mem_append_left _ hx, fun hx => ?_, q, List.mem_append_right _ List.mem_cons_self, rfl⟩
    simpa using hx

/-- The retirements asked for, one by one. -/
theorem State.foldRetires_spec (bs : List Nat) (s : State) : ∃ es,
    bs.foldl (fun s b => s.requestErase ⟨b, .retire⟩) s = s.withErases es ∧ (∀ q ∈ s.store.erases, q ∈ es) ∧
    (∀ b ∈ bs, ∃ q ∈ es, q.block = b) ∧ ∀ q ∈ es, q ∈ s.store.erases ∨ (q.purpose = .retire ∧ q.block ∈ bs) := by
  induction bs generalizing s with
  | nil => exact ⟨s.store.erases, rfl, fun q hq => hq, by simp, fun q hq => .inl hq⟩
  | cons b bs ih =>
    obtain ⟨es₁, hview⟩ := s.requestErase_view ⟨b, .retire⟩
    have hes₁ : (s.requestErase ⟨b, .retire⟩).store.erases = es₁ := by rw [hview]; rfl
    obtain ⟨es, hfold, hkeep, hasked, honly⟩ := ih (s.requestErase ⟨b, .retire⟩)
    refine ⟨es, ?_, fun q hq => hkeep q ((s.mem_requestErase _ q).1 hq), fun x hx => ?_, fun q hq => ?_⟩
    · rw [List.foldl_cons, hfold, hview]
      rfl
    · rcases List.mem_cons.1 hx with rfl | hx
      · obtain ⟨y, hy, hyb⟩ := (s.mem_requestErase ⟨x, .retire⟩ ⟨x, .retire⟩).2.2
        exact ⟨y, hkeep y hy, hyb⟩
      · exact hasked x hx
    · rcases honly q hq with h | ⟨hp, hmem⟩
      · rcases (s.mem_requestErase _ q).2.1 h with h | rfl
        · exact .inl h
        · exact .inr ⟨rfl, List.mem_cons_self⟩
      · exact .inr ⟨hp, List.mem_cons_of_mem _ hmem⟩

/-- What the retirements due after an erase-ahead leave. -/
theorem State.requestRetires_spec (bs : List Nat) (s : State) : ∃ es,
    s.requestRetires bs = s.withErases es ∧ (∀ q ∈ s.store.erases, q ∈ es) ∧
    (s.store.degraded = false → ∀ b ∈ bs, ∃ q ∈ es, q.block = b) ∧
    ∀ q ∈ es, q ∈ s.store.erases ∨ (q.purpose = .retire ∧ q.block ∈ bs) := by
  unfold State.requestRetires
  split
  · next hd => exact ⟨s.store.erases, rfl, fun q hq => hq, fun h => absurd (hd.symm.trans h) (by decide), fun q hq => .inl hq⟩
  · obtain ⟨es, hview, hkeep, hasked, honly⟩ := State.foldRetires_spec bs s
    exact ⟨es, hview, hkeep, fun _ => hasked, honly⟩

/-! ### Failed erases (R149) -/

/-- Blocks of the JOURNAL and LOG regions, fewer than 20 in all, put no store in DEGRADED. -/
theorem State.markBad_plain {s : State} {b : Nat} (hb : 6 ≤ b) (hcount : s.store.bad.length < 19)
    (hbad : ∀ x ∈ s.store.bad, 6 ≤ x) : s.markBad b = s.setStore { s.store with bad := addBad s.store.bad b } := by
  have hmem : ∀ x ∈ addBad s.store.bad b, 6 ≤ x := by
    unfold addBad
    split
    · exact hbad
    · intro x hx
      rcases List.mem_append.1 hx with hx | hx
      · exact hbad x hx
      · exact List.mem_singleton.1 hx ▸ hb
  have hlen : (addBad s.store.bad b).length < 20 := by
    unfold addBad
    split
    · omega
    · rw [List.length_append, List.length_singleton]
      omega
  have hplain : ¬degradedBy (addBad s.store.bad b) = true := by
    simp only [degradedBy, Bool.or_eq_true, List.any_eq_true, decide_eq_true_eq, not_or, not_exists, not_and]
    refine ⟨fun x hx => ?_, Nat.not_le.2 hlen⟩
    have := hmem x hx
    simp only [Region.holds, Bool.and_eq_true, decide_eq_true_eq]
    simp only [Region.first, Region.last]
    omega
  exact if_neg hplain

theorem mem_addBad (bad : List Nat) (b : Nat) : b ∈ addBad bad b ∧ ∀ x ∈ bad, x ∈ addBad bad b := by
  unfold addBad
  split
  · next h => exact ⟨h, fun x hx => hx⟩
  · exact ⟨List.mem_append_right _ List.mem_cons_self, fun x hx => List.mem_append_left _ hx⟩

/-- A failed erase-ahead names its next target among the erases, if the region has one. -/
theorem State.aheadFailed_spec (s : State) (q : EraseRequest) : ∃ es, s.aheadFailed q = s.withErases es ∧
    ∀ x, s.store.degraded = false → s.store.eraseLogActive = false →
      (q.purpose = .logAhead ∧ Region.log.next s.store.bad (some q.block) = some x) ∨
        (q.purpose = .journalAhead ∧ Region.journal.next s.store.bad (some q.block) = some x) →
      ∃ y ∈ es, y.block = x := by
  have hnext (r : Region) (p : ErasePurpose) : ∃ es, s.nextTarget r q.block p = s.withErases es ∧
      ∀ x, s.store.degraded = false → r.next s.store.bad (some q.block) = some x → ∃ y ∈ es, y.block = x := by
    unfold State.nextTarget
    split
    · next hd => exact ⟨s.store.erases, rfl, fun x h => absurd (hd.symm.trans h) (by decide)⟩
    · cases hn : r.next s.store.bad (some q.block) with
      | none => exact ⟨s.store.erases, rfl, fun x _ h => nomatch h⟩
      | some t =>
        obtain ⟨es, hview⟩ := s.requestErase_view ⟨t, p⟩
        refine ⟨es, hview, fun x _ h => ?_⟩
        obtain ⟨y, hy, hyb⟩ := (s.mem_requestErase ⟨t, p⟩ ⟨t, p⟩).2.2
        rw [hview] at hy
        cases h
        exact ⟨y, hy, hyb⟩
  unfold State.aheadFailed
  split
  · next hp =>
    obtain ⟨es, hview, hasked⟩ := hnext .journal .journalAhead
    refine ⟨es, hview, fun x hd _ h => ?_⟩
    rcases h with ⟨hl, -⟩ | ⟨-, hx⟩
    · rw [hp] at hl
      cases hl
    · exact hasked x hd hx
  · next hj =>
    split
    · split
      · next ha => exact ⟨_, rfl, fun x _ h => absurd (ha.symm.trans h) (by decide)⟩
      · obtain ⟨es, hview, hasked⟩ := hnext .log .logAhead
        exact ⟨es, hview, fun x hd _ h => hasked x hd (h.elim And.right fun h => absurd h.1 hj)⟩
    · next hl => exact ⟨s.store.erases, rfl, fun x _ _ h => absurd h (by simp [hl, hj])⟩

/-! ### The obligation -/

section
variable {s : State} {j : EraseJob} (hc : s.store.channel = .erasing j) (hsus : j.suspended = false) (h : Bool)
include hc hsus

/-- A failed erase of no retirement: its block is BAD, and all it changes is the store. -/
theorem State.eraseComplete_failed (hp : j.request.purpose ≠ .retire) (hb : 6 ≤ j.request.block)
    (hcount : s.store.bad.length < 19) (hbad : ∀ x ∈ s.store.bad, 6 ≤ x) : ∃ es active cur,
    s.eraseComplete false h = { s with store := { s.store with
      channel := .free, bad := addBad s.store.bad j.request.block, erases := es, eraseLogActive := active, logCur := cur
      flash := s.store.flash.write (unitAddr j.request.block 0)
        (if h then badHeader (regionOf j.request.block) else .garbled) } } ∧
    ∀ x, s.store.degraded = false → s.store.eraseLogActive = false →
      (j.request.purpose = .logAhead ∧ Region.log.next (addBad s.store.bad j.request.block) (some j.request.block) = some x) ∨
        (j.request.purpose = .journalAhead ∧
          Region.journal.next (addBad s.store.bad j.request.block) (some j.request.block) = some x) →
      ∃ y ∈ es, y.block = x := by
  let v : State := { s with store := { s.store with
    channel := .free, bad := addBad s.store.bad j.request.block
    flash := s.store.flash.write (unitAddr j.request.block 0)
      (if h then badHeader (regionOf j.request.block) else .garbled) } }
  have hfailed : (s.setStore { s.store with channel := .free }).eraseFailed j.request h = v.aheadFailed j.request := by
    refine (if_neg hp).trans ?_
    rw [State.markBad_plain hb (by exact hcount) (by exact hbad)]
    rfl
  obtain ⟨es₁, hahead, hasked⟩ := v.aheadFailed_spec j.request
  obtain ⟨es₂, hretires, hkeep, -, -⟩ := State.requestRetires_spec j.retire (v.withErases es₁)
  obtain ⟨active, cur, hend⟩ := State.endEraseLog_view ((v.withErases es₁).withErases es₂)
  refine ⟨es₂, active, cur, ?_, fun x hd ha hx => ?_⟩
  · rw [State.eraseComplete_of hc hsus, if_neg Bool.false_ne_true, hfailed, hahead, hretires, hend]
    rfl
  · obtain ⟨y, hy, hyb⟩ := hasked x hd ha hx
    exact ⟨y, hkeep y hy, hyb⟩

end

/-- Settles O54: an erase's start by the request at the head, its end by its purpose, a failed one by `markBad` and the
next target. -/
theorem erasesStartGiveWayAndEnd : Obligations.ErasesStartGiveWayAndEnd := by
  refine ⟨fun q rest s h he hp => ?_, fun target b n first pre post st hafter hpre hb hh =>
      Store.firstAfter_block hafter hpre hb hh, fun target n first c st hnone hc hh => Store.firstAfter_current hnone hc hh,
    fun r c target pre post st hafter hpre => Store.passedOver_eq hafter hpre, fun q rest s h he hp => ?_,
    fun q rest s h he => ?_, fun s h => ?_, fun j s hc hsus => ⟨fun hsince hreads => ?_, fun hno => ?_⟩,
    fun j h s hc hsus good => congrArg Host.Outcome.next (State.eraseComplete_suspended hc hsus good h),
    fun j h s hc hsus hret hp => ?_, fun j h s hc hsus hp ha hd => ?_,
    fun j h s hc hsus hret ha => ⟨fun hp => ?_, fun cfg place e n fails rest hp hw => ?_⟩,
    fun j h s hc hsus hp hb hcount hbad => ?_, fun f b a => f.read_clear b a⟩
  · let v := (s.setStore { s.store with erases := rest }).startErase q (s.store.passedOver .log s.store.logCur q.block)
    have hready : v.phase = .ready := State.ready_of_arbiter (s := s) h
    obtain ⟨ps, hview⟩ := v.advanceFirst_view (s.store.firstAfter q.block)
    refine ⟨_, congrArg Host.Outcome.next (State.eraseAheadStart_log h he hp), ?_, fun p => ?_⟩
    · show v.advanceFirst _ = _
      rw [hview]
      rfl
    · have hport := State.advanceFirst_port hready (s.store.firstAfter q.block) p
      have hfirst : (v.advanceFirst (s.store.firstAfter q.block)).store.firstSeq = s.store.firstAfter q.block := by rw [hview]
      show (behind _ (v.advanceFirst _).store.firstSeq _ = _ → (v.advanceFirst _).port p = _) ∧
        (behind _ (v.advanceFirst _).store.firstSeq _ = _ → (v.advanceFirst _).port p = _)
      rw [hport, hfirst, PortState.dragged_eq]
      exact ⟨fun hb => if_neg (Bool.eq_false_iff.1 hb), fun hb => if_pos hb⟩
  · intro way
    exact congrArg Host.Outcome.next ((State.eraseAheadStart_journal h he hp).trans rfl)
  · intro started
    refine ⟨fun hp => ?_, fun hp => ?_⟩
    · exact congrArg Host.Outcome.next ((hp ▸ State.eraseStart_of h he).trans rfl)
    · exact congrArg Host.Outcome.next ((hp ▸ State.eraseStart_of h he).trans rfl)
  · exact ⟨congrArg Host.Outcome.next (State.erase_ungranted h .retire).1,
      congrArg Host.Outcome.next (State.erase_ungranted h .retire).2,
      congrArg Host.Outcome.next (State.erase_ungranted h .eraseLog).2⟩
  · exact congrArg Host.Outcome.next (State.eraseSuspend_due hc ((State.suspendDue_iff hc hsus).2 ⟨hsince, hreads⟩))
  · refine congrArg Host.Outcome.next (if_neg fun hdue => ?_)
    obtain ⟨hsince, hreads⟩ := (State.suspendDue_iff hc hsus).1 hdue
    rcases hno with hno | hno
    · omega
    · exact hreads hno
  · show Host.Outcome.next (s.eraseComplete true h) = _
    rw [State.eraseComplete_of hc hsus, if_pos rfl, hret, State.requestRetires_nil, State.endEraseLog_eq]
    rcases hp with hp | hp
    · simp only [State.erased, hp, if_true]
      rfl
    · simp only [State.erased, hp, reduceCtorEq, if_false]
      rfl
  · have herased : (s.setStore { s.store with channel := .free }).erased j.request h =
        s.setStore { s.store with channel := .free } := by
      rcases hp with hp | hp <;> simp only [State.erased, hp]
    obtain ⟨es, hret, hkeep, hasked, honly⟩ :=
      State.requestRetires_spec j.retire (s.setStore { s.store with channel := .free })
    have hend : s.eraseComplete true h = (s.setStore { s.store with channel := .free }).withErases es := by
      rw [State.eraseComplete_of hc hsus, if_pos rfl, herased, hret, State.endEraseLog_idle (by exact ha)]
    exact ⟨_, congrArg Host.Outcome.next hend, rfl, hkeep, hasked hd, honly⟩
  · show Host.Outcome.next (s.eraseComplete true h) = _
    rw [State.eraseComplete_of hc hsus, if_pos rfl, hret, State.requestRetires_nil]
    simp only [State.erased, hp]
    rw [State.endEraseLog_idle (by exact ha)]
    rfl
  · show Host.Outcome.next (s.eraseComplete true h) = _
    rw [State.eraseComplete_of hc hsus, if_pos rfl, hret, State.requestRetires_nil]
    have hw' : (s.setStore { s.store with channel := .free }).store.class4 = .save cfg place e n fails :: rest := hw
    simp only [State.erased, hp, hw']
    rw [State.endEraseLog_idle (by exact ha), State.setHeadWork, hw']
    rfl
  · obtain ⟨es, active, cur, hend, hasked⟩ := State.eraseComplete_failed hc hsus h hp hb hcount hbad
    refine ⟨_, congrArg Host.Outcome.next hend, rfl, (mem_addBad _ _).1, rfl, fun hlt => ?_, hasked⟩
    refine (Flash.headerOf_write hlt _).trans ?_
    cases h <;> rfl

end Sys2Proof.Machine

end

section
/-! PROOFS. The end of a unit program (O53). -/

namespace Sys2Proof.Machine

-- one theorem at a time: many elaborated side by side would take a thread and its stack each
set_option Elab.async false

/-! ### The verify decides what becomes of the unit (R138, R139, R148) -/

/-- The channel free, and what the program left in the array, as its unit comes to an end. -/
def State.unitEnded (s : State) (j : ProgramJob) (u : FlashUnit) : State :=
  s.setStore { s.store with flash := s.store.flash.write j.addr u, channel := .free }

section
variable {s : State} {j : ProgramJob} {e : Nat} (hch : s.store.channel = .programming j e)
include hch

theorem State.exec_unitVerified (hnone : j.header = none) (h : Bool) :
    exec (.unitProgramComplete h true) s = .next ((s.unitEnded j j.content).programmed j.purpose) := by
  simp [exec, execUnitProgramComplete, State.programComplete, State.unitEnded, ProgramJob.written, hch, hnone]

theorem State.exec_unitFailed (hnone : j.header = none) (h : Bool) :
    exec (.unitProgramComplete h false) s = .next ((s.unitEnded j .garbled).unitFailed j.purpose (j.addr / 256)) := by
  simp [exec, execUnitProgramComplete, State.programComplete, State.unitEnded, ProgramJob.written, hch, hnone, blockOf]

theorem State.exec_headerFailed {x : FlashUnit} (hsome : j.header = some x) (u : Bool) :
    exec (.unitProgramComplete false u) s = .next ((s.setStore { s.store with
      flash := j.written s.store.flash false u, channel := .free }).markBad (j.addr / 256)) := by
  simp [exec, execUnitProgramComplete, State.programComplete, hch, hsome, blockOf]

end

section
variable {s : State} {c : CurrentBlock} (hcur : s.store.logCur = some c)
include hcur

/-- A failed record counts against the current block, which a second failure marks BAD (R148). -/
theorem State.recordFailed_eq (r : LogRecord) : s.unitFailed (.record r) c.block =
    (s.setStore { s.store with logCur := some { c with failures := c.failures + 1 } }).markIfSecond c.block
      (c.failures + 1) := by
  simp [State.unitFailed, countFailure, failuresOf, hcur]

theorem State.recordFailed_first (r : LogRecord) (h : c.failures = 0) : s.unitFailed (.record r) c.block =
    s.setStore { s.store with logCur := some { c with failures := 1 } } := by
  rw [State.recordFailed_eq hcur r, h]
  rfl

theorem State.recordFailed_second (r : LogRecord) (h : c.failures = 1) : s.unitFailed (.record r) c.block =
    (s.setStore { s.store with logCur := some { c with failures := 2 } }).markBad c.block := by
  rw [State.recordFailed_eq hcur r, h]
  rfl

end

/-! ### Held replies after an event -/

/-- The request a port holds is still there as the work it waits for is reported. -/
theorem State.replyHeld_raised {s : State} {p : Port} {code : Byte} (k : EventKind) (a : Answer)
    (hreq : (s.port p).request = some code) :
    (s.raiseAll k).replyHeld (some p) a = (s.raiseAll k).answered p code a.status a.payload :=
  State.reply_some _ _ _ _ (((s.raiseAll_slots k) p).1.trans hreq)

/-! ### The last unit of a trailer ends CLOSING (R102, R157) -/

/-- The state once the run whose trailer is programmed has ended. -/
def State.trailerEnded (s : State) (j : ProgramJob) (c : CloseRecord) (rest : List QueuedEntry) : State :=
  { s with
    store := { s.store with flash := s.store.flash.write j.addr j.content, channel := .free, journalQueue := rest }
    run := none
    gaugings := if c.result = RunResult.abandoned then s.gaugings else joinList s.gaugings c }.raiseAll .runClosed

section
variable {s : State} {j : ProgramJob} {c : CloseRecord} {rest : List QueuedEntry} {r : Run}

theorem State.trailerDone_eq (hq : s.store.journalQueue = ⟨.trailer c, 1⟩ :: rest) (hr : s.run = some r)
    (hc : r.closeRec = some c) (hn : r.notStored = c.notStored) : (s.unitEnded j j.content).entryDone =
      (s.trailerEnded j c rest).afterClosing r.ending c r.replyTo := by
  have hdone : (s.unitEnded j j.content).entryDone =
      ((s.unitEnded j j.content).setStore { (s.unitEnded j j.content).store with journalQueue := rest }).endClosing := by
    simp [State.entryDone, State.unitEnded, hq, JournalEntry.units, State.entryReported]
  have hsame : ({ c with notStored := r.notStored } : CloseRecord) = c := by rw [hn]
  have hclose (w : State) (hw : w.run = some r) : w.endClosing =
      (((w.setRun none).joinGaugings c).raiseAll .runClosed).afterClosing r.ending c r.replyTo := by
    rw [State.endClosing_eq w hw hc, hsame]
  rw [hdone, hclose _ (by exact hr), State.joinGaugings_eq]
  rfl

theorem State.trailerEnded_request (p : Port) : ((s.trailerEnded j c rest).port p).request = (s.port p).request :=
  ((State.raiseAll_slots _ _) p).1

theorem State.trailerEnded_lockedOut : (s.trailerEnded j c rest).lockedOut = s.lockedOut := by
  simp [State.trailerEnded, State.lockedOut]

theorem State.trailerEnded_newRun (d : RunDescription) : (s.trailerEnded j c rest).newRun d = s.newRun d := by
  simp [State.trailerEnded, State.newRun, State.newestStage]

/-- The reply that waited for the trailer. -/
theorem State.trailerEnded_replies {p : Port} {code : Byte} (a : Answer) (hreq : (s.port p).request = some code) :
    (s.trailerEnded j c rest).replyHeld (some p) a = (s.trailerEnded j c rest).answered p code a.status a.payload :=
  State.reply_some _ _ _ _ ((State.trailerEnded_request p).trans hreq)

/-- The run that waited behind the run now ended opens and is answered (R92). -/
theorem State.trailerEnded_opens {p : Port} {d : RunDescription} {code : Byte} (hreq : (s.port p).request = some code)
    (hl : s.lockedOut = false) (hd : s.store.degraded = false) :
    (s.trailerEnded j c rest).openAfter d c (some p) = ((s.trailerEnded j c rest).openRun d).answered p code .ok
      (openPayload (s.newRun d) (some (c.runId, c.result))) := by
  have hd' : (s.trailerEnded j c rest).store.degraded = false := by simp [State.trailerEnded, hd]
  rw [State.openAfter_opens d c (some p) (State.trailerEnded_lockedOut.trans hl) hd', State.trailerEnded_newRun]
  refine State.reply_some _ _ _ _ ?_
  rw [State.openRun_eq _ _ hd']
  exact (State.trailerEnded_request p).trans hreq

end

/-! ### The entry to DEGRADED (R62, R150, R151) -/

/-- A count of 20 BAD blocks puts the store in DEGRADED. -/
theorem State.markBad_limit {s : State} {b : Nat} (hnew : b ∉ s.store.bad) (hcount : s.store.bad.length = 19) :
    s.markBad b = (s.setStore { s.store with bad := s.store.bad ++ [b] }).enterDegraded := by
  have hadd : addBad s.store.bad b = s.store.bad ++ [b] := if_neg hnew
  have hdegraded : degradedBy (s.store.bad ++ [b]) = true := by
    simp [degradedBy, badLimit, hcount]
  unfold State.markBad
  rw [hadd]
  exact if_pos hdegraded

section
variable {s : State} {r : Run} (hr : s.run = some r) (hc : r.closeRec = none)
include hr hc

/-- A run that is not closing is only marked, whatever entry of its was not kept. -/
theorem State.mapRun_markNotStored_run : (s.mapRun Run.markNotStored).run = some r.markNotStored ∧
    (s.mapRun Run.markNotStored).endClosing.run = some r.markNotStored := by
  have hmark : (s.mapRun Run.markNotStored).run = some r.markNotStored := congrArg (Option.map Run.markNotStored) hr
  have hend : (s.mapRun Run.markNotStored).endClosing = s.mapRun Run.markNotStored := by
    simp only [State.endClosing, hmark, show r.markNotStored.closeRec = none from hc]
  exact ⟨hmark, hend.symm ▸ hmark⟩

theorem State.notKept_run (q : QueuedEntry) : (s.notKept q).run = some r.markNotStored := by
  unfold State.notKept
  split
  · exact (State.mapRun_markNotStored_run hr hc).2
  · exact (State.mapRun_markNotStored_run hr hc).1

theorem State.foldNotKept_run (q : QueuedEntry) (qs : List QueuedEntry) :
    ((q :: qs).foldl State.notKept s).run = some r.markNotStored := by
  induction qs generalizing s r q with
  | nil => exact State.notKept_run hr hc q
  | cons x rest ih => exact ih (r := r.markNotStored) (State.notKept_run hr hc q) hc x

theorem State.dropHeldTrailer_run (hmarked : r.notStored = true) : s.dropHeldTrailer.run = some r := by
  have hsame : r.markNotStored = r := by rw [Run.markNotStored, ← hmarked]
  unfold State.dropHeldTrailer
  split
  · exact (State.mapRun_markNotStored_run hr hc).2.trans (congrArg some hsame)
  · exact hr

/-- A queue that is not empty marks the run that wrote into it (R110, R151). -/
theorem State.discardJournal_run (hq : s.store.journalQueue ≠ []) : s.discardJournal.run = some r.markNotStored := by
  obtain ⟨q, qs, hqs⟩ := List.exists_cons_of_ne_nil hq
  unfold State.discardJournal
  refine State.dropHeldTrailer_run ?_ hc rfl
  rw [hqs]
  exact State.foldNotKept_run (s := s.setStore { s.store with journalQueue := [] }) hr hc q qs

end

/-- With no run, no entry is reported to anyone. -/
theorem State.discardJournal_idle {s : State} (hr : s.run = none) :
    s.discardJournal = s.setStore { s.store with journalQueue := [] } := by
  have hmap (w : State) (hw : w.run = none) : w.mapRun Run.markNotStored = w := by
    cases w
    cases hw
    rfl
  have hend (w : State) (hw : w.run = none) : w.endClosing = w := by simp only [State.endClosing, hw]
  have hkept (w : State) (hw : w.run = none) (q : QueuedEntry) : w.notKept q = w := by
    unfold State.notKept
    rw [hmap w hw, hend w hw]
    split <;> rfl
  have hfold (w : State) (hw : w.run = none) (qs : List QueuedEntry) : qs.foldl State.notKept w = w := by
    induction qs with
    | nil => rfl
    | cons q qs ih => rw [List.foldl_cons, hkept w hw q, ih]
  unfold State.discardJournal
  rw [hfold _ (by exact hr), State.dropHeldTrailer, State.holdsTrailer]
  simp only [State.setStore, hr, Bool.false_eq_true, if_false]

section
variable (s : State)

theorem State.discardJournal_store (h : s.store.degraded = true) :
    s.discardJournal.store = { s.store with journalQueue := [] } := by
  obtain ⟨-, hfold⟩ := State.foldNotKept_keeps (but := []) (s.setStore { s.store with journalQueue := [] })
    s.store.journalQueue h
  have hdrop (w : State) (hw : w.store.degraded = true) : w.dropHeldTrailer.store = w.store := by
    unfold State.dropHeldTrailer
    split
    · exact (State.endClosing_store_degraded _ (by simpa using hw)).trans (by simp)
    · rfl
  unfold State.discardJournal
  rw [hdrop _ (by rw [hfold]; exact h), hfold]
  rfl

theorem State.failWork_stays (w : Class4) : (s.failWork w).store = s.store ∧ (s.failWork w).run = s.run := by
  cases w with
  | image =>
    unfold State.failWork State.abandonActivation
    dsimp only
    split <;> simp
  | save => exact ⟨rfl, rfl⟩
  | ident chars fails p => exact ⟨State.replyHeld_store .., State.replyHeld_run ..⟩

/-- Work that fails touches neither the store, but for the work itself, nor the run. -/
theorem State.failAllWork_stays :
    s.failAllWork.store = { s.store with class4 := [] } ∧ s.failAllWork.run = s.run := by
  have hfold (ws : List Class4) (w : State) :
      (ws.foldl State.failWork w).store = w.store ∧ (ws.foldl State.failWork w).run = w.run := by
    induction ws generalizing w with
    | nil => exact ⟨rfl, rfl⟩
    | cons x xs ih => exact ⟨(ih _).1.trans (w.failWork_stays x).1, (ih _).2.trans (w.failWork_stays x).2⟩
  exact hfold _ _

end

/-- An image that ends with a failure abandons its activation, and the reply that waited is returned (R62). -/
theorem State.failAllWork_image {s : State} {f : InFlight} {p : Port} {set : RatingSet} {n k : Nat} {begun : Bool}
    {code : Byte} (hwork : s.store.class4 = [.image set n k begun]) (hf : s.rating.inFlight = some f)
    (hto : f.replyTo = some p) (hreq : (s.port p).request = some code) :
    s.failAllWork.rating = { s.rating with inFlight := none, draft := s.rating.draftRestored f } ∧
      s.failAllWork.port p = { s.port p with request := none, reply := some ⟨.storeFault, code, [], false⟩ } := by
  have hend : s.failAllWork = { s with
      store := { s.store with class4 := [] }
      rating := { s.rating with draft := s.rating.draftRestored f, inFlight := none } }.answered p code .storeFault [] := by
    unfold State.failAllWork
    rw [hwork]
    simp only [List.foldl_cons, List.foldl_nil, State.failWork, State.abandonActivation, State.setStore, hf, hto,
      State.replyHeld]
    exact State.reply_some _ _ _ _ hreq
  rw [hend, State.answered_rating, State.answered_port]
  exact ⟨rfl, rfl⟩

/-- The same behind the queue, which touches nothing but itself where no run stands. -/
theorem State.queueAndImage_fail {s : State} {f : InFlight} {p : Port} {set : RatingSet} {n k : Nat} {begun : Bool}
    {code : Byte} (hwork : s.store.class4 = [.image set n k begun]) (hr : s.run = none)
    (hf : s.rating.inFlight = some f) (hto : f.replyTo = some p) (hreq : (s.port p).request = some code) :
    s.discardJournal.failAllWork.rating = { s.rating with inFlight := none, draft := s.rating.draftRestored f } ∧
      s.discardJournal.failAllWork.port p = { s.port p with
        request := none, reply := some ⟨.storeFault, code, [], false⟩ } := by
  rw [State.discardJournal_idle hr]
  exact State.failAllWork_image (s := s.setStore { s.store with journalQueue := [] }) hwork hf hto hreq

/-- The store once it is DEGRADED (R151; log 42). -/
def Store.failed (st : Store) : Store :=
  { st with
    degraded := true, erases := [], eraseLogActive := false, firstSeq := st.ringFirst, journalQueue := [], class4 := [] }

/-- The state with STORE_FAULT raised and the log the ring alone, its queue and its work still to be ended. -/
def State.ringFaulted (s : State) : State :=
  ((s.setStore { s.store with degraded := true }).raiseAll .storeFault).ringAlone

section
variable (s : State)

theorem State.ringFaulted_store : s.ringFaulted.store = { s.store with
    degraded := true, erases := [], eraseLogActive := false, firstSeq := s.store.ringFirst } := by
  unfold State.ringFaulted State.ringAlone
  rw [State.advanceFirst_store]
  simp
  rfl

theorem State.ringFaulted_stays : s.ringFaulted.run = s.run ∧ s.ringFaulted.rating = s.rating := by
  simp [State.ringFaulted, State.ringAlone]

theorem State.ringFaulted_slots : s.SlotsStay s.ringFaulted :=
  .trans (t := s.setStore { s.store with degraded := true }) .of_ports
    ((State.raiseAll_slots _ _).trans (.trans .of_ports (State.advanceFirst_slots _ _)))

theorem State.ringFaulted_pending (h : s.phase = .ready) : s.ringFaulted.pendingWhereEnabled .storeFault :=
  (State.ringAlone_keeps _).pending (State.raiseAll_pendingWhere h)

variable {s} (hd : s.store.degraded = false)
include hd

theorem State.enterDegraded_eq : s.enterDegraded = s.ringFaulted.discardJournal.failAllWork :=
  if_neg (by rw [hd]; decide)

theorem State.enterDegraded_store : s.enterDegraded.store = s.store.failed := by
  have hdegraded : s.ringFaulted.store.degraded = true := by rw [State.ringFaulted_store]
  rw [State.enterDegraded_eq hd, (State.failAllWork_stays _).1, State.discardJournal_store _ hdegraded,
    State.ringFaulted_store]
  rfl

theorem State.enterDegraded_pending (h : s.phase = .ready) : s.enterDegraded.pendingWhereEnabled .storeFault := by
  have hdegraded : s.ringFaulted.store.degraded = true := by rw [State.ringFaulted_store]
  rw [State.enterDegraded_eq hd]
  exact ((State.discardJournal_keeps _ hdegraded).trans (State.failAllWork_keeps _)).pending (s.ringFaulted_pending h)

theorem State.enterDegraded_run {r : Run} (hr : s.run = some r) (hc : r.closeRec = none)
    (hq : s.store.journalQueue ≠ []) : s.enterDegraded.run = some r.markNotStored := by
  rw [State.enterDegraded_eq hd, (State.failAllWork_stays _).2]
  exact State.discardJournal_run (s.ringFaulted_stays.1.trans hr) hc (by rw [State.ringFaulted_store]; exact hq)

/-- The activation whose image waited is abandoned, and its reply returned (R62, R151). -/
theorem State.enterDegraded_abandons {f : InFlight} {p : Port} {set : RatingSet} {n k : Nat} {begun : Bool} {code : Byte}
    (hwork : s.store.class4 = [.image set n k begun]) (hr : s.run = none) (hf : s.rating.inFlight = some f)
    (hto : f.replyTo = some p) (hreq : (s.port p).request = some code) :
    s.enterDegraded.rating = { s.rating with inFlight := none, draft := s.rating.draftRestored f } ∧
      s.enterDegraded.port p = { s.ringFaulted.port p with
        request := none, reply := some ⟨.storeFault, code, [], false⟩ } := by
  obtain ⟨hrun, hrating⟩ := s.ringFaulted_stays
  have hwork' : s.ringFaulted.store.class4 = [.image set n k begun] := by rw [State.ringFaulted_store, hwork]
  obtain ⟨hended, hport⟩ := State.queueAndImage_fail hwork' (hrun.trans hr)
    ((congrArg RatingUnit.inFlight hrating).trans hf) hto (((s.ringFaulted_slots p).1).trans hreq)
  rw [State.enterDegraded_eq hd, hended, hport, hrating]
  exact ⟨rfl, rfl⟩

end

/-! ### The statement -/

/-- Settles O53: the verify outcomes decide what becomes of the unit, and each purpose moves its own work on. The entry to
DEGRADED is read off its four parts, of which only the ends of the queue and of the work can touch the run and the
rating. -/
theorem unitProgramsEndInProgress : Obligations.UnitProgramsEndInProgress := by
  unfold Obligations.UnitProgramsEndInProgress
  refine ⟨?_, ?_, ?_, ?_, ?_, ?_, ?_, ?_, ?_, ?_⟩
  · intro j e r rest h s hch hnone hp hb
    rw [State.exec_unitVerified hch hnone h, hp]
    refine congrArg Host.Outcome.next ?_
    simp [State.programmed, State.recordDone, State.unitEnded, State.setStore, hb]
  · intro j e r c h s hch hnone hp hcur hblock hfail
    rw [State.exec_unitFailed hch hnone h, hp, ← hblock,
      State.recordFailed_first (s := s.unitEnded j .garbled) hcur r hfail]
    rfl
  · intro j e r c h s hch hnone hp hcur hblock hfail hb hcount hbad
    have hexec : exec (.unitProgramComplete h false) s = .next ((s.unitEnded j .garbled).setStore {
        (s.unitEnded j .garbled).store with
          logCur := some { c with failures := 2 }, bad := addBad s.store.bad c.block }) := by
      rw [State.exec_unitFailed hch hnone h, hp, ← hblock,
        State.recordFailed_second (s := s.unitEnded j .garbled) hcur r hfail]
      exact congrArg Host.Outcome.next (State.markBad_plain (by omega) hcount hbad)
    exact ⟨_, hexec, rfl, (mem_addBad _ _).1, (mem_addBad _ _).2, rfl, rfl, rfl⟩
  · intro j e x u s hch hsome hb hcount hbad
    refine ⟨_, (State.exec_headerFailed hch hsome u).trans (congrArg Host.Outcome.next
      (State.markBad_plain hb hcount hbad)), rfl, (mem_addBad _ _).1, rfl, rfl, rfl⟩
  · intro j e c rest r p h s hch hnone hp hq hr hc hend hn hresult hto hreq
    rw [State.exec_unitVerified hch hnone h, hp]
    refine congrArg Host.Outcome.next ((State.trailerDone_eq hq hr hc hn).trans ?_)
    rw [hend, hto]
    refine (State.trailerEnded_replies ⟨.ok, closePayload c⟩ hreq).trans ?_
    rw [State.trailerEnded, if_neg hresult, closePayload, saturate_eq_min]
  · intro j e n set begun rest f p h s hch hnone hp hwork hf hto hreq
    rw [State.exec_unitVerified hch hnone h, hp]
    refine congrArg Host.Outcome.next ?_
    have hdone : (s.unitEnded j j.content).workDone = (s.unitEnded j j.content).popWork.exchange := by
      simp [State.workDone, State.unitEnded, hwork, imageUnits]
    refine hdone.trans ?_
    have hpop : (s.unitEnded j j.content).popWork = { s with store := { s.store with
        flash := s.store.flash.write j.addr j.content, channel := .free, class4 := rest } } := by
      simp [State.popWork, State.unitEnded, State.setStore, hwork]
    rw [hpop]
    simp only [State.exchange, hf, hto]
    exact State.replyHeld_raised _ _ hreq
  · intro j e next fails cfg rest h s hch hnone hp hwork
    rw [State.exec_unitVerified hch hnone h, hp]
    refine congrArg Host.Outcome.next ?_
    simp [State.programmed, State.workDone, State.popWork, State.unitEnded, State.setStore, hwork]
  · intro j e fails chars rest p h s hch hnone hp hwork hreq ended
    have hpop (u : FlashUnit) : (s.unitEnded j u).popWork = ended u rest := by
      simp [State.popWork, State.unitEnded, State.setStore, hwork, ended]
    have hreply (u : FlashUnit) (a : Answer) :
        (s.unitEnded j u).popWork.replyHeld (some p) a = (ended u rest).answered p 0x64#8 a.status a.payload := by
      rw [hpop]
      exact State.reply_some _ _ _ _ hreq
    refine ⟨?_, fun hfail => ?_, fun hfail => ?_⟩
    · rw [State.exec_unitVerified hch hnone h, hp]
      refine congrArg Host.Outcome.next (Eq.trans ?_ (hreply j.content ⟨.ok, []⟩))
      simp only [State.programmed, State.workDone, State.unitEnded, State.setStore, hwork]
    · rw [State.exec_unitFailed hch hnone h, hp]
      refine congrArg Host.Outcome.next ?_
      simp [State.unitFailed, State.workFailed, State.setHeadWork, State.unitEnded, State.setStore, hwork, hfail, ended]
    · rw [State.exec_unitFailed hch hnone h, hp]
      refine congrArg Host.Outcome.next (Eq.trans ?_ (hreply .garbled ⟨.storeFault, []⟩))
      simp only [State.unitFailed, State.workFailed, State.unitEnded, State.setStore, hwork, hfail, if_true]
  · intro j e c rest r h s hch hnone hp hq hr hc hn ended
    have hexec : exec (.unitProgramComplete h true) s =
        .next ((s.trailerEnded j c rest).afterClosing r.ending c r.replyTo) := by
      rw [State.exec_unitVerified hch hnone h, hp]
      exact congrArg Host.Outcome.next (State.trailerDone_eq hq hr hc hn)
    rw [hexec]
    refine ⟨fun p hend hto hreq => ?_, fun hend => ?_, fun d p hend hto hreq => ⟨fun hl => ?_, fun hl hd => ?_,
      fun hl hd => ?_⟩⟩
    · rw [hend, hto]
      exact congrArg Host.Outcome.next (State.trailerEnded_replies ⟨.ok, abandonPayload c⟩ hreq)
    · rw [hend]
      rfl
    · rw [hend, hto]
      have hopen : (s.trailerEnded j c rest).openAfter d c (some p) =
          (s.trailerEnded j c rest).replyHeld (some p) ⟨.lockout, []⟩ :=
        if_pos (State.trailerEnded_lockedOut.trans hl)
      exact congrArg Host.Outcome.next (hopen.trans (State.trailerEnded_replies _ hreq))
    · rw [hend, hto]
      have hdegraded : (s.trailerEnded j c rest).store.degraded = true := by simp [State.trailerEnded, hd]
      have hopen : (s.trailerEnded j c rest).openAfter d c (some p) =
          (s.trailerEnded j c rest).replyHeld (some p) ⟨.storeFault, []⟩ :=
        (if_neg (by rw [State.trailerEnded_lockedOut, hl]; decide)).trans (if_pos hdegraded)
      exact congrArg Host.Outcome.next (hopen.trans (State.trailerEnded_replies _ hreq))
    · rw [hend, hto]
      have hdegraded : (s.trailerEnded j c rest).store.degraded = false := by simp [State.trailerEnded, hd]
      have hopen := State.openRun_eq (s.trailerEnded j c rest) d hdegraded
      refine ⟨_, s.newRun d, congrArg Host.Outcome.next (State.trailerEnded_opens hreq hl hd), ?_⟩
      have hnew : (s.trailerEnded j c rest).newRun d = s.newRun d := State.trailerEnded_newRun d
      rw [hopen, hnew]
      refine ⟨rfl, rfl, rfl, rfl, rfl, rfl, ?_, rfl, ?_, ?_, ?_⟩
      · simp [State.trailerEnded, State.newRun]
      · simp [State.trailerEnded, Run.header]
      · rw [State.answered_port]
      · rw [State.answered_port]
        rfl
  · intro j e r c h s hready hch hnone hp hcur hblock hfail hnew hcount hd
    have hfailed : exec (.unitProgramComplete h false) s = .next ((s.unitEnded j .garbled).setStore {
        (s.unitEnded j .garbled).store with
          logCur := some { c with failures := 2 }, bad := s.store.bad ++ [c.block] }).enterDegraded := by
      rw [State.exec_unitFailed hch hnone h, hp, ← hblock,
        State.recordFailed_second (s := s.unitEnded j .garbled) hcur r hfail]
      exact congrArg Host.Outcome.next (State.markBad_limit hnew hcount)
    obtain ⟨u, hu⟩ : ∃ u, u = (s.unitEnded j .garbled).setStore { (s.unitEnded j .garbled).store with
        logCur := some { c with failures := 2 }, bad := s.store.bad ++ [c.block] } := ⟨_, rfl⟩
    have hbad : u.store.bad = s.store.bad ++ [c.block] := hu ▸ rfl
    have hbuffer : u.store.buffer = s.store.buffer := hu ▸ rfl
    have hnext : u.store.nextSeq = s.store.nextSeq := hu ▸ rfl
    have hwork : u.store.class4 = s.store.class4 := hu ▸ rfl
    have hqueue : u.store.journalQueue = s.store.journalQueue := hu ▸ rfl
    have hphase : u.phase = s.phase := hu ▸ rfl
    have hrun : u.run = s.run := hu ▸ rfl
    have hrating : u.rating = s.rating := hu ▸ rfl
    have hport (p : Port) : u.port p = s.port p := hu ▸ rfl
    have hplain : u.store.degraded = false := hu ▸ hd
    rw [← hu] at hfailed
    refine ⟨_, hfailed, ?_⟩
    rw [State.enterDegraded_store hplain]
    refine ⟨rfl, hbad, rfl, rfl, rfl, rfl, hbuffer, ?_, State.enterDegraded_pending hplain (hphase.trans hready), ?_, ?_⟩
    · show u.store.ringFirst = _
      rw [Store.ringFirst, hbuffer, hnext]
      cases s.store.buffer <;> rfl
    · intro x hx _ hentry hclose
      obtain ⟨q, hq, -⟩ := hentry
      have hqueued : u.store.journalQueue ≠ [] := by
        rw [hqueue]
        exact List.ne_nil_of_mem hq
      exact ⟨x.markNotStored, State.enterDegraded_run hplain (hrun.trans hx) hclose hqueued, rfl, rfl, rfl⟩
    · intro f p set n k begun himage hidle hf hto howner hreq
      obtain ⟨hended, hslot⟩ := State.enterDegraded_abandons hplain (hwork.trans himage) (hrun.trans hidle)
        ((congrArg RatingUnit.inFlight hrating).trans hf) hto ((congrArg PortState.request (hport p)).trans hreq)
      rw [hended, hslot, hrating, RatingUnit.draftRestored, howner]
      exact ⟨rfl, rfl, rfl⟩

end Sys2Proof.Machine

end
